-- ==== Sys2Proof/Word.lean ====
section
/-! DEFINITION. The names of the MP410's parts: bytes, axes, slots, blocks, ports, directions. -/

namespace Sys2Proof

/-- One byte of a frame (R188). -/
abbrev Byte := BitVec 8

/-- An axis number, 0..9 (R1). -/
abbrev Axis := Fin 10

/-- A profile slot index, 0..47 (R98). -/
abbrev SlotIx := Fin 48

/-- A logical block number, 0..50 (R148): the slots, 48 the default, 49 the van record, 50 the snapshot. -/
abbrev BlockIx := Fin 51

/-- A physical block (R148): the home block of each logical block, and 51 for the spare. -/
abbrev PhysIx := Fin 52

/-- The three ports, in the order of the code set "requesting port" (R189). -/
inductive Port where
  | vehicle | fleet | panel
  deriving DecidableEq, Repr

/-- Motor directions (conventions of 00_scope.md), in the order of their codes (R189). -/
inductive Dir where
  | up | down
  deriving DecidableEq, Repr

/-- The other direction. -/
def Dir.flip : Dir → Dir
  | .up => .down
  | .down => .up

namespace Axis

abbrev slide : Axis := 0
abbrev lift : Axis := 1
abbrev tilt : Axis := 2
abbrev recline : Axis := 3
abbrev rake : Axis := 4
abbrev reach : Axis := 5
abbrev lmh : Axis := 6
abbrev lmv : Axis := 7
abbrev rmh : Axis := 8
abbrev rmv : Axis := 9

end Axis

/-- All axes, in axis order. -/
def allAxes : List Axis := [0, 1, 2, 3, 4, 5, 6, 7, 8, 9]

end Sys2Proof
end

