-- ==== Sys2Proof/Config.lean ====
section
/-! DEFINITION. The values the spec leaves open: constants with no body, so that nothing can be proved of them. -/

namespace Sys2Proof

/-- What a failed attempt can leave in its target block (R156: "an unknown condition"). -/
inductive BlockLeft where
  | old | blank | corrupt | programmed
  deriving DecidableEq, Repr, Inhabited

/-- FREE VALUE (log 9): how the n-th failed attempt leaves its target block, where R156 does not say. -/
opaque Config.blockLeft : Nat → BlockLeft

/-- FREE VALUE (log 11): which of the orders of the three ports is taken at the n-th end of WAKING that
finds requests held at more than one port; R172 gives no order. -/
opaque Config.portOrder : Nat → Nat

/-- FREE VALUE (log 14): the request code echoed by a BAD_FRAME response to a frame that holds no code byte. -/
opaque Config.headerlessCode : Byte

end Sys2Proof
end

