-- ==== Sys2Proof/Syntax.lean ====
section
/-! DEFINITION. The commands of the part: one constructor of `Instr` per row of spec/opcode_table.json, with the
operands its rule gives. The operands of a request are the raw fields of its frame (R189 to R191). -/

namespace Sys2Proof

/-- Ten position fields as they cross the fleet port (R190), each two bytes. -/
abbrev PositionFields := Vector (BitVec 16) 10

/-- The profile record LOAD_PROFILE carries, bytes 0 to 26 of R190. -/
structure ProfileFields where
  driver    : BitVec 32
  revision  : BitVec 16
  positions : PositionFields
  exit      : Byte
  deriving DecidableEq, Repr

/-- One nine-byte axis entry of a WRITE_CALIBRATION frame (R191): byte 0, then four two-byte fields. -/
structure CalEntry where
  head   : Byte
  field1 : BitVec 16
  field2 : BitVec 16
  field3 : BitVec 16
  field4 : BitVec 16
  deriving DecidableEq, Repr

/-- How a loss of supply leaves the block under write (R163): what the array had physically done. The erase or program
of the attempt had been cut short, or had completed; or the loss fell between attempts, before the erase of a further
attempt had begun. -/
inductive TornAs where
  | cutShort | completed | betweenAttempts
  deriving DecidableEq, Repr

/-- The commands: one row of spec/opcode_table.json each, in the table's order. -/
inductive Instr where
  | writeRequest (p : Port) (frame : List Byte)
  | writeRequestHeader (p : Port)
  | readResponse (p : Port) (clocked : Nat)
  | readEvent (p : Port) (clocked : Nat)
  | readPortStatus (p : Port) (clocked : Nat)
  | disregardedTransaction (p : Port) (header : Byte) (clocked : Nat)
  | vehicleState (speed gear ignition door supply : Byte)
  | park
  | deviceReset
  | assignDriver (id : BitVec 32) (flags : Byte)
  | releaseDriver
  | loadProfile (record : ProfileFields) (force : Byte)
  | loadDefault (positions : PositionFields) (exit : Byte)
  | readProfile (selector : Byte) (named : BitVec 32)
  | deleteProfile (id : BitVec 32)
  | pinProfile (id : BitVec 32) (pin : Byte)
  | readDirty
  | syncMark (slot : Byte) (revision : BitVec 16)
  | writeCalibration (policy : Byte) (entries : List CalEntry)
  | readVanRecord
  | setEnableMask (mask : BitVec 16)
  | readHistory (index : Byte)
  | readCounters
  | readStoreStatus
  | normalise (p : Port) (axis : Byte)
  | jog (axis dir : Byte)
  | jogEnd (axis : Byte)
  | recall
  | store
  | undo
  | setExitDistance (d : Byte)
  | readAxes (p : Port)
  | stopAll (p : Port)
  | hallPulse (a : Axis)
  | mirrorSample (a : Axis) (raw : BitVec 10)
  | doorWakeEdge
  | powerOn (straps : BitVec 10) (decayed : List PhysIx)
  | supplyLoss (torn : TornAs)
  | coastEnd (a : Axis)
  | stall (a : Axis)
  | heatInterval (a : Axis)
  | runTimeInterval (a : Axis)
  | timeLimitExpiry (a : Axis)
  | keepAliveExpiry (a : Axis)
  | progressTimerExpiry
  | freshnessExpiry
  | settleExpiry
  | eraseTimerExpiry
  | eraseComplete (good late : Bool)
  | programTimerExpiry
  | programComplete (equal late : Bool)
  | chipSelectAsserted (p : Port)
  deriving DecidableEq, Repr

/-- The four transactions at a port that a header byte names (R177, R188). -/
inductive Transaction where
  | writeRequest | readResponse | readEvent | readPortStatus
  deriving DecidableEq, Repr

/-- A request as its frame carries it (catalogue of section 10.5), in the order of the request codes (R189). -/
inductive Request where
  | vehicleState (speed gear ignition door supply : Byte)
  | park
  | deviceReset
  | assignDriver (id : BitVec 32) (flags : Byte)
  | releaseDriver
  | loadProfile (record : ProfileFields) (force : Byte)
  | loadDefault (positions : PositionFields) (exit : Byte)
  | readProfile (selector : Byte) (named : BitVec 32)
  | deleteProfile (id : BitVec 32)
  | pinProfile (id : BitVec 32) (pin : Byte)
  | readDirty
  | syncMark (slot : Byte) (revision : BitVec 16)
  | writeCalibration (policy : Byte) (entries : List CalEntry)
  | readVanRecord
  | setEnableMask (mask : BitVec 16)
  | readHistory (index : Byte)
  | readCounters
  | readStoreStatus
  | normalise (axis : Byte)
  | jog (axis dir : Byte)
  | jogEnd (axis : Byte)
  | recall
  | store
  | undo
  | setExitDistance (d : Byte)
  | readAxes
  | stopAll
  deriving DecidableEq, Repr

end Sys2Proof
end

