-- ==== Sys2Proof/Decode.lean ====
section
/-! DEFINITION. Transaction headers (R188), field encodings (R189), request frames and their parsing (R179, R188 to R191),
and the reading of table words: no row of spec/opcode_table.json gives bits, so no word spells a command. -/

namespace Sys2Proof

/-- R188: the header byte of a transaction. -/
def Transaction.header : Transaction → Byte
  | .writeRequest => 0x51
  | .readResponse => 0x52
  | .readEvent => 0x53
  | .readPortStatus => 0x54

/-- R188: the transaction a header byte names; none for a byte that makes the transaction one that is disregarded. -/
def decHeader (h : Byte) : Option Transaction :=
  if h = 0x51 then some .writeRequest
  else if h = 0x52 then some .readResponse
  else if h = 0x53 then some .readEvent
  else if h = 0x54 then some .readPortStatus
  else none

/-- R189: a one-byte field. -/
def enc8 (n : Nat) : List Byte := [BitVec.ofNat 8 n]

/-- R189: a two-byte field, most significant byte first. -/
def enc16 (x : BitVec 16) : List Byte := [x.extractLsb' 8 8, x.extractLsb' 0 8]

/-- R189: a four-byte field, most significant byte first. -/
def enc32 (x : BitVec 32) : List Byte :=
  [x.extractLsb' 24 8, x.extractLsb' 16 8, x.extractLsb' 8 8, x.extractLsb' 0 8]

/-- R189: a signed two-byte field, two's complement. -/
def encInt (i : Int) : List Byte := enc16 (BitVec.ofInt 16 i)

/-- R189: an unsigned two-byte field. -/
def encNat16 (n : Nat) : List Byte := enc16 (BitVec.ofNat 16 n)

/-- R189: an unsigned four-byte field. -/
def encNat32 (n : Nat) : List Byte := enc32 (BitVec.ofNat 32 n)

/-- A flag sent as one byte, 1 when set (log 15). -/
def encFlag (b : Bool) : List Byte := [if b then 1 else 0]

/-- R189: one bit per flag, the first in bit 0. -/
def encFlags (bs : List Bool) : List Byte := [BitVec.ofNat 8 (bs.foldr (fun b n => (if b then 1 else 0) + 2 * n) 0)]

/-- R189: two bytes, most significant first. -/
def dec16 (hi lo : Byte) : BitVec 16 := hi ++ lo

/-- R189: four bytes, most significant first. -/
def dec32 (b3 b2 b1 b0 : Byte) : BitVec 32 := (b3 ++ b2) ++ (b1 ++ b0)

/-- R189: the mark of a portable position that is absent or not given. -/
def absentMark : BitVec 16 := 0x8000

/-- The ten position fields, axis 0 to axis 9 (R190). -/
def PositionFields.bytes (v : PositionFields) : List Byte := v.toList.flatMap enc16

/-- The nine bytes of a calibration entry (R191). -/
def CalEntry.bytes (e : CalEntry) : List Byte :=
  e.head :: (enc16 e.field1 ++ enc16 e.field2 ++ enc16 e.field3 ++ enc16 e.field4)

/-- The request codes: the catalogue of section 10.5, VEHICLE_STATE first, numbered from 1 (R189). -/
def Request.code : Request → Byte
  | .vehicleState .. => 1
  | .park => 2
  | .deviceReset => 3
  | .assignDriver .. => 4
  | .releaseDriver => 5
  | .loadProfile .. => 6
  | .loadDefault .. => 7
  | .readProfile .. => 8
  | .deleteProfile .. => 9
  | .pinProfile .. => 10
  | .readDirty => 11
  | .syncMark .. => 12
  | .writeCalibration .. => 13
  | .readVanRecord => 14
  | .setEnableMask .. => 15
  | .readHistory .. => 16
  | .readCounters => 17
  | .readStoreStatus => 18
  | .normalise .. => 19
  | .jog .. => 20
  | .jogEnd .. => 21
  | .recall => 22
  | .store => 23
  | .undo => 24
  | .setExitDistance .. => 25
  | .readAxes => 26
  | .stopAll => 27

/-- The last request code of the catalogue. -/
def lastRequestCode : Nat := 27

/-- The fields of a request frame, from byte 2 (R189 to R191). -/
def Request.body : Request → List Byte
  | .vehicleState a b c d e => [a, b, c, d, e]
  | .assignDriver id f => enc32 id ++ [f]
  | .loadProfile r f => enc32 r.driver ++ enc16 r.revision ++ r.positions.bytes ++ [r.exit, f]
  | .loadDefault v e => v.bytes ++ [e]
  | .readProfile s n => s :: enc32 n
  | .deleteProfile id => enc32 id
  | .pinProfile id v => enc32 id ++ [v]
  | .syncMark s r => s :: enc16 r
  | .writeCalibration p es => BitVec.ofNat 8 es.length :: p :: es.flatMap CalEntry.bytes
  | .setEnableMask m => enc16 m
  | .readHistory i => [i]
  | .normalise a => [a]
  | .jog a d => [a, d]
  | .jogEnd a => [a]
  | .setExitDistance d => [d]
  | .park | .deviceReset | .releaseDriver | .readDirty | .readVanRecord | .readCounters | .readStoreStatus
  | .recall | .store | .undo | .readAxes | .stopAll => []

/-- A request frame: length, code, fields (R188). -/
def Request.frame (r : Request) : List Byte :=
  BitVec.ofNat 8 (r.body.length + 2) :: r.code :: r.body

/-- The ports that carry the request of a code (catalogue of section 10.5). -/
def codeCarriedAt (code : Nat) (p : Port) : Bool :=
  match p with
  | .vehicle => (1 ≤ code && code ≤ 3) || code == 26 || code == 27
  | .fleet => (4 ≤ code && code ≤ 19) || code == 26 || code == 27
  | .panel => (19 ≤ code && code ≤ 27)

/-- Twenty bytes read as ten position fields (R190). -/
def decPositions : List Byte → Option PositionFields
  | [a0, b0, a1, b1, a2, b2, a3, b3, a4, b4, a5, b5, a6, b6, a7, b7, a8, b8, a9, b9] =>
    some #v[dec16 a0 b0, dec16 a1 b1, dec16 a2 b2, dec16 a3 b3, dec16 a4 b4,
            dec16 a5 b5, dec16 a6 b6, dec16 a7 b7, dec16 a8 b8, dec16 a9 b9]
  | _ => none

/-- The axis entries of a WRITE_CALIBRATION frame, exactly `n` of them (R191). -/
def decEntries : Nat → List Byte → Option (List CalEntry)
  | 0, [] => some []
  | n + 1, h :: a1 :: b1 :: a2 :: b2 :: a3 :: b3 :: a4 :: b4 :: rest =>
    (decEntries n rest).map (⟨h, dec16 a1 b1, dec16 a2 b2, dec16 a3 b3, dec16 a4 b4⟩ :: ·)
  | _, _ => none

/-- The request a code and its fields make; none where the length is not the one the request calls for (R179). -/
def decBody (code : Nat) (body : List Byte) : Option Request :=
  match code, body with
  | 1, [a, b, c, d, e] => some (.vehicleState a b c d e)
  | 2, [] => some .park
  | 3, [] => some .deviceReset
  | 4, [b3, b2, b1, b0, f] => some (.assignDriver (dec32 b3 b2 b1 b0) f)
  | 5, [] => some .releaseDriver
  | 6, b3 :: b2 :: b1 :: b0 :: r1 :: r0 :: rest =>
    match decPositions (rest.take 20), rest.drop 20 with
    | some v, [e, f] => some (.loadProfile ⟨dec32 b3 b2 b1 b0, dec16 r1 r0, v, e⟩ f)
    | _, _ => none
  | 7, rest =>
    match decPositions (rest.take 20), rest.drop 20 with
    | some v, [e] => some (.loadDefault v e)
    | _, _ => none
  | 8, [s, b3, b2, b1, b0] => some (.readProfile s (dec32 b3 b2 b1 b0))
  | 9, [b3, b2, b1, b0] => some (.deleteProfile (dec32 b3 b2 b1 b0))
  | 10, [b3, b2, b1, b0, v] => some (.pinProfile (dec32 b3 b2 b1 b0) v)
  | 11, [] => some .readDirty
  | 12, [s, r1, r0] => some (.syncMark s (dec16 r1 r0))
  | 13, n :: p :: rest => (decEntries n.toNat rest).map (.writeCalibration p ·)
  | 14, [] => some .readVanRecord
  | 15, [m1, m0] => some (.setEnableMask (dec16 m1 m0))
  | 16, [i] => some (.readHistory i)
  | 17, [] => some .readCounters
  | 18, [] => some .readStoreStatus
  | 19, [a] => some (.normalise a)
  | 20, [a, d] => some (.jog a d)
  | 21, [a] => some (.jogEnd a)
  | 22, [] => some .recall
  | 23, [] => some .store
  | 24, [] => some .undo
  | 25, [d] => some (.setExitDistance d)
  | 26, [] => some .readAxes
  | 27, [] => some .stopAll
  | _, _ => none

/-- What the port unit finds in a frame it takes (R179). -/
inductive Parsed where
  | request (r : Request)
  | badFrame (code : Option Byte)
  | unknown (code : Byte)
  | wrongPort (code : Byte)
  deriving DecidableEq, Repr

/-- The four checks of R179, in order, on the frame taken at a port. `overlong`: more than 100 bytes were received, so
that no length byte matches them (R188). DESIGN CHOICE (log 42): a whole frame of 95 to 100 bytes, longer than any
request, goes through R179's checks in their order, though R178 says that it is answered BAD_FRAME. -/
def Request.parse (p : Port) (frame : List Byte) (overlong : Bool := false) : Parsed :=
  match frame with
  | len :: code :: body =>
    if overlong ∨ len.toNat ≠ frame.length ∨ 100 < len.toNat then .badFrame (some code)
    else if code.toNat = 0 ∨ lastRequestCode < code.toNat then .unknown code
    else if !codeCarriedAt code.toNat p then .wrongPort code
    else
      match decBody code.toNat body with
      | some r => .request r
      | none => .badFrame (some code)
  | _ => .badFrame none

/-- R190, R189: a position field as a position, absent, or neither. -/
inductive PositionField where
  | absent
  | given (p : Int)
  | invalid
  deriving DecidableEq, Repr

/-- R189: a portable position field carries the absent mark, a value in -2048..2047, or neither. -/
def decPosition (x : BitVec 16) : PositionField :=
  if x = absentMark then .absent
  else if -2048 ≤ x.toInt ∧ x.toInt ≤ 2047 then .given x.toInt
  else .invalid

/-- No row of the table gives bits: no word spells a command. -/
def decodeTableWord (_nbits _w : Nat) : Option Instr := none

end Sys2Proof
end

