-- ==== Sys2Proof/WellFormed.lean ====
section
/-! DEFINITION. Which commands can arise: the operand checks the spec's tables imply. An ill-formed command has
no partner in the part; its meaning changes nothing or answers as the port unit does (log 31). -/

namespace Sys2Proof

/-- Axes 0 to 5 are the counted axes (R1). -/
def Axis.counted (a : Axis) : Bool := a.val < 6

/-- Axes 6 to 9 are the mirrors (R1). -/
def Axis.mirror (a : Axis) : Bool := 6 ≤ a.val

/-- The header byte names a transaction (R188). -/
def namesTransaction (h : Byte) : Bool := (decHeader h).isSome

/-- The operand checks of each command. -/
def Instr.wellFormed : Instr → Bool
  | .disregardedTransaction _ h _ => !namesTransaction h
  | .writeCalibration _ es => es.length ≤ 10
  | .normalise p _ => p != .vehicle
  | .hallPulse a => a.counted
  | .mirrorSample a _ => a.mirror
  | .coastEnd a => a.counted
  | .heatInterval a => a.counted
  | .runTimeInterval a => a.mirror
  | .powerOn _ decayed => decayed.Nodup
  | .writeRequest .. | .writeRequestHeader .. | .readResponse .. | .readEvent .. | .readPortStatus ..
  | .vehicleState .. | .park | .deviceReset | .assignDriver .. | .releaseDriver | .loadProfile ..
  | .loadDefault .. | .readProfile .. | .deleteProfile .. | .pinProfile .. | .readDirty | .syncMark ..
  | .readVanRecord | .setEnableMask .. | .readHistory .. | .readCounters | .readStoreStatus
  | .jog .. | .jogEnd .. | .recall | .store | .undo | .setExitDistance .. | .readAxes .. | .stopAll ..
  | .doorWakeEdge | .supplyLoss .. | .stall .. | .timeLimitExpiry .. | .keepAliveExpiry ..
  | .progressTimerExpiry | .freshnessExpiry | .settleExpiry | .eraseTimerExpiry | .eraseComplete ..
  | .programTimerExpiry | .programComplete .. | .chipSelectAsserted .. => true

end Sys2Proof
end

