-- ==== Sys2Proof/Machine/State.lean ====
section
/-! DEFINITION. The state of the part, as plain data: every block's items, the waiting commands, and the state right
after reset. The reset value of each field is the field's default. -/

namespace Sys2Proof.Machine

/-! ## Axis units -/

/-- R4: the axis motion state. -/
inductive Motion where
  | idle | drivingUp | drivingDown | coasting
  deriving DecidableEq, Repr

/-- R8: the confidence of a counted axis. -/
inductive Confidence where
  | normalised | suspect | lost
  deriving DecidableEq, Repr

/-- One axis unit (01). Values after power-on without a snapshot, R23. -/
structure AxisUnit where
  /-- R4. -/
  motion : Motion := .idle
  /-- R4: kept through COASTING and IDLE until the next grant. -/
  lastDir : Dir := .up
  /-- R1: the count of a counted axis, the raw value of a mirror (log 4). -/
  position : Int := 0
  /-- R8; a mirror has none of its own (R5). -/
  confidence : Confidence := .lost
  /-- R11; mirrors only. -/
  sensorFault : Bool := false
  /-- R15. -/
  halted : Bool := false
  /-- R21. -/
  hot : Bool := false
  /-- R20: 0..600. -/
  heat : Nat := 0
  /-- R20, R22: whether the axis was DRIVING at any time in the running 100 ms interval. -/
  drove : Bool := false
  /-- R20, R22: the heat interval timer, a mirror's interval timer: stopped, or loaded with 100 ms. -/
  intervalTimer : Option Nat := some 100
  /-- R17: 0..6. -/
  leadUp : Nat := 0
  /-- R17: 0..6. -/
  leadDown : Nat := 0
  /-- R22. -/
  travel : BitVec 32 := 0
  /-- R22. -/
  runTime : BitVec 32 := 0
  /-- R4: the coast timer: stopped, or loaded with 150 ms. -/
  coastTimer : Option Nat := none
  /-- R4: the count at the last cut. -/
  countAtCut : Int := 0
  /-- R17: the last cut was made at the cut point of R16. -/
  cutAtPoint : Bool := false
  /-- R16: the cut point of the drive in progress; absent for a SEEK. -/
  cutPoint : Option Int := none
  /-- R12: stopped, or loaded with 200 ms (300 ms on a mirror). -/
  stallTimer : Option Nat := none
  /-- R12: the reference value of a mirror. -/
  stallRef : Int := 0
  /-- R12: the recorded stall position. -/
  stallPos : Int := 0
  /-- R7: this IDLE period has raised its STRAY event. -/
  strayRaised : Bool := false
  /-- R10: the first sample after a mirror's cut is still due. -/
  cutSampleDue : Bool := false
  deriving DecidableEq, Repr

/-! ## The van record -/

/-- R26: the calibration set of a counted axis. -/
structure CountedCal where
  c0 : Int
  k  : Nat
  m  : Nat
  t  : Nat
  deriving DecidableEq, Repr

/-- R26: the calibration set of a mirror. -/
structure MirrorCal where
  z   : Nat
  kr  : Nat
  rlo : Nat
  rhi : Nat
  deriving DecidableEq, Repr

/-- R26: the learned stops of a counted axis. -/
structure Stops where
  lo : Int
  hi : Int
  deriving DecidableEq, Repr

/-- R26: the van record, as its block stores it. -/
structure VanRecord where
  counted : Vector (Option CountedCal) 6 := Vector.replicate 6 none
  stops : Vector (Option Stops) 6 := Vector.replicate 6 none
  mirror : Vector (Option MirrorCal) 4 := Vector.replicate 4 none
  enable : BitVec 10 := 0x3FF
  recallDefault : Bool := false
  exitAllowed : Bool := false
  doorOpenOnly : Bool := false
  commissioned : Bool := false
  deriving DecidableEq, Repr

/-! ## Outcomes and the move list -/

/-- R72 and R124: a move outcome or a skip outcome. -/
inductive AxisOutcome where
  | reached | offTarget | endStop | stalled | obstructed | timeout | hot | sensor | superseded | aborted
  | absent | disabled | notNormalised | halted | range
  deriving DecidableEq, Repr

/-- R58, R90: the causes, in the order of the permission mask (R189). -/
inductive Cause where
  | jog | recall | undo | normalise | exit | ret | backoff
  deriving DecidableEq, Repr

/-- R58: TARGET to a count or raw value, or SEEK in a direction. -/
inductive MoveKind where
  | target (t : Int)
  | seek (d : Dir)
  deriving DecidableEq, Repr

/-- R70. -/
inductive EntryState where
  | waiting | driving | settling
  deriving DecidableEq, Repr

/-- R71: what the coast end does with a SETTLING entry; `rereference` is END_STOP with re-referencing (R13). -/
inductive Disposition where
  | judge | resume
  | decided (o : AxisOutcome)
  | rereference
  deriving DecidableEq, Repr

/-- R60: the owner of an entry; jog records and operations are told apart by an identity of the model's. -/
inductive Owner where
  | jog (id : Nat)
  | operation (id : Nat)
  | nobody
  deriving DecidableEq, Repr

/-- R58: a move entry. The admission order is its place in the list. -/
structure MoveEntry where
  axis : Axis
  cause : Cause
  kind : MoveKind
  tag : Nat
  owner : Owner
  state : EntryState := .waiting
  passCount : Nat := 0
  correctionUsed : Bool := false
  timeLimit : Option Nat := none
  disposition : Option Disposition := none
  /-- R71, R75: an OBSTRUCTED outcome of this entry offers no backoff. -/
  noBackoff : Bool := false
  /-- R186: a STOP_ALL has ended this entry, which is still settling: a further STOP_ALL does not find it. -/
  stopAll : Bool := false
  deriving DecidableEq, Repr

/-- R78: the abort source of a jog record. -/
inductive AbortSource where
  | stopAll | maskDeparture
  deriving DecidableEq, Repr

/-- R78: a jog record. -/
structure JogRecord where
  id : Nat
  axis : Axis
  dir : Dir
  /-- R78: loaded with 300 ms while OPEN; stopped once CLOSING. -/
  keepAlive : Option Nat := some 300
  from_ : Int
  closing : Bool := false
  outcome : Option AxisOutcome := none
  abortSource : Option AbortSource := none
  final : Option Int := none
  backoff : Bool := false
  deriving DecidableEq, Repr

/-- The move list block (04). -/
structure MoveList where
  /-- R59: head first. -/
  entries : List MoveEntry := []
  /-- R62: superseded entries settling off the list. -/
  offList : List MoveEntry := []
  /-- R78. -/
  jogs : List JogRecord := []
  /-- R65: how many grant walks the events of the running action have occasioned that have not run yet (the model's own,
  log 7; 0 between commands). -/
  walksDue : Nat := 0
  deriving DecidableEq, Repr

/-! ## The vehicle state monitor -/

/-- R83. -/
inductive Speed where
  | standstill | creep | moving
  deriving DecidableEq, Repr

/-- R83. -/
inductive Gear where
  | park | neutral | drive | reverse
  deriving DecidableEq, Repr

/-- R83. -/
inductive Ignition where
  | off | acc | run | crank
  deriving DecidableEq, Repr

/-- R83. -/
inductive Door where
  | opened | closed
  deriving DecidableEq, Repr

/-- R83. -/
inductive Supply where
  | low | normal | high
  deriving DecidableEq, Repr

/-- R83: the vehicle state record. The defaults are the safe record of R84. -/
structure VehicleRecord where
  speed : Speed := .moving
  gear : Gear := .drive
  ignition : Ignition := .run
  door : Door := .closed
  supply : Supply := .low
  deriving DecidableEq, Repr

/-- R83: the monitor. Its power-on state, R96. -/
structure Monitor where
  fresh : Bool := false
  record : VehicleRecord := {}
  /-- R87: stopped, or loaded with 500 ms. -/
  freshTimer : Option Nat := none
  lastIgnition : Option Ignition := none
  deriving DecidableEq, Repr

/-! ## The profile table -/

/-- R98, R100: ten positions and an exit distance. -/
structure Profile where
  positions : Vector (Option Int) 10 := Vector.replicate 10 none
  exit : Nat := 0
  deriving DecidableEq, Repr

/-- R99, R152. -/
inductive Storage where
  | stored | pending | failed
  deriving DecidableEq, Repr

/-- R98. -/
inductive Origin where
  | lcl | fleet
  deriving DecidableEq, Repr

/-- R98: a slot's fields but for its storage state: what its block holds. -/
structure SlotRecord where
  inUse : Bool := false
  driver : Nat := 0
  dirty : Bool := false
  revision : Nat := 0
  origin : Origin := .lcl
  pinned : Bool := false
  stamp : Nat := 0
  profile : Profile := {}
  deriving DecidableEq, Repr

/-- R98: a profile slot. -/
structure Slot where
  record : SlotRecord := {}
  storage : Storage := .stored
  deriving DecidableEq, Repr

/-- R101: the active driver record. -/
inductive ActiveDriver where
  | nobody
  | known (s : SlotIx)
  | new (id : Nat)
  | dflt (id : Nat)
  deriving DecidableEq, Repr

/-- The profile table (06). -/
structure ProfileTable where
  slots : Vector Slot 48 := Vector.replicate 48 {}
  dflt : Option Profile := none
  driver : ActiveDriver := .nobody
  /-- R103: oldest first. -/
  dirty : List SlotIx := []
  /-- R105. -/
  counter : Nat := 1
  deriving DecidableEq, Repr

/-! ## The recall engine -/

/-- R124. -/
inductive OpKind where
  | recall | undo | normalise | exit | ret
  deriving DecidableEq, Repr

/-- R124. EXIT and RETURN run their one phase as PHASE_1 (log 23). -/
inductive Stage where
  | phase1 | phase2 | phase3 | leg1 | leg2 | leg3
  deriving DecidableEq, Repr

/-- R124, R135. -/
inductive AbortCause where
  | user | stop | vehicle | driverChanged | noProgress
  deriving DecidableEq, Repr

/-- R124: what an operation moves the axes to. -/
inductive Source where
  /-- RECALL: a copy of the positions; for a slot also its index and driver ID. -/
  | positions (p : Vector (Option Int) 10) (slot : Option (SlotIx × Nat))
  /-- UNDO: the tag of the record and the "from" of its entries. -/
  | record (tag : Nat) (froms : List (Axis × Int))
  /-- EXIT: the exit distance armed. -/
  | distance (d : Nat)
  /-- RETURN: the SLIDE "from". -/
  | place (p : Int)
  /-- NORMALISE: the axis. -/
  | axis (a : Axis)
  deriving DecidableEq, Repr

/-- R124: an outcome list entry. -/
structure OutcomeEntry where
  axis : Axis
  planned : Bool
  from_ : Int
  target : Option Int := none
  final : Option Int := none
  outcome : Option AxisOutcome := none
  clamped : Bool := false
  suspect : Bool := false
  deriving DecidableEq, Repr

/-- R124: an operation record. -/
structure Operation where
  /-- The model's identity of the operation (R60). -/
  id : Nat
  kind : OpKind
  tag : Nat
  requester : Port
  /-- R126: the phase or leg it stands in; kept while CLOSING, so that R41 and R42 can tell the legs apart. -/
  stage : Stage
  source : Source
  /-- R133: the progress timer as last set; whether it counts is `State.progressCounts`. -/
  progress : Option Nat := some 5000
  abortCause : Option AbortCause := none
  outcomes : List OutcomeEntry
  /-- R38: the starting confidence of a NORMALISE. -/
  startConfidence : Confidence := .lost
  /-- R39: pulses counted in leg 1. -/
  d1 : Nat := 0
  /-- R39: leg 1 has had its first grant. -/
  legGranted : Bool := false
  /-- R39: the new low stop. -/
  newLow : Option Int := none
  /-- R39 to R42: how the running leg's move ended, and where. -/
  legEnd : Option (AxisOutcome × Int) := none
  deriving DecidableEq, Repr

/-- R139. -/
inductive HistoryCause where
  | recall | undo | normalise | exit | ret | jog
  deriving DecidableEq, Repr

/-- R137. -/
inductive OpResult where
  | complete | partly | aborted
  deriving DecidableEq, Repr

/-- R139: an entry of a history record. -/
structure HistoryEntry where
  axis : Axis
  from_ : Int
  to_ : Int
  outcome : AxisOutcome
  deriving DecidableEq, Repr

/-- R139: a history record. -/
structure HistoryRecord where
  tag : Nat
  cause : HistoryCause
  port : Port
  result : OpResult
  abortCause : Option AbortCause
  undone : Bool := false
  entries : List HistoryEntry
  deriving DecidableEq, Repr

/-- The recall engine (07). -/
structure RecallEngine where
  active : Option Operation := none
  closing : List Operation := []
  /-- R143: ARMED with an exit distance, or NOT_ARMED. -/
  arm : Option Nat := none
  returnAllowed : Bool := false
  /-- R139: newest first, at most eight. -/
  ring : List HistoryRecord := []
  deriving DecidableEq, Repr

/-! ## The profile store -/

/-- R168: the snapshot image, every counted axis and the wear counters of every axis. -/
structure Snapshot where
  counts : Vector (Int × Confidence × Nat) 6
  wear : Vector (BitVec 32 × BitVec 32) 10
  consumed : Bool
  deriving DecidableEq, Repr

/-- R148: the image of a block. An image names its kind, and a profile image its slot. -/
inductive Image where
  | slot (s : SlotIx) (r : SlotRecord)
  | dflt (p : Option Profile)
  | van (v : VanRecord)
  | snapshot (s : Snapshot)
  deriving DecidableEq, Repr

/-- R149: what a physical block holds: nothing, an image whose check word agrees, or anything else. -/
inductive Block where
  | blank
  | corrupt
  | valid (i : Image)
  deriving DecidableEq, Repr

/-- R160. -/
inductive StoreState where
  | idle | erasing | programming
  deriving DecidableEq, Repr

/-- R156. -/
inductive FailKind where
  | eraseFail | programFail
  deriving DecidableEq, Repr

/-- R158: the kinds of the last-result record. -/
inductive StoreResult where
  | ok | eraseFail | programFail | retryExceeded | badBlock
  deriving DecidableEq, Repr

/-- R153: a write in flight. -/
structure Write where
  block : BlockIx
  image : Image
  onSpare : Bool
  /-- R156: 1..6. -/
  attempt : Nat := 1
  /-- R156: attempts made on the present target, this one included: 1..3. -/
  onTarget : Nat := 1
  lastFailure : Option FailKind := none
  deriving DecidableEq, Repr

/-- R158: the last-result record. -/
structure LastResult where
  block : BlockIx
  result : StoreResult
  attempts : Nat
  deriving DecidableEq, Repr

/-- The profile store (08). -/
structure ProfileStore where
  /-- R148: the 52 physical blocks; 51 is the spare. A part never written is BLANK (R149). -/
  blocks : Vector Block 52 := Vector.replicate 52 .blank
  /-- R150: head first, at most eight. -/
  queue : List BlockIx := []
  /-- R151: oldest first. -/
  held : List BlockIx := []
  state : StoreState := .idle
  write : Option Write := none
  /-- R154: stopped, or loaded with 60 ms. -/
  eraseTimer : Option Nat := none
  /-- R155: stopped, or loaded with 12 ms. -/
  programTimer : Option Nat := none
  lastResult : Option LastResult := none
  /-- R157: FREE, or TAKEN by a slot. -/
  spare : Option SlotIx := none
  dfltState : Storage := .stored
  vanState : Storage := .stored
  snapState : Storage := .stored
  deriving DecidableEq, Repr

/-! ## Power control -/

/-- R165. -/
inductive PowerState where
  | run | parking | park | waking
  deriving DecidableEq, Repr

/-- R165: a wake cause. -/
inductive WakeCause where
  | door
  | port (p : Port)
  deriving DecidableEq, Repr

/-- R165. -/
inductive SnapshotCondition where
  | live | consumed | uncertain
  deriving DecidableEq, Repr

/-- R165: power control. -/
structure PowerControl where
  state : PowerState := .run
  wakePending : Bool := false
  wakeCause : Option WakeCause := none
  coastWait : Bool := false
  /-- R171: stopped, or loaded with 40 ms. -/
  settleTimer : Option Nat := none
  snapshot : SnapshotCondition := .consumed
  deriving DecidableEq, Repr

/-! ## Events, responses and the port units -/

/-- R7, R11. -/
inductive AxisFaultKind where
  | stray | sensor
  deriving DecidableEq, Repr

/-- R143 to R145. -/
inductive ExitState where
  | armed | started | disarmed
  deriving DecidableEq, Repr

/-- R144. -/
inductive ExitCause where
  | assign | ignition | park
  deriving DecidableEq, Repr

/-- R172. -/
inductive PowerCause where
  | parked
  | door
  | port (p : Port)
  | snapshotFailed | consumeOk | consumeFailed | powerOn
  deriving DecidableEq, Repr

/-- R183: the events. -/
inductive Event where
  | opDone (kind : OpKind) (tag : Nat) (result : OpResult) (abort : Option AbortCause) (entries : List OutcomeEntry)
  | axisFault (a : Axis) (k : AxisFaultKind)
  /-- R121: the new record; for KNOWN the driver ID its slot then holds. -/
  | driverChanged (d : ActiveDriver) (id : Nat)
  | profileDirty (s : SlotIx) (id : Nat) (revision : Nat)
  | storeResult (block : BlockIx) (result : StoreResult) (attempts : Nat) (last : Option FailKind) (onSpare : Bool)
      (after : Storage)
  /-- R162: the slot indices in the order they are sent (DESIGN CHOICE: ascending, log 50). -/
  | profileLoss (slots : List SlotIx) (dflt van : Bool)
  | vehicleStale
  | vehicleFresh (r : VehicleRecord) (clamped : Bool) (budget : Nat) (permitted : List Cause)
  | exitState (s : ExitState) (d : Nat) (cause : Option ExitCause) (tag : Nat)
  | powerState (s : PowerState) (c : SnapshotCondition) (cause : PowerCause) (snapshotUsed : Bool)
  deriving DecidableEq, Repr

/-- R181: the response codes a request can be answered with, but for the two that are axis outcomes. -/
inductive RespCode where
  | ok | accepted | busy | interlock | notFitted | notCommissioned | hot | badField | noDriver | noProfile
  | tableFull | conflict | revisionMismatch | queueFull | active | nothingToUndo | wrongPort | badFrame
  | unknownRequest
  deriving DecidableEq, Repr

/-- R180, R188: a response; its fields begin at byte 4 of its frame. -/
structure Response where
  request : Byte
  code : RespCode
  clamped : Bool := false
  recallNotStarted : Bool := false
  fields : List Byte := []
  deriving DecidableEq, Repr

/-- R185: the port status. -/
structure PortStatus where
  requestFull : Bool
  responseReady : Bool
  events : Nat
  lost : Nat
  overrun : Nat
  power : PowerState
  deriving DecidableEq, Repr

/-- R177: what a transaction returns, fixed at chip-select assertion. -/
structure Selected where
  response : Option Response
  event : Option Event
  status : PortStatus
  /-- R170: header byte 51 has been received in this transaction. -/
  header : Bool := false
  /-- R182: a DEVICE_RESET has emptied the port while the transaction ran. -/
  emptied : Bool := false
  deriving DecidableEq, Repr

/-- R178, R188: a frame in a request buffer: its bytes, the first 100 of those received, and whether more than 100 were
received. -/
structure Received where
  bytes : List Byte
  overlong : Bool := false
  deriving DecidableEq, Repr

/-- R176: a port unit. -/
structure PortUnit where
  request : Option Received := none
  response : Option Response := none
  /-- Oldest first, at most sixteen. -/
  events : List Event := []
  lost : Nat := 0
  overrun : Nat := 0
  selected : Option Selected := none
  /-- R177, R188: the bytes the part returned in the last completed transaction (log 13). -/
  dataOut : List Byte := []
  deriving DecidableEq, Repr

/-- The three port units. -/
structure Ports where
  vehicle : PortUnit := {}
  fleet : PortUnit := {}
  panel : PortUnit := {}
  deriving DecidableEq, Repr

/-! ## The whole -/

/-- The model's own fields (log 7): identities of jog records and operations, and the index of the next free value. -/
structure ModelFields where
  nextId : Nat := 1
  freeSeq : Nat := 0
  deriving DecidableEq, Repr

/-- R23, R10: the ten axis units after power-on without a snapshot: mirrors start with SENSOR_FAULT set. -/
def freshAxes : Vector AxisUnit 10 :=
  #v[{}, {}, {}, {}, {}, {}, { sensorFault := true }, { sensorFault := true }, { sensorFault := true },
     { sensorFault := true }]

/-- Every piece of state the spec gives the part, and the queue of the commands that wait. -/
structure State where
  /-- R163, R174: whether supply is applied. -/
  powered : Bool := true
  ports : Ports := {}
  monitor : Monitor := {}
  axes : Vector AxisUnit 10 := freshAxes
  /-- R34. -/
  fitted : BitVec 10 := 0x3FF
  van : VanRecord := {}
  moves : MoveList := {}
  engine : RecallEngine := {}
  table : ProfileTable := {}
  store : ProfileStore := {}
  power : PowerControl := {}
  model : ModelFields := {}
  /-- The commands that wait, first in, first out. -/
  pending : List Instr := []
  deriving DecidableEq, Repr

/-- No command stops the machine (INVENTORY.md, Faults): a request that cannot be done is answered with a response
code, and an arrival that finds nothing to act on changes nothing. Safe: there is no fault to hide behind. -/
inductive Fault
  deriving DecidableEq, Repr

/-- Why a command is refused by the model. -/
inductive Refusal where
  /-- Raised by `exec` for a command that has no meaning yet; safe (the run stops). No command is so refused. -/
  | notModelled (mnemonic : String)
  deriving DecidableEq, Repr

/-- The state right after reset: the power-on (R174, R161, R162, R122, R23, R96, R136, R76) of a part never written
(every block BLANK), with all ten straps low (log 3). The fleet port's first event is PROFILE_LOSS (R162; its
indices ascending, log 50), the vehicle port's POWER_STATE (R174). -/
def State.reset : State :=
  { ports := {
      vehicle := { events := [.powerState .run .consumed .powerOn false] }
      fleet := { events := [.profileLoss (List.finRange 48) true true] } } }

end Sys2Proof.Machine
end

