-- ==== Sys2Proof/Machine/Flags.lean ====
section
/-! DEFINITION. Values the spec derives from other state: motor lines, attention outputs, the effective mask, the
budget, the permission set, the calibration an axis has. Each is computed from its one source and never stored. -/

namespace Sys2Proof.Machine

/-- R4: DRIVING in either direction. -/
def AxisUnit.driving (u : AxisUnit) : Bool := u.motion == .drivingUp || u.motion == .drivingDown

/-- R3: the UP line is asserted in DRIVING_UP and at no other time. -/
def AxisUnit.upLine (u : AxisUnit) : Bool := u.motion == .drivingUp

/-- R3: the DOWN line is asserted in DRIVING_DOWN and at no other time. -/
def AxisUnit.downLine (u : AxisUnit) : Bool := u.motion == .drivingDown

/-- R1: the fixed demand of each axis in current units. -/
def demand (a : Axis) : Nat := #v[8, 9, 6, 8, 5, 5, 1, 1, 1, 1][a.val]

/-- R184: asserted while the response buffer is full or the event queue is not empty. -/
def PortUnit.attention (u : PortUnit) : Bool := u.response.isSome || !u.events.isEmpty

/-- R35: the axes both fitted and enabled. -/
def State.effective (s : State) : BitVec 10 := s.fitted &&& s.van.enable

/-- R34: the axis is fitted. -/
def State.isFitted (s : State) (a : Axis) : Bool := s.fitted.getLsbD a.val

/-- R35: the axis is in the effective mask. -/
def State.isEffective (s : State) (a : Axis) : Bool := s.effective.getLsbD a.val

/-- R28: the calibration set of a counted axis. -/
def State.countedCal (s : State) (a : Axis) : Option CountedCal :=
  if h : a.val < 6 then s.van.counted[a.val] else none

/-- R26: the learned stops of a counted axis. -/
def State.stopsOf (s : State) (a : Axis) : Option Stops :=
  if h : a.val < 6 then s.van.stops[a.val] else none

/-- R28: the calibration set of a mirror. -/
def State.mirrorCal (s : State) (a : Axis) : Option MirrorCal :=
  if h : 6 ≤ a.val then s.van.mirror[a.val - 6] else none

/-- R28: the axis is commissioned. -/
def State.isCommissioned (s : State) (a : Axis) : Bool :=
  (s.countedCal a).isSome || (s.mirrorCal a).isSome

/-- R13, R28: a mirror's travel limits; 8 and 1015 where it has no calibration. -/
def State.mirrorLimits (s : State) (a : Axis) : Stops :=
  match s.mirrorCal a with
  | some c => ⟨c.rlo, c.rhi⟩
  | none => ⟨8, 1015⟩

/-- R64, R89: the budget that freshness and a record give. -/
def budgetOf (fresh : Bool) (r : VehicleRecord) : Nat :=
  if fresh then
    match r.ignition, r.supply with
    | .crank, _ => 0
    | _, .normal => 20
    | _, .low => 10
    | _, .high => 0
  else 10

/-- R64: the budget in force. -/
def State.budget (s : State) : Nat := budgetOf s.monitor.fresh s.monitor.record

/-- R90: the conditions of RECALL, UNDO and NORMALISE on a record. -/
def VehicleRecord.allowsRecall (r : VehicleRecord) : Bool :=
  r.speed == .standstill && (r.gear == .park || r.gear == .neutral) && r.ignition != .crank

/-- R90: whether freshness and a record permit a cause. -/
def permits (fresh : Bool) (r : VehicleRecord) : Cause → Bool
  | .jog | .backoff => true
  | .recall | .undo | .normalise => fresh && r.allowsRecall
  | .exit => fresh && r.speed == .standstill && r.ignition == .off && r.door == .opened
  | .ret => fresh && r.speed == .standstill && (r.ignition == .acc || r.ignition == .run) && r.door == .closed

/-- The causes in the order of the permission mask (R189). -/
def allCauses : List Cause := [.jog, .recall, .undo, .normalise, .exit, .ret, .backoff]

/-- R83, R90: the permission set that freshness and a record give. -/
def permittedOf (fresh : Bool) (r : VehicleRecord) : List Cause := allCauses.filter (permits fresh r)

/-- R83: the permission set in force. -/
def State.permitted (s : State) : List Cause := permittedOf s.monitor.fresh s.monitor.record

/-- R90: the cause is in the permission set in force. -/
def State.permitsCause (s : State) (c : Cause) : Bool := permits s.monitor.fresh s.monitor.record c

/-- R124: an operation's kind as the cause of its moves. -/
def OpKind.cause : OpKind → Cause
  | .recall => .recall
  | .undo => .undo
  | .normalise => .normalise
  | .exit => .exit
  | .ret => .ret

/-- R139: an operation's kind as the cause of its history record. -/
def OpKind.historyCause : OpKind → HistoryCause
  | .recall => .recall
  | .undo => .undo
  | .normalise => .normalise
  | .exit => .exit
  | .ret => .ret

/-- R5: the confidence READ_AXES reports; a mirror's follows its SENSOR_FAULT. -/
def AxisUnit.reportedConfidence (u : AxisUnit) (a : Axis) : Confidence :=
  if a.counted then u.confidence else if u.sensorFault then .lost else .normalised

/-- R17: the lead learned for a direction. -/
def AxisUnit.lead (u : AxisUnit) : Dir → Nat
  | .up => u.leadUp
  | .down => u.leadDown

end Sys2Proof.Machine
end

