-- ==== Sys2Proof/Machine/Operands.lean ====
section
/-! DEFINITION. The arithmetic of positions (03): rounding, recall and store conversion, the targets of undo, return and
the exit slide, and the move time limit; and the decoding of request fields into the values the blocks use. -/

namespace Sys2Proof.Machine

/-- R45: the quotient rounded half away from zero. -/
def roundDiv (n : Int) (d : Nat) : Int :=
  if 0 ≤ n then (2 * n + d) / (2 * d) else -((2 * -n + d) / (2 * d))

/-- A value clamped into a range: below gives the low end, above the high end. -/
def clampInt (lo hi x : Int) : Int := if x < lo then lo else if hi < x then hi else x

/-- R46, R47, R52, R53: a target with its CLAMPED flag, from a raw target and a window. -/
def clampTarget (lo hi raw : Int) : Int × Bool :=
  (clampInt lo hi raw, clampInt lo hi raw != raw)

/-- R46: the recall conversion of a counted axis; `none` is RANGE. Absent stops give RANGE (log 27). -/
def recallCounted (cal : Option CountedCal) (stops : Option Stops) (p : Int) : Option (Int × Bool) :=
  match cal, stops with
  | some c, some st =>
    if st.hi - c.m < st.lo + c.m then none
    else some (clampTarget (st.lo + c.m) (st.hi - c.m) (c.c0 + roundDiv (p * c.k) 256))
  | _, _ => none

/-- R47: the recall conversion of a mirror; `none` is RANGE. -/
def recallMirror (cal : Option MirrorCal) (p : Int) : Option (Int × Bool) :=
  cal.map fun c => clampTarget c.rlo c.rhi (c.z + roundDiv (p * c.kr) 256)

/-- R48: the recall conversion of an axis, with the van record as it stands. -/
def State.recallConversion (s : State) (a : Axis) (p : Int) : Option (Int × Bool) :=
  if a.counted then recallCounted (s.countedCal a) (s.stopsOf a) p else recallMirror (s.mirrorCal a) p

/-- R49, R50: a position from an origin at a scale, saturated into the portable range. -/
def storeValue (origin : Int) (scale : Nat) (x : Int) : Int :=
  clampInt (-2048) 2047 (roundDiv ((x - origin) * 256) scale)

/-- R49, R50: the store conversion of an axis; `none` where it is not commissioned. -/
def State.storeConversion (s : State) (a : Axis) (x : Int) : Option Int :=
  if a.counted then (s.countedCal a).map fun c => storeValue c.c0 c.k x
  else (s.mirrorCal a).map fun c => storeValue c.z c.kr x

/-- R52: the exit slide's target from the exit distance and SLIDE's count; `none` is RANGE. -/
def exitTarget (cal : Option CountedCal) (stops : Option Stops) (d : Nat) (count : Int) : Option (Int × Bool) :=
  match cal, stops with
  | some c, some st =>
    let offset := roundDiv (d * c.k) 256
    let offset := if offset = 0 then 1 else offset
    if st.hi - c.m < st.lo + c.m then none
    else some (clampTarget (st.lo + c.m) (st.hi - c.m) (count - offset))
  | _, _ => none

/-- R53: an undo or return target clamped into the axis's travel; absent stops leave it as it is (log 27). -/
def State.fromTarget (s : State) (a : Axis) (x : Int) : Int × Bool :=
  if a.counted then
    match s.stopsOf a with
    | some st => clampTarget st.lo st.hi x
    | none => (x, false)
  else clampTarget (s.mirrorLimits a).lo (s.mirrorLimits a).hi x

/-- R28, R56: milliseconds per count; 40 on an axis not commissioned, 10 on a mirror. -/
def State.msPerCount (s : State) (a : Axis) : Nat :=
  if a.counted then
    match s.countedCal a with
    | some c => c.t
    | none => 40
  else 10

/-- R56: the distance of a move at its grant. -/
def State.moveDistance (s : State) (a : Axis) (position : Int) : MoveKind → Nat
  | .target t => (t - position).natAbs
  | .seek _ =>
    match s.stopsOf a with
    | some st => (st.hi - st.lo).natAbs
    | none => 16383

/-- R56: the time limit of a move at its grant. -/
def State.timeLimitOf (s : State) (a : Axis) (position : Int) (k : MoveKind) : Nat :=
  1000 + 2 * s.moveDistance a position k * s.msPerCount a

/-- R98: the valid driver IDs. -/
def validDriver (id : BitVec 32) : Bool := id != 0 && id != 0xFFFFFFFF

/-- An axis field: a number 0..9 names an axis. -/
def decAxis (b : Byte) : Option Axis := if h : b.toNat < 10 then some ⟨b.toNat, h⟩ else none

/-- R189: direction 0 is UP, 1 is DOWN. -/
def decDir (b : Byte) : Option Dir := if b = 0 then some .up else if b = 1 then some .down else none

/-- A slot index field: 0..47 names a slot. -/
def decSlot (n : Nat) : Option SlotIx := if h : n < 48 then some ⟨n, h⟩ else none

/-- R113, R116: ten position fields; `none` when one is neither a position nor the absent mark. -/
def decProfilePositions (v : PositionFields) : Option (Vector (Option Int) 10) :=
  if v.toList.any (fun x => decPosition x == .invalid) then none
  else some (Vector.ofFn fun i => match decPosition v[i] with | .given p => some p | _ => none)

/-- R85, R189: speed codes 0..2; an unknown code is the most restrictive value. -/
def decSpeed (b : Byte) : Speed × Bool :=
  if b = 0 then (.standstill, false) else if b = 1 then (.creep, false) else if b = 2 then (.moving, false)
  else (.moving, true)

/-- R85, R189: gear codes 0..3. -/
def decGear (b : Byte) : Gear × Bool :=
  if b = 0 then (.park, false) else if b = 1 then (.neutral, false) else if b = 2 then (.drive, false)
  else if b = 3 then (.reverse, false) else (.drive, true)

/-- R85, R189: ignition codes 0..3. -/
def decIgnition (b : Byte) : Ignition × Bool :=
  if b = 0 then (.off, false) else if b = 1 then (.acc, false) else if b = 2 then (.run, false)
  else if b = 3 then (.crank, false) else (.run, true)

/-- R85, R189: door codes 0..1. -/
def decDoor (b : Byte) : Door × Bool :=
  if b = 0 then (.opened, false) else if b = 1 then (.closed, false) else (.closed, true)

/-- R85, R189: supply codes 0..2. -/
def decSupply (b : Byte) : Supply × Bool :=
  if b = 0 then (.low, false) else if b = 1 then (.normal, false) else if b = 2 then (.high, false) else (.low, true)

/-- R85: a report decoded field by field, with whether any field was clamped. -/
def decReport (speed gear ignition door supply : Byte) : VehicleRecord × Bool :=
  (⟨(decSpeed speed).1, (decGear gear).1, (decIgnition ignition).1, (decDoor door).1, (decSupply supply).1⟩,
   (decSpeed speed).2 || (decGear gear).2 || (decIgnition ignition).2 || (decDoor door).2 || (decSupply supply).2)

/-- R26: the ranges of a counted set (C0 fills its two signed bytes). -/
def CountedCal.valid (c : CountedCal) : Bool :=
  (64 ≤ c.k && c.k ≤ 8192) && c.m ≤ 63 && (1 ≤ c.t && c.t ≤ 40)

/-- R26: the ranges of a mirror set. -/
def MirrorCal.valid (c : MirrorCal) : Bool :=
  c.z ≤ 1023 && (64 ≤ c.kr && c.kr ≤ 8192) && (8 ≤ c.rlo && c.rlo ≤ 1015) && (8 ≤ c.rhi && c.rhi ≤ 1015)
    && c.rlo + 16 ≤ c.rhi

end Sys2Proof.Machine

namespace Sys2Proof

open Machine

/-- R191: bits 0 to 6 of an entry's first byte, the axis number. -/
def CalEntry.axisNumber (e : CalEntry) : Nat := (e.head.extractLsb' 0 7).toNat

/-- R191: bit 7 of an entry's first byte, the field set: set for a mirror set. -/
def CalEntry.isMirrorSet (e : CalEntry) : Bool := e.head.getLsbD 7

/-- R191: the counted set of an entry. -/
def CalEntry.countedSet (e : CalEntry) : CountedCal :=
  ⟨e.field1.toInt, e.field2.toNat, (e.field3.extractLsb' 8 8).toNat, (e.field3.extractLsb' 0 8).toNat⟩

/-- R191: the mirror set of an entry. -/
def CalEntry.mirrorSet (e : CalEntry) : MirrorCal :=
  ⟨e.field1.toNat, e.field2.toNat, e.field3.toNat, e.field4.toNat⟩

/-- R30: an entry names an axis, carries the set that axis takes, and holds values in range. -/
def CalEntry.valid (e : CalEntry) : Bool :=
  if e.axisNumber < 6 then !e.isMirrorSet && e.countedSet.valid
  else e.axisNumber < 10 && e.isMirrorSet && e.mirrorSet.valid

end Sys2Proof
end

