-- ==== Sys2Proof/Machine/Frames.lean ====
section
/-! DEFINITION. The bytes that cross a port from the part (11): code sets, response, event and status frames, and the
fields of the read responses. Layouts the chapter does not give follow R189's order of fields (log 15). -/

namespace Sys2Proof.Machine

/-- R189: a status code, OK 0 to UNKNOWN_REQUEST 20. -/
def RespCode.code : RespCode → Nat
  | .ok => 0
  | .accepted => 1
  | .busy => 2
  | .interlock => 3
  | .notFitted => 4
  | .notCommissioned => 5
  | .hot => 8
  | .badField => 9
  | .noDriver => 10
  | .noProfile => 11
  | .tableFull => 12
  | .conflict => 13
  | .revisionMismatch => 14
  | .queueFull => 15
  | .active => 16
  | .nothingToUndo => 17
  | .wrongPort => 18
  | .badFrame => 19
  | .unknownRequest => 20

/-- R189: an outcome as a status code: the shared ones, then REACHED 21 to RANGE 32. -/
def AxisOutcome.code : AxisOutcome → Nat
  | .notNormalised => 6
  | .halted => 7
  | .hot => 8
  | .reached => 21
  | .offTarget => 22
  | .endStop => 23
  | .stalled => 24
  | .obstructed => 25
  | .timeout => 26
  | .sensor => 27
  | .superseded => 28
  | .aborted => 29
  | .absent => 30
  | .disabled => 31
  | .range => 32

def Speed.code : Speed → Nat
  | .standstill => 0 | .creep => 1 | .moving => 2

def Gear.code : Gear → Nat
  | .park => 0 | .neutral => 1 | .drive => 2 | .reverse => 3

def Ignition.code : Ignition → Nat
  | .off => 0 | .acc => 1 | .run => 2 | .crank => 3

def Door.code : Door → Nat
  | .opened => 0 | .closed => 1

def Supply.code : Supply → Nat
  | .low => 0 | .normal => 1 | .high => 2

def OpKind.code : OpKind → Nat
  | .recall => 1 | .undo => 2 | .normalise => 3 | .exit => 4 | .ret => 5

def HistoryCause.code : HistoryCause → Nat
  | .recall => 1 | .undo => 2 | .normalise => 3 | .exit => 4 | .ret => 5 | .jog => 6

def OpResult.code : OpResult → Nat
  | .complete => 0 | .partly => 1 | .aborted => 2

/-- R189: abort cause, absent 0. -/
def abortCode : Option AbortCause → Nat
  | none => 0
  | some .user => 1
  | some .stop => 2
  | some .vehicle => 3
  | some .driverChanged => 4
  | some .noProgress => 5

def portCode : Port → Nat
  | .vehicle => 0 | .fleet => 1 | .panel => 2

def Confidence.code : Confidence → Nat
  | .normalised => 0 | .suspect => 1 | .lost => 2

def Motion.code : Motion → Nat
  | .idle => 0 | .drivingUp => 1 | .drivingDown => 2 | .coasting => 3

def Origin.code : Origin → Nat
  | .lcl => 0 | .fleet => 1

def Storage.code : Storage → Nat
  | .stored => 0 | .pending => 1 | .failed => 2

def StoreState.code : StoreState → Nat
  | .idle => 0 | .erasing => 1 | .programming => 2

/-- R189: store result, last failure and last-result kind: none is 0. -/
def StoreResult.code : StoreResult → Nat
  | .ok => 1 | .eraseFail => 2 | .programFail => 3 | .retryExceeded => 4 | .badBlock => 5

/-- R189: the last failure, in the same set. -/
def lastFailureCode : Option FailKind → Nat
  | none => 0
  | some .eraseFail => 2
  | some .programFail => 3

def AxisFaultKind.code : AxisFaultKind → Nat
  | .stray => 0 | .sensor => 1

def ExitState.code : ExitState → Nat
  | .armed => 0 | .started => 1 | .disarmed => 2

/-- R189: exit cause, absent 0. -/
def exitCauseCode : Option ExitCause → Nat
  | none => 0
  | some .assign => 1
  | some .ignition => 2
  | some .park => 3

def PowerState.code : PowerState → Nat
  | .run => 0 | .parking => 1 | .park => 2 | .waking => 3

def SnapshotCondition.code : SnapshotCondition → Nat
  | .live => 0 | .consumed => 1 | .uncertain => 2

def PowerCause.code : PowerCause → Nat
  | .parked => 0
  | .door => 1
  | .port .vehicle => 2
  | .port .fleet => 3
  | .port .panel => 4
  | .snapshotFailed => 5
  | .consumeOk => 6
  | .consumeFailed => 7
  | .powerOn => 8

/-- R189: the kind of the active driver record. -/
def ActiveDriver.kindCode : ActiveDriver → Nat
  | .nobody => 0 | .known _ => 1 | .new _ => 2 | .dflt _ => 3

/-- The slot index of a KNOWN driver, 0 where it does not apply (R189). -/
def ActiveDriver.slotField : ActiveDriver → Nat
  | .known s => s.val
  | _ => 0

/-- R189: the permission set as a mask, bit n for the n-th cause. -/
def permissionMask (cs : List Cause) : BitVec 16 :=
  BitVec.ofNat 16 (allCauses.foldr (fun c n => (if cs.contains c then 1 else 0) + 2 * n) 0)

/-- R189: an axis mask, bits 10 to 15 clear. -/
def encMask (m : BitVec 10) : List Byte := enc16 (m.setWidth 16)

/-- R188: a frame from its code and fields. -/
def frameOf (code : Byte) (fields : List Byte) : List Byte :=
  BitVec.ofNat 8 (fields.length + 2) :: code :: fields

/-- R188: a response frame: header, response code, flags byte, then the fields from byte 4. -/
def Response.frame (r : Response) : List Byte :=
  frameOf r.request (enc8 r.code.code ++ encFlags [r.clamped, r.recallNotStarted] ++ r.fields)

/-- The active driver record as fields: kind, slot index, driver ID (R101, R189). -/
def driverFields (d : ActiveDriver) (id : Nat) : List Byte :=
  enc8 d.kindCode ++ enc8 d.slotField ++ encNat32 id

/-- R190: an OP_DONE entry, nine bytes. -/
def OutcomeEntry.bytes (e : OutcomeEntry) : List Byte :=
  enc8 e.axis.val ++ encFlags [e.planned, e.target.isSome, e.clamped, e.suspect] ++ encInt e.from_
    ++ encInt (e.target.getD 0) ++ encInt (e.final.getD 0) ++ enc8 ((e.outcome.map AxisOutcome.code).getD 0)

/-- The five codes of a vehicle state record (R189). -/
def VehicleRecord.bytes (r : VehicleRecord) : List Byte :=
  enc8 r.speed.code ++ enc8 r.gear.code ++ enc8 r.ignition.code ++ enc8 r.door.code ++ enc8 r.supply.code

/-- R189: the event codes: the routing table of R183 from 1, VEHICLE_STALE before VEHICLE_FRESH. -/
def Event.code : Event → Byte
  | .opDone .. => 1
  | .axisFault .. => 2
  | .driverChanged .. => 3
  | .profileDirty .. => 4
  | .storeResult .. => 5
  | .profileLoss .. => 6
  | .vehicleStale => 7
  | .vehicleFresh .. => 8
  | .exitState .. => 9
  | .powerState .. => 10

/-- The fields of an event frame, from byte 2 (R188 to R190). -/
def Event.fields : Event → List Byte
  | .opDone k tag r ab es =>
    enc8 k.code ++ encNat32 tag ++ enc8 r.code ++ enc8 (abortCode ab) ++ enc8 es.length
      ++ es.flatMap OutcomeEntry.bytes
  | .axisFault a k => enc8 a.val ++ enc8 k.code
  | .driverChanged d id => driverFields d id
  | .profileDirty s id rev => enc8 s.val ++ encNat32 id ++ encNat16 rev
  | .storeResult b r n l sp st =>
    enc8 b.val ++ enc8 r.code ++ enc8 n ++ enc8 (lastFailureCode l) ++ encFlag sp ++ enc8 st.code
  | .profileLoss ss d v => enc8 ss.length ++ ss.flatMap (fun i => enc8 i.val) ++ encFlag d ++ encFlag v
  | .vehicleStale => []
  | .vehicleFresh r cl b ps => r.bytes ++ encFlags [cl] ++ enc8 b ++ enc16 (permissionMask ps)
  | .exitState st d c tag => enc8 st.code ++ enc8 d ++ enc8 (exitCauseCode c) ++ encNat32 tag
  | .powerState st c cause used => enc8 st.code ++ enc8 c.code ++ enc8 cause.code ++ encFlag used

/-- R188: an event frame. -/
def Event.frame (e : Event) : List Byte := frameOf e.code e.fields

/-- R188: the port status, six bytes. -/
def PortStatus.bytes (p : PortStatus) : List Byte :=
  encFlags [p.requestFull, p.responseReady] ++ enc8 p.events ++ enc8 p.lost ++ enc8 p.overrun
    ++ enc8 p.power.code ++ [0]

/-- R188: a frame marked none, a length byte of 0. -/
def noneFrame : List Byte := [0]

/-- R188: the number of bytes that completes a read of a frame: its length byte, or one for a frame marked none. -/
def bytesToComplete (frame : List Byte) : Nat :=
  match frame with
  | b :: _ => if b = 0 then 1 else b.toNat
  | [] => 0

/-- R188: what the part returns for `n` bytes clocked: the frame, then 00. -/
def clockOut (frame : List Byte) (n : Nat) : List Byte := (frame ++ List.replicate n 0).take n

/-! ## Read responses -/

/-- R51: the portable position READ_AXES reports. -/
def State.reportedPosition (s : State) (a : Axis) (u : AxisUnit) : Option Int :=
  if a.counted then (if u.confidence == .lost then none else s.storeConversion a u.position)
  else if u.sensorFault then none else s.storeConversion a u.position

/-- R189: a portable position field, or the absent mark. -/
def encPosition : Option Int → List Byte
  | some p => encInt p
  | none => enc16 absentMark

/-- R5, R189: the eight bytes of an axis in READ_AXES. -/
def State.axisBytes (s : State) (a : Axis) : List Byte :=
  let u := s.axes[a.val]
  encInt u.position ++ encPosition (s.reportedPosition a u) ++ enc8 (u.reportedConfidence a).code
    ++ enc8 u.motion.code ++ encFlags [u.halted, u.hot, u.sensorFault] ++ [0]

/-- R5: the fields of the READ_AXES response. -/
def State.axesFields (s : State) : List Byte := allAxes.flatMap s.axisBytes

/-- R189: the travel and then the run-time counter of each axis. -/
def State.counterFields (s : State) : List Byte :=
  allAxes.flatMap fun a => enc32 s.axes[a.val].travel ++ enc32 s.axes[a.val].runTime

/-- R189: an axis mask from a predicate on axes. -/
def axisMask (f : Axis → Bool) : BitVec 16 :=
  BitVec.ofNat 16 (allAxes.foldr (fun a n => (if f a then 1 else 0) + 2 * n) 0)

/-- R191: the eight bytes of an axis in READ_VAN_RECORD; absent sets and stops are sent as 0. -/
def State.vanAxisBytes (s : State) (a : Axis) : List Byte :=
  if a.counted then
    let c := (s.countedCal a).getD ⟨0, 0, 0, 0⟩
    encInt c.c0 ++ encNat16 c.k ++ enc8 c.m ++ enc8 c.t ++ encInt ((s.stopsOf a).getD ⟨0, 0⟩).hi
  else
    let c := (s.mirrorCal a).getD ⟨0, 0, 0, 0⟩
    encNat16 c.z ++ encNat16 c.kr ++ encNat16 c.rlo ++ encNat16 c.rhi

/-- R33, R191: the fields of the READ_VAN_RECORD response. -/
def State.vanFields (s : State) : List Byte :=
  encMask s.fitted ++ encMask s.van.enable ++ encMask s.effective ++ enc16 (axisMask s.isCommissioned)
    ++ enc16 (axisMask fun a => (s.stopsOf a).isSome)
    ++ encFlags [s.van.recallDefault, s.van.exitAllowed, s.van.doorOpenOnly, s.van.commissioned]
    ++ allAxes.flatMap s.vanAxisBytes

/-- R190: the positions of a profile, ten fields. -/
def Profile.positionBytes (p : Profile) : List Byte := p.positions.toList.flatMap encPosition

/-- R190: the 33 bytes of a slot's profile record. -/
def Slot.bytes (i : SlotIx) (x : Slot) : List Byte :=
  encNat32 x.record.driver ++ encNat16 x.record.revision ++ x.record.profile.positionBytes
    ++ enc8 x.record.profile.exit ++ enc8 i.val
    ++ enc8 ((if x.record.inUse then 1 else 0) + (if x.record.dirty then 2 else 0) + 4 * x.storage.code
        + (if x.record.origin == .fleet then 16 else 0) + (if x.record.pinned then 32 else 0))
    ++ encNat32 x.record.stamp

/-- R190: the 33 bytes of the default profile: driver ID, revision, status and stamp 0, slot index 48. -/
def Profile.defaultBytes (p : Profile) : List Byte :=
  encNat32 0 ++ encNat16 0 ++ p.positionBytes ++ enc8 p.exit ++ enc8 48 ++ enc8 0 ++ encNat32 0

/-- R190: a history record, 10 + 6 × n bytes. -/
def HistoryRecord.bytes (h : HistoryRecord) : List Byte :=
  encNat32 h.tag ++ enc8 h.cause.code ++ enc8 (portCode h.port) ++ enc8 h.result.code
    ++ enc8 (abortCode h.abortCause) ++ encFlag h.undone ++ enc8 h.entries.length
    ++ h.entries.flatMap fun e => enc8 e.axis.val ++ encInt e.from_ ++ encInt e.to_ ++ enc8 e.outcome.code

/-- R140, R190: the fields of the READ_HISTORY response: the number held, and the record where there is one. -/
def State.historyFields (s : State) (index : Nat) : List Byte :=
  enc8 s.engine.ring.length ++ ((s.engine.ring[index]?).map HistoryRecord.bytes).getD []

/-- R119: the fields of the READ_DIRTY response; 0 in place of the head's fields where the list is empty (R189). -/
def State.dirtyFields (s : State) : List Byte :=
  enc8 s.table.dirty.length ++
    match s.table.dirty with
    | i :: _ =>
      let r := s.table.slots[i.val].record
      enc8 i.val ++ encNat32 r.driver ++ encNat16 r.revision ++ enc8 r.origin.code
    | [] => enc8 0 ++ encNat32 0 ++ encNat16 0 ++ enc8 0

/-- R160: the fields of the READ_STORE_STATUS response, in the rule's order. -/
def State.storeFields (s : State) : List Byte :=
  let st := s.store
  enc8 st.state.code
    ++ (match st.write with
        | some w => enc8 w.block.val ++ enc8 w.attempt ++ encFlag w.onSpare
        | none => enc8 0 ++ enc8 0 ++ encFlag false)
    ++ enc8 st.queue.length ++ st.queue.flatMap (fun b => enc8 b.val) ++ st.held.flatMap (fun b => enc8 b.val)
    ++ (match st.spare with
        | some i => enc8 1 ++ enc8 i.val
        | none => enc8 0 ++ enc8 0)
    ++ enc8 st.dfltState.code ++ enc8 st.vanState.code ++ enc8 st.snapState.code
    ++ (match st.lastResult with
        | some r => enc8 r.block.val ++ enc8 r.result.code ++ enc8 r.attempts
        | none => enc8 0 ++ enc8 0 ++ enc8 0)

end Sys2Proof.Machine
end

