-- ==== Sys2Proof/Machine/Ops.lean ====
section
/-! DEFINITION. The named operations over the state that every block shares: axis units, port units and their events,
the history ring, tags, free values, profile slots; and the one form in which a command acts on a powered part. -/

namespace Sys2Proof.Machine

/-! ## Axis units -/

/-- The unit of an axis. -/
def State.axis (s : State) (a : Axis) : AxisUnit := s.axes[a.val]

/-- Replace the unit of an axis. -/
def State.setAxis (s : State) (a : Axis) (u : AxisUnit) : State := { s with axes := s.axes.set a.val u }

/-- Change the unit of an axis. -/
def State.modAxis (s : State) (a : Axis) (f : AxisUnit → AxisUnit) : State := s.setAxis a (f (s.axis a))

/-- Change every axis unit alike. -/
def State.mapAxes (s : State) (f : Axis → AxisUnit → AxisUnit) : State :=
  allAxes.foldl (fun t a => t.modAxis a (f a)) s

/-! ## Port units and events -/

/-- The unit of a port. -/
def Ports.get (ps : Ports) : Port → PortUnit
  | .vehicle => ps.vehicle
  | .fleet => ps.fleet
  | .panel => ps.panel

/-- Replace the unit of a port. -/
def Ports.set (ps : Ports) (p : Port) (u : PortUnit) : Ports :=
  match p with
  | .vehicle => { ps with vehicle := u }
  | .fleet => { ps with fleet := u }
  | .panel => { ps with panel := u }

/-- The unit of a port. -/
def State.port (s : State) (p : Port) : PortUnit := s.ports.get p

/-- Replace the unit of a port. -/
def State.setPort (s : State) (p : Port) (u : PortUnit) : State := { s with ports := s.ports.set p u }

/-- Change the unit of a port. -/
def State.modPort (s : State) (p : Port) (f : PortUnit → PortUnit) : State := s.setPort p (f (s.port p))

/-- R176: the port counts saturate at 255. -/
def bumpCount (n : Nat) : Nat := min (n + 1) 255

/-- R182: an event goes to the tail of the queue, or is dropped and counted where the queue holds sixteen. -/
def PortUnit.enqueue (u : PortUnit) (e : Event) : PortUnit :=
  if u.events.length < 16 then { u with events := u.events ++ [e] } else { u with lost := bumpCount u.lost }

/-- R182: raise an event at one port. -/
def State.raise (s : State) (p : Port) (e : Event) : State := s.modPort p (·.enqueue e)

/-- R182: raise an event at several ports, at each separately. -/
def State.raiseAt (s : State) (ps : List Port) (e : Event) : State := ps.foldl (fun t p => t.raise p e) s

/-- R183: OP_DONE goes to the requester and the panel, once where they are the same. -/
def opDonePorts (requester : Port) : List Port :=
  if requester = .panel then [.panel] else [requester, .panel]

/-! ## History, tags, identities, free values -/

/-- R139: a record enters the ring as the newest; the ninth oldest leaves. -/
def State.writeHistory (s : State) (r : HistoryRecord) : State :=
  { s with engine := { s.engine with ring := (r :: s.engine.ring).take 8 } }

/-- The largest operation counter (R105). -/
def counterMax : Nat := 4294967295

/-- R105: an operation has taken its tag: the counter rises by one, or saturates. -/
def State.bumpCounter (s : State) : State :=
  { s with table := { s.table with counter := min (s.table.counter + 1) counterMax } }

/-- The next identity of a jog record or operation (log 7). -/
def State.bumpId (s : State) : State := { s with model := { s.model with nextId := s.model.nextId + 1 } }

/-- The next free value has been drawn (log 7). -/
def State.bumpFree (s : State) : State := { s with model := { s.model with freeSeq := s.model.freeSeq + 1 } }

/-! ## Profile slots -/

/-- A profile slot. -/
def State.slot (s : State) (i : SlotIx) : Slot := s.table.slots[i.val]

/-- Replace a profile slot. -/
def State.setSlot (s : State) (i : SlotIx) (x : Slot) : State :=
  { s with table := { s.table with slots := s.table.slots.set i.val x } }

/-- Change a slot's record. -/
def State.modRecord (s : State) (i : SlotIx) (f : SlotRecord → SlotRecord) : State :=
  s.setSlot i { s.slot i with record := f (s.slot i).record }

/-- The slots in index order. -/
def allSlots : List SlotIx := List.finRange 48

/-- R98: the slot that holds a driver ID. -/
def State.findSlot (s : State) (id : Nat) : Option SlotIx :=
  allSlots.find? fun i => (s.slot i).record.inUse && (s.slot i).record.driver == id

/-- R98: the lowest-indexed EMPTY slot. -/
def State.emptySlot (s : State) : Option SlotIx := allSlots.find? fun i => !(s.slot i).record.inUse

/-- R102: the four conditions of an eviction candidate. -/
def State.evictable (s : State) (i : SlotIx) : Bool :=
  let x := s.slot i
  x.record.inUse && !x.record.pinned && !x.record.dirty && x.storage != .pending
    && s.table.driver != .known i

/-- R102: the eviction victim: the smallest stamp among the candidates, the lowest index among equals. -/
def State.victim (s : State) : Option SlotIx :=
  (allSlots.filter s.evictable).foldl
    (fun best i =>
      match best with
      | none => some i
      | some j => if (s.slot i).record.stamp < (s.slot j).record.stamp then some i else some j)
    none

/-- R98, R110, R113: a slot to give to an ID that no slot holds: EMPTY first, then the eviction victim. -/
def State.slotToGive (s : State) : Option SlotIx := s.emptySlot.or s.victim

/-- The driver ID a slot loses when it is given to another driver; 0 where it was EMPTY (R189). -/
def State.evictedFrom (s : State) (i : SlotIx) : Nat :=
  if (s.slot i).record.inUse then (s.slot i).record.driver else 0

/-- R103: a slot's index enters the dirty list at the tail, or keeps the place it has. -/
def State.enterDirty (s : State) (i : SlotIx) : State :=
  if s.table.dirty.contains i then s else { s with table := { s.table with dirty := s.table.dirty ++ [i] } }

/-- R103: a slot's index leaves the dirty list. -/
def State.leaveDirty (s : State) (i : SlotIx) : State :=
  { s with table := { s.table with dirty := s.table.dirty.filter (· != i) } }

/-- R104: the revision after an edit; 65535 is followed by 1. -/
def nextRevision (r : Nat) : Nat := if 65535 ≤ r then 1 else r + 1

/-- The driver ID of an active driver record; for KNOWN, that of its slot. -/
def State.driverId (s : State) : ActiveDriver → Nat
  | .nobody => 0
  | .known i => (s.slot i).record.driver
  | .new id => id
  | .dflt id => id

/-- R101, R121: DRIVER_CHANGED at all ports, with the record as it then stands. -/
def State.raiseDriverChanged (s : State) : State :=
  s.raiseAt [.vehicle, .fleet, .panel] (.driverChanged s.table.driver (s.driverId s.table.driver))

/-! ## The form of a command -/

/-- R163: a part without supply takes no command (log 8); a powered part acts. -/
def live (f : State → State) (s : State) : Host.Outcome State Fault Refusal :=
  .next (if s.powered then f s else s)

end Sys2Proof.Machine
end

