-- ==== Sys2Proof/Machine/Store.lean ====
section
/-! DEFINITION. The profile store (08) and power control's part in it (09): commits and the queue, the start, the
attempts and the end of a write, entry into PARK and WAKING, wake causes. -/

namespace Sys2Proof.Machine

/-- R148: the logical block of a slot. -/
def slotBlock (i : SlotIx) : BlockIx := ⟨i.val, by omega⟩

/-- R148: the logical block of the default profile. -/
def dfltBlock : BlockIx := 48

/-- R148: the logical block of the van record. -/
def vanBlock : BlockIx := 49

/-- R148: the logical block of the snapshot. -/
def snapBlock : BlockIx := 50

/-- R148: the slot a logical block holds, where it holds one. -/
def blockSlot (b : BlockIx) : Option SlotIx := if h : b.val < 48 then some ⟨b.val, h⟩ else none

/-- R148: the home block of a logical block. -/
def homeBlock (b : BlockIx) : PhysIx := ⟨b.val, by omega⟩

/-- R148: the spare. -/
def spareBlock : PhysIx := 51

/-- R99, R31, R35: a request's commit of a block finds a place. -/
def State.commitPlace (s : State) (b : BlockIx) : Bool := s.store.queue.contains b || s.store.queue.length < 8

/-- R151, R152: a commit of the block waits or is held. -/
def State.commitWaits (s : State) (b : BlockIx) : Bool := s.store.queue.contains b || s.store.held.contains b

/-- R99, R152: set the storage state of a logical block. -/
def State.setStorage (s : State) (b : BlockIx) (x : Storage) : State :=
  match blockSlot b with
  | some i => s.setSlot i { s.slot i with storage := x }
  | none =>
    if b = dfltBlock then { s with store := { s.store with dfltState := x } }
    else if b = vanBlock then { s with store := { s.store with vanState := x } }
    else { s with store := { s.store with snapState := x } }

/-- R168: the snapshot image of the axis units as they stand. R168 and R172: the consumed marker is clear in a
snapshot, whose write starts in PARKING, and set in a consume image (log 32). -/
def State.snapshotImage (s : State) : Snapshot :=
  { counts := Vector.ofFn fun i : Fin 6 =>
      let u := s.axis ⟨i.val, by omega⟩
      (u.position, u.confidence, u.heat)
    wear := Vector.ofFn fun a : Fin 10 => ((s.axis a).travel, (s.axis a).runTime)
    consumed := s.power.state != .parking }

/-- R153: the image of a logical block, from its owner's RAM copy as it stands. -/
def State.imageOf (s : State) (b : BlockIx) : Image :=
  match blockSlot b with
  | some i => .slot i (s.slot i).record
  | none =>
    if b = dfltBlock then .dflt s.table.dflt
    else if b = vanBlock then .van s.van
    else .snapshot s.snapshotImage

/-- R157: writes of a logical block go to the spare while the spare is TAKEN by its slot. -/
def State.onSpare (s : State) (b : BlockIx) : Bool :=
  match blockSlot b with
  | some i => s.store.spare == some i
  | none => false

/-- R153: the next write starts where the store is IDLE, the queue is not empty and the power state is not PARK. -/
def State.startWrite (s : State) : State :=
  match s.store.queue with
  | [] => s
  | b :: rest =>
    if s.store.state = .idle ∧ s.power.state ≠ .park then
      { s with store := { s.store with
          queue := rest ++ s.store.held.take 1
          held := s.store.held.drop 1
          state := .erasing
          write := some { block := b, image := s.imageOf b, onSpare := s.onSpare b }
          eraseTimer := some 60
          programTimer := none
          lastResult := none } }
    else s

/-- R150, R151: a commit joins its block's entry, takes a place at the tail, or, for the part's own work, is held. -/
def State.placeCommit (s : State) (b : BlockIx) : State :=
  if s.store.queue.contains b then s
  else if s.store.queue.length < 8 then { s with store := { s.store with queue := s.store.queue ++ [b] } }
  else if s.store.held.contains b then s
  else { s with store := { s.store with held := s.store.held ++ [b] } }

/-- R150, R152, R99: a commit of a block: PENDING, placed, and its write started where the store is IDLE. -/
def State.commit (s : State) (b : BlockIx) : State := ((s.setStorage b .pending).placeCommit b).startWrite

/-! ## Power states -/

/-- R169: entry into PARK: sensing and timers stop, and the monitor becomes STALE with the safe record (R97). -/
def State.enterPark (s : State) : State :=
  { s.mapAxes (fun _ u => { u with intervalTimer := none, drove := false }) with
    monitor := {}
    power := { s.power with state := .park } }

/-- R171: entry into WAKING: the settle timer starts, the interval timers restart, the freshness timer is stopped
(the monitor is STALE through WAKING, R172; log 26, log 39). DESIGN CHOICE (log 49): on the way from PARKING without PARK,
too, the interval then running counts as not driving, also for a mirror that has just driven; R20 says so of PARK. -/
def State.enterWaking (s : State) : State :=
  { s.mapAxes (fun _ u => { u with intervalTimer := some 100, drove := false }) with
    monitor := {}
    power := { s.power with state := .waking, wakePending := false, settleTimer := some 40 } }

/-- R170: a wake cause is taken; in RUN and WAKING it is disregarded. -/
def State.wake (s : State) (c : WakeCause) : State :=
  let p := { s.power with wakeCause := s.power.wakeCause.or (some c) }
  match s.power.state with
  | .park => { s with power := p }.enterWaking
  | .parking => { s with power := { p with wakePending := true } }
  | .run | .waking => s

/-- R172: POWER_STATE at the vehicle port, with the snapshot condition as it then stands. -/
def State.raisePowerState (s : State) (st : PowerState) (cause : PowerCause) (used : Bool) : State :=
  s.raise .vehicle (.powerState st s.power.snapshot cause used)

/-- Set the snapshot condition. -/
def State.setSnapshot (s : State) (c : SnapshotCondition) : State := { s with power := { s.power with snapshot := c } }

/-- R169: the end of a snapshot write. DESIGN CHOICE (log 46): wake pending alone decides between PARK and WAKING. R169
says that the queue is then empty, since every commit taken in PARKING has set wake pending; a request written in RUN and
taken in PARKING by a READ_RESPONSE is no wake cause (R170), and its commit then waits through PARK. -/
def State.snapshotEnd (s : State) (ok : Bool) : State :=
  if ok then
    if s.power.wakePending then (s.setSnapshot .live).enterWaking
    else ((s.setSnapshot .live).enterPark).raisePowerState .park .parked false
  else
    let t := s.setSnapshot .uncertain
    { t with power := { t.power with state := .run, wakePending := false } }.raisePowerState .run .snapshotFailed false

/-- R173: the end of a consume write. -/
def State.consumeEnd (s : State) (ok : Bool) : State :=
  if ok then (s.setSnapshot .consumed).raisePowerState .run .consumeOk false
  else (s.setSnapshot .uncertain).raisePowerState .run .consumeFailed false

/-! ## The end of a write -/

/-- R99, R152: the storage state a block takes at the end of its write. -/
def storageAfter (ok waits : Bool) : Storage := if waits then .pending else if ok then .stored else .failed

/-- R158 step 2: the result is handed to the block's owner. -/
def State.handResult (s : State) (w : Write) (ok : Bool) : State :=
  let t := s.setStorage w.block (storageAfter ok (s.commitWaits w.block))
  match w.image with
  | .snapshot i => if i.consumed then t.consumeEnd ok else t.snapshotEnd ok
  | .slot .. | .dflt _ | .van _ => t

/-- R158 step 4: the store is IDLE, and the next write starts where one waits. -/
def State.storeIdle (s : State) : State :=
  { s with store := { s.store with
      state := .idle, write := none, eraseTimer := none, programTimer := none } }.startWrite

/-- R158: the end of a write, in the rule's order. -/
def State.endWrite (s : State) (w : Write) (r : StoreResult) : State :=
  let ok := r == .ok
  let t := { s with store := { s.store with lastResult := some ⟨w.block, r, w.attempt⟩ } }
  let t := t.handResult w ok
  let t := t.raiseAt [.fleet, .panel]
    (.storeResult w.block r w.attempt w.lastFailure w.onSpare (storageAfter ok (s.commitWaits w.block)))
  t.storeIdle

/-- R153: the physical target of a write. -/
def Write.target (w : Write) : PhysIx := if w.onSpare then spareBlock else homeBlock w.block

/-- Set what a physical block holds. -/
def State.setBlock (s : State) (i : PhysIx) (b : Block) : State :=
  { s with store := { s.store with blocks := s.store.blocks.set i.val b } }

/-- How an attempt fails: its erase (R154), its read-back, or its program timer (R155). -/
inductive Failure where
  | erase | verify | programTimeout
  deriving DecidableEq, Repr

/-- R156: the last-failure kind. -/
def Failure.kind : Failure → FailKind
  | .erase => .eraseFail
  | .verify | .programTimeout => .programFail

/-- R156: the failed attempt's kind as a last-result kind. -/
def FailKind.result : FailKind → StoreResult
  | .eraseFail => .eraseFail
  | .programFail => .programFail

/-- R156: what a failed attempt leaves, from the free value `l` (log 9): after an erase failure any condition; after a
verify failure neither the old image nor the new; after a program cut short CORRUPT (R149), or the program completed. -/
def leftBlock (f : Failure) (l : BlockLeft) (old : Block) (image : Image) : Block :=
  match f, l with
  | .erase, .old => old
  | .erase, .blank => .blank
  | .erase, _ => .corrupt
  | .verify, .blank => .blank
  | .verify, _ => .corrupt
  | .programTimeout, .programmed => .valid image
  | .programTimeout, _ => .corrupt

/-- R153, R156: an attempt begins: the erase of the target, with its timer. -/
def State.beginAttempt (s : State) (w : Write) : State :=
  { s with store := { s.store with write := some w, state := .erasing, eraseTimer := some 60, programTimer := none } }

/-- R156, R157: what follows a failed attempt: another attempt on the same target, the spare, or the end. -/
def State.afterFailure (s : State) (w : Write) : State :=
  if w.onTarget < 3 then s.beginAttempt { w with attempt := w.attempt + 1, onTarget := w.onTarget + 1 }
  else if w.onSpare then s.endWrite w .badBlock
  else
    match blockSlot w.block, s.store.spare with
    | some i, none =>
      { s with store := { s.store with spare := some i } }.beginAttempt
        { w with attempt := w.attempt + 1, onTarget := 1, onSpare := true }
    | _, _ => s.endWrite w .retryExceeded

/-- R156: an attempt fails: its kind is recorded, the block is left as the free value says, and the store decides. -/
def State.failAttempt (s : State) (f : Failure) : State :=
  match s.store.write with
  | none => s
  | some w =>
    let left := leftBlock f (Config.blockLeft s.model.freeSeq) s.store.blocks[w.target.val] w.image
    let w := { w with lastFailure := some f.kind }
    let t := (s.setBlock w.target left).bumpFree
    { t with store := { t.store with lastResult := some ⟨w.block, f.kind.result, w.attempt⟩ } }.afterFailure w

/-- R154: the erase is complete and good: the block is erased, and its program begins. -/
def State.eraseGood (s : State) : State :=
  match s.store.write with
  | none => s
  | some w =>
    let t := s.setBlock w.target .blank
    { t with store := { t.store with state := .programming, eraseTimer := none, programTimer := some 12 } }

/-- R155: the program is complete and reads back equal: the block holds the image, and the write ends OK. -/
def State.programGood (s : State) : State :=
  match s.store.write with
  | none => s
  | some w => (s.setBlock w.target (.valid w.image)).endWrite w .ok

end Sys2Proof.Machine
end

