-- ==== Sys2Proof/Machine/Moves.lean ====
section
/-! DEFINITION. The move list, the arbiter and what the axis units do for them (01, 04): cuts, grants, endings, backoffs,
settling, admission, supersession, revocation. -/

namespace Sys2Proof.Machine

/-! ## Entries -/

/-- R59: the entry of an axis; there is at most one. -/
def State.entryOf (s : State) (a : Axis) : Option MoveEntry := s.moves.entries.find? (·.axis == a)

/-- Replace the entry of an axis, in its place. -/
def State.setEntry (s : State) (e : MoveEntry) : State :=
  { s with moves := { s.moves with entries := s.moves.entries.map fun x => if x.axis = e.axis then e else x } }

/-- R59: the entry of an axis leaves the list; those behind it close up. -/
def State.dropEntry (s : State) (a : Axis) : State :=
  { s with moves := { s.moves with entries := s.moves.entries.filter (·.axis != a) } }

/-- R65: an event of this action occasions a grant walk of its own. -/
def State.askWalk (s : State) : State := { s with moves := { s.moves with walksDue := s.moves.walksDue + 1 } }

/-- R64: the demands of the DRIVING entries together. -/
def State.drawn (s : State) : Nat :=
  ((s.moves.entries.filter (·.state == .driving)).map fun e => demand e.axis).sum

/-- R64: the remaining budget. -/
def State.freeBudget (s : State) : Nat := s.budget - s.drawn

/-- R60: an entry, on the list or settling off it, whose owner is given. -/
def State.owns (s : State) (o : Owner) : Bool :=
  s.moves.entries.any (·.owner == o) || s.moves.offList.any (·.owner == o)

/-! ## Motor drive -/

/-- R4: the motor is cut: a counted axis coasts, a mirror is IDLE at once. `atPoint`: at the cut point of R16. -/
def AxisUnit.cut (u : AxisUnit) (a : Axis) (atPoint : Bool) : AxisUnit :=
  if u.driving then
    if a.counted then
      { u with motion := .coasting, coastTimer := some 150, countAtCut := u.position, cutAtPoint := atPoint,
               cutPoint := none, stallTimer := none }
    else { u with motion := .idle, cutSampleDue := true, cutPoint := none, stallTimer := none, strayRaised := false }
  else u

/-- R4: the motor of an axis is cut. -/
def State.cutMotor (s : State) (a : Axis) (atPoint : Bool) : State := s.modAxis a (·.cut a atPoint)

/-- R4: the motion state of a drive. -/
def Dir.motion : Dir → Motion
  | .up => .drivingUp
  | .down => .drivingDown

/-- R4, R12: the axis unit drives on a grant: the stall timer starts, the last driven direction is set. -/
def AxisUnit.drive (u : AxisUnit) (a : Axis) (d : Dir) (cutPoint : Option Int) : AxisUnit :=
  { u with motion := Dir.motion d, lastDir := d, drove := true, cutPoint := cutPoint
           stallTimer := some (if a.counted then 200 else 300)
           stallRef := if a.counted then u.stallRef else u.position }

/-- R16, R19: the deadband. -/
def deadband (a : Axis) : Nat := if a.counted then 2 else 3

/-- R16: the direction of a drive towards a target. -/
def towards (position target : Int) : Dir := if position < target then .up else .down

/-- R16: the cut point, from the effective lead; a mirror has none (R19). -/
def AxisUnit.cutPointFor (u : AxisUnit) (a : Axis) (target : Int) (correction : Bool) : Option Int :=
  if a.counted then
    let d := towards u.position target
    let lead := if correction then 0 else min (u.lead d) ((u.position - target).natAbs - 1)
    some (match d with | .up => target - lead | .down => target + lead)
  else none

/-! ## Reports to owners -/

/-- R78: a jog record takes an ending report. -/
def JogRecord.takeReport (r : JogRecord) (e : MoveEntry) (o : AxisOutcome) (final : Int) : JogRecord :=
  if e.cause = .backoff then { r with final := some final, backoff := false }
  else if r.abortSource = some .stopAll then { r with final := some final }
  else { r with outcome := some o, final := some final
                abortSource := if o = .aborted then some .maskDeparture else none }

/-- Change an outcome list entry. -/
def Operation.modOutcome (op : Operation) (a : Axis) (f : OutcomeEntry → OutcomeEntry) : Operation :=
  { op with outcomes := op.outcomes.map fun x => if x.axis = a then f x else x }

/-- R132, R39: an operation takes an ending report; `suspect`: the counted axis is then SUSPECT. -/
def Operation.takeReport (op : Operation) (e : MoveEntry) (o : AxisOutcome) (final : Int) (suspect : Bool) : Operation :=
  if e.cause = .backoff then op.modOutcome e.axis fun x => { x with final := some final }
  else if op.stage = .leg1 ∨ op.stage = .leg2 then { op with legEnd := some (o, final) }
  else op.modOutcome e.axis fun x => { x with outcome := some o, final := some final, suspect := suspect }

/-- R124: the SUSPECT flag of an outcome recorded now. -/
def State.suspectNow (s : State) (a : Axis) : Bool := a.counted && (s.axis a).confidence == .suspect

/-- Change the operation of an identity, active or CLOSING. -/
def RecallEngine.modOperation (g : RecallEngine) (id : Nat) (f : Operation → Operation) : RecallEngine :=
  { g with active := g.active.map fun op => if op.id = id then f op else op
           closing := g.closing.map fun op => if op.id = id then f op else op }

/-- R133: the timer is set again at a grant or an ending of one of the active operation's moves. -/
def Operation.restartProgress (op : Operation) : Operation :=
  { op with progress := op.progress.map fun _ => 5000 }

/-- R60: the ending report goes to the entry's owner. -/
def State.report (s : State) (e : MoveEntry) (o : AxisOutcome) (final : Int) : State :=
  match e.owner with
  | .nobody => s
  | .jog id =>
    { s with moves := { s.moves with
        jogs := s.moves.jogs.map fun r => if r.id = id then r.takeReport e o final else r } }
  | .operation id =>
    let sus := s.suspectNow e.axis
    { s with engine := s.engine.modOperation id fun op => (op.takeReport e o final sus).restartProgress }

/-- R60, R133, R39: the grant report goes to the entry's owner. -/
def State.grantReport (s : State) (e : MoveEntry) : State :=
  match e.owner with
  | .operation id => { s with engine := s.engine.modOperation id fun op => { op.restartProgress with legGranted := true } }
  | .jog _ | .nobody => s

/-! ## Endings -/

/-- R42: a seek leg of a normalise. -/
def MoveEntry.isSeekLeg (e : MoveEntry) : Bool :=
  e.cause == .normalise && (match e.kind with | .seek _ => true | .target _ => false)

/-- R9: a TIMEOUT lowers NORMALISED to SUSPECT, but not on a seek leg (R42); R15: OBSTRUCTED sets HALTED. -/
def AxisUnit.takeOutcome (u : AxisUnit) (e : MoveEntry) (o : AxisOutcome) : AxisUnit :=
  if o = .timeout ∧ e.axis.counted ∧ u.confidence = .normalised ∧ !e.isSeekLeg then { u with confidence := .suspect }
  else if o = .obstructed then { u with halted := true }
  else u

/-- R72: an entry that has left the list ends: its outcome acts on the axis and is reported to the owner. -/
def State.endEntry (s : State) (e : MoveEntry) (o : AxisOutcome) (final : Int) : State :=
  (s.modAxis e.axis (·.takeOutcome e o)).report e o final

/-- R74, R60: the owner of a backoff: that of the move it follows, where it still exists and is not aborted. -/
def State.backoffOwner (s : State) (e : MoveEntry) : Owner :=
  match e.owner with
  | .operation id => if s.engine.active.any (·.id == id) then .operation id else .nobody
  | .jog id => .jog id
  | .nobody => .nobody

/-- R14: the backoff target: 20 counts against the driven direction from the final count, clamped into the stops. -/
def State.backoffTarget (s : State) (a : Axis) (final : Int) : Int :=
  let raw := match (s.axis a).lastDir with | .up => final - 20 | .down => final + 20
  match s.stopsOf a with
  | some st => clampInt st.lo st.hi raw
  | none => raw

/-- R59: a BACKOFF entry goes immediately ahead of the first WAITING entry, or to the tail. -/
def insertBackoff (b : MoveEntry) (es : List MoveEntry) : List MoveEntry :=
  es.takeWhile (·.state != .waiting) ++ b :: es.dropWhile (·.state != .waiting)

/-- R81: the jog record whose obstructed entry is followed by a backoff marks it outstanding. -/
def State.markBackoff (s : State) : Owner → State
  | .jog id =>
    { s with moves := { s.moves with jogs := s.moves.jogs.map fun r => if r.id = id then { r with backoff := true } else r } }
  | .operation _ | .nobody => s

/-- R14, R61, R63: the backoff of an obstructed move is admitted; for a HOT axis it ends HOT at its admission. -/
def State.offerBackoff (s : State) (e : MoveEntry) (final : Int) : State :=
  let b : MoveEntry := { axis := e.axis, cause := .backoff, kind := .target (s.backoffTarget e.axis final)
                         tag := e.tag, owner := s.backoffOwner e }
  let t := (s.markBackoff b.owner).askWalk
  if (s.axis e.axis).hot then t.endEntry b .hot (t.axis e.axis).position
  else { t with moves := { t.moves with entries := insertBackoff b t.moves.entries } }

/-- R72: an entry that has left the list ends, and an obstructed counted axis backs off unless withheld. -/
def State.endAndFollow (s : State) (e : MoveEntry) (o : AxisOutcome) (final : Int) : State :=
  let t := s.endEntry e o final
  if o = .obstructed ∧ e.axis.counted ∧ !e.noBackoff then t.offerBackoff e final else t

/-- R59, R65, R72: the entry of an axis leaves the list and ends. -/
def State.finishEntry (s : State) (e : MoveEntry) (o : AxisOutcome) (final : Int) : State :=
  ((s.dropEntry e.axis).askWalk).endAndFollow e o final

/-! ## Grants -/

/-- R66: the entry drives: its pass count is 0 and its time limit set (R56); the owner is told. -/
def State.grantDrive (s : State) (e : MoveEntry) (d : Dir) (cutPoint : Option Int) : State :=
  let u := s.axis e.axis
  ((s.setAxis e.axis (u.drive e.axis d cutPoint)).setEntry
    { e with state := .driving, passCount := 0, timeLimit := some (s.timeLimitOf e.axis u.position e.kind) }).grantReport e

/-- R66, R16, R19, R11: a grant: a drive, or an end at the grant. DESIGN CHOICE (log 43): a mirror with SENSOR_FAULT set
whose raw value lies within the deadband ends SENSOR; R11 says so of every grant, R19 and R66 say REACHED. -/
def State.grant (s : State) (e : MoveEntry) : State :=
  let u := s.axis e.axis
  if u.sensorFault ∧ e.axis.mirror then s.finishEntry e .sensor u.position
  else
    match e.kind with
    | .seek d => s.grantDrive e d none
    | .target t =>
      if (u.position - t).natAbs ≤ deadband e.axis then s.finishEntry e .reached u.position
      else s.grantDrive e (towards u.position t) (u.cutPointFor e.axis t e.correctionUsed)

/-- A grant walk in progress (R66, R67): the entries that lacked budget so far, those of them with a later grant,
and whether a BLOCKING entry has stopped it. -/
structure Walk where
  state : State
  lacked : List Axis := []
  passed : List Axis := []
  stopped : Bool := false

/-- R66, R67: the walk comes to the entry of an axis. `ex`: the axes of the entries whose revocation this walk follows,
which it does not grant (R68). -/
def Walk.visit (ex : List Axis) (w : Walk) (a : Axis) : Walk :=
  if w.stopped then w
  else
    match w.state.entryOf a with
    | none => w
    | some e =>
      if e.state ≠ .waiting then w
      else if (w.state.axis a).motion ≠ .idle ∨ (w.state.axis a).hot ∨ ex.contains a then
        { w with stopped := 3 ≤ e.passCount }
      else if demand a ≤ w.state.freeBudget then
        let t := w.state.grant e
        { w with state := t, passed := if (t.axis a).driving then w.lacked else w.passed }
      else { w with lacked := a :: w.lacked, stopped := 3 ≤ e.passCount }

/-- R67: the pass count of an entry passed over rises by one, to 3 at most. -/
def MoveEntry.raisePass (passed : List Axis) (e : MoveEntry) : MoveEntry :=
  if passed.contains e.axis then { e with passCount := min (e.passCount + 1) 3 } else e

/-- R67: the pass count of each entry passed over rises. -/
def State.raisePass (s : State) (passed : List Axis) : State :=
  { s with moves := { s.moves with entries := s.moves.entries.map (·.raisePass passed) } }

/-- R65, R66: one grant walk from head to tail; none while the power state is not RUN. -/
def State.walkOnce (s : State) (ex : List Axis) : State :=
  if s.power.state = .run then
    let w := (s.moves.entries.map (·.axis)).foldl (Walk.visit ex) { state := s }
    w.state.raisePass w.passed
  else s

/-- The state with `k` grant walks due. -/
def State.withDue (s : State) (k : Nat) : State := { s with moves := { s.moves with walksDue := k } }

/-- R65: the walks that are due, one after another, at most `n`: each finds what those before it have granted, and one
that ends entries at their grant occasions further ones. The first is the one that follows the revocation of the
entries `ex`, which it does not grant; a later one may (R68, log 19). -/
def State.walks : Nat → List Axis → State → State
  | 0, _, s => s
  | n + 1, ex, s =>
    match s.moves.walksDue with
    | 0 => s
    | k + 1 => walks n [] ((s.withDue k).walkOnce ex)

/-- R65: the arbiter runs every walk that is due. A walk occasions no more walks than it ends entries, so their number
is bounded by those due now and the entries on the list. -/
def State.arbiter (s : State) (ex : List Axis) : State :=
  State.walks (s.moves.walksDue + s.moves.entries.length) ex s

/-! ## Admission and supersession -/

/-- R62: a disposition under supersession: JUDGE and RESUME become SUPERSEDED, a decided one is kept. -/
def Disposition.orDecided (d : Option Disposition) (o : AxisOutcome) : Disposition :=
  match d with
  | some (.decided p) => .decided p
  | some .rereference => .rereference
  | some .judge | some .resume | none => .decided o

/-- R62: an entry settles off the list. -/
def State.settleOff (s : State) (e : MoveEntry) (d : Disposition) : State :=
  { s with moves := { s.moves with offList := s.moves.offList ++
      [{ e with state := .settling, timeLimit := none, disposition := some d, noBackoff := true }] } }

/-- R62: the entry an axis already has leaves the list for a new one. -/
def State.supersede (s : State) (a : Axis) : State :=
  match s.entryOf a with
  | none => s
  | some e =>
    let t := (s.dropEntry a).askWalk
    match e.state with
    | .waiting => t.endEntry e .superseded (s.axis a).position
    | .driving =>
      let t := t.cutMotor a false
      if a.counted then t.settleOff e (.decided .superseded) else t.endEntry e .superseded (s.axis a).position
    | .settling => t.settleOff e (Disposition.orDecided e.disposition .superseded)

/-- R61, R59, R63: an entry is placed at the tail, the axis's old entry having left; for a HOT axis it ends HOT. -/
def State.place (s : State) (e : MoveEntry) : State :=
  let t := (s.supersede e.axis).askWalk
  if (t.axis e.axis).hot then t.endEntry e .hot (t.axis e.axis).position
  else { t with moves := { t.moves with entries := t.moves.entries ++ [e] } }

/-- R61: an admission: the entry is placed and the arbiter runs. -/
def State.admitEntry (s : State) (e : MoveEntry) : State := (s.place e).arbiter []

/-! ## Stopping entries -/

/-- R74, R75, R37, R80: how an entry is stopped: with what outcome, whether a decided disposition gives way to it,
whether a backoff is withheld, and whether a STOP_ALL does it (R186). -/
structure StopHow where
  outcome : AxisOutcome
  overrides : Bool := false
  noBackoff : Bool := false
  stopAll : Bool := false
  deriving DecidableEq, Repr

/-- R74. -/
def byAbort : StopHow := { outcome := .aborted }

/-- R75, R71: a decided OBSTRUCTED is kept but offers no backoff. -/
def byStopAll : StopHow := { outcome := .aborted, noBackoff := true, stopAll := true }

/-- R37, R71: a decided outcome becomes ABORTED; no backoff. -/
def byDeparture : StopHow := { outcome := .aborted, overrides := true, noBackoff := true }

/-- R80. -/
def byRelease : StopHow := { outcome := .reached }

/-- R71: a SETTLING entry's disposition under a stop. -/
def StopHow.disposition (h : StopHow) (d : Option Disposition) : Disposition :=
  if h.overrides then .decided h.outcome else Disposition.orDecided d h.outcome

/-- R37, R74, R75, R80: an entry on the list is stopped, by its state. -/
def State.stopEntry (s : State) (e : MoveEntry) (h : StopHow) : State :=
  match e.state with
  | .waiting => s.finishEntry e h.outcome (s.axis e.axis).position
  | .driving =>
    let t := (s.cutMotor e.axis false).askWalk
    if e.axis.counted then
      t.setEntry { e with state := .settling, timeLimit := none, disposition := some (.decided h.outcome)
                          stopAll := e.stopAll || h.stopAll }
    else t.finishEntry e h.outcome (s.axis e.axis).position
  | .settling =>
    s.setEntry { e with disposition := some (h.disposition e.disposition), noBackoff := e.noBackoff || h.noBackoff
                        stopAll := e.stopAll || h.stopAll }

/-- R186: an entry that an earlier STOP_ALL has ended and that still settles; a further STOP_ALL does not find it. -/
def MoveEntry.stopped (e : MoveEntry) : Bool := e.state == .settling && e.stopAll

/-- Stop every entry a test picks, head first. -/
def State.stopEntries (s : State) (pick : MoveEntry → Bool) (h : StopHow) : State :=
  (s.moves.entries.filter pick).foldl (fun t e => t.stopEntry e h) s

/-! ## Settling -/

/-- R63: an entry returns to WAITING; for a HOT axis it ends HOT. -/
def State.returnToWaiting (s : State) (e : MoveEntry) : State :=
  if (s.axis e.axis).hot then s.finishEntry e .hot (s.axis e.axis).position
  else (s.setEntry { e with state := .waiting, timeLimit := none, disposition := none }).askWalk

/-- R18, R19: arrival judged: REACHED in the deadband, else one correction, else OFF_TARGET. -/
def State.judge (s : State) (e : MoveEntry) : State :=
  let x := (s.axis e.axis).position
  let t := match e.kind with | .target t => t | .seek _ => x
  if (x - t).natAbs ≤ deadband e.axis then s.finishEntry e .reached x
  else if e.correctionUsed then s.finishEntry e .offTarget x
  else s.returnToWaiting { e with correctionUsed := true }

/-- R13, R9: re-referencing: the count becomes 0 and a LOST axis SUSPECT. -/
def State.rereference (s : State) (a : Axis) : State :=
  s.modAxis a fun u => { u with position := 0, confidence := if u.confidence = .lost then .suspect else u.confidence }

/-- R71: the coast end of a SETTLING entry on the list. -/
def State.resolve (s : State) (e : MoveEntry) : State :=
  match e.disposition with
  | some .judge => s.judge e
  | some .resume | none => s.returnToWaiting e
  | some (.decided o) => s.finishEntry e o (s.axis e.axis).position
  | some .rereference => (s.rereference e.axis).finishEntry e .endStop 0

/-- R62, R71: the coast end of an entry superseded while it drove or settled: its report is made now. -/
def State.resolveOff (s : State) (e : MoveEntry) : State :=
  let t := { s with moves := { s.moves with offList := s.moves.offList.filter (·.axis != e.axis) } }
  match e.disposition with
  | some (.decided o) => t.endEntry e o (s.axis e.axis).position
  | some .rereference => (t.rereference e.axis).endEntry e .endStop 0
  | some .judge | some .resume | none => t.endEntry e .superseded (s.axis e.axis).position

/-- R4, R17: the coast timer expires: the axis is IDLE, a new IDLE period begins, and after a cut at a cut point the
lead of the driven direction becomes the overrun, clamped to 0..6. -/
def AxisUnit.endCoast (u : AxisUnit) : AxisUnit :=
  let overrun := min (u.position - u.countAtCut).natAbs 6
  { u with motion := .idle, coastTimer := none, cutAtPoint := false, strayRaised := false
           leadUp := if u.cutAtPoint ∧ u.lastDir = .up then overrun else u.leadUp
           leadDown := if u.cutAtPoint ∧ u.lastDir = .down then overrun else u.leadDown }

/-- R71: the entry that settles on an axis, off the list or on it, is resolved at the coast end. -/
def State.resolveAxis (s : State) (a : Axis) : State :=
  match s.moves.offList.find? (·.axis == a) with
  | some e => s.resolveOff e
  | none =>
    match s.entryOf a with
    | some e => if e.state = .settling then s.resolve e else s
    | none => s

/-! ## Revocation -/

/-- R68, R69: a DRIVING entry is revoked. -/
def State.revoke (s : State) (e : MoveEntry) : State :=
  let t := s.cutMotor e.axis false
  if e.axis.counted then t.setEntry { e with state := .settling, timeLimit := none, disposition := some .resume }
  else t.setEntry { e with state := .waiting, timeLimit := none }

/-- R68: revocation from the tail: each DRIVING entry met is revoked until the demands fit; with the axes revoked. -/
def revokeWalk : List Axis → State → List Axis → State × List Axis
  | [], s, ex => (s, ex)
  | a :: rest, s, ex =>
    if s.drawn ≤ s.budget then (s, ex)
    else
      match s.entryOf a with
      | some e => if e.state = .driving then revokeWalk rest (s.revoke e) (a :: ex) else revokeWalk rest s ex
      | none => revokeWalk rest s ex

/-- R68: revocation when the budget has fallen, with the axes revoked. The revoked entries leave DRIVING together and
occasion one walk (log 19). -/
def State.revokeToFit (s : State) : State × List Axis :=
  let (t, ex) := revokeWalk (s.moves.entries.map (·.axis)).reverse s []
  (if ex.isEmpty then t else t.askWalk, ex)

end Sys2Proof.Machine
end

