-- ==== Sys2Proof/Machine/Engine.lean ====
section
/-! DEFINITION. The recall engine (07, 02): planning, the three phases, the legs of a normalise, aborts, the end of an
operation, the exit slide and the return; the closing of jog records; and the conclusion of an action, in which every
block goes on until nothing of the action is left to do. -/

namespace Sys2Proof.Machine

/-! ## Targets and tests -/

/-- What a source makes of an axis: no position, no window, or a target with its CLAMPED flag. -/
inductive Aim where
  | absent | range
  | target (t : Int) (clamped : Bool)
  deriving DecidableEq, Repr

/-- A conversion that can give RANGE, as an aim. -/
def Aim.ofConversion : Option (Int × Bool) → Aim
  | none => .range
  | some (t, c) => .target t c

/-- R128, R142, R145, R147: the aim a source gives for an axis, with the van record as it stands. -/
def State.aim (s : State) (src : Source) (a : Axis) : Aim :=
  match src with
  | .positions p _ =>
    match p[a.val] with
    | none => .absent
    | some x => .ofConversion (s.recallConversion a x)
  | .record _ froms =>
    match froms.lookup a with
    | none => .absent
    | some x => .ofConversion (some (s.fromTarget a x))
  | .distance d => .ofConversion (exitTarget (s.countedCal a) (s.stopsOf a) d (s.axis a).position)
  | .place x => .ofConversion (some (s.fromTarget a x))
  | .axis _ => .absent

/-- R128: the tests from DISABLED to SENSOR, in order. -/
def State.skipTest (s : State) (a : Axis) : Option AxisOutcome :=
  let u := s.axis a
  if !s.isEffective a then some .disabled
  else if a.counted && u.confidence == .lost then some .notNormalised
  else if u.halted then some .halted
  else if u.hot then some .hot
  else if a.mirror && u.sensorFault then some .sensor
  else none

/-- R128: all the tests in order: a skip outcome, or the target and its CLAMPED flag. -/
def State.testAxis (s : State) (src : Source) (a : Axis) : Except AxisOutcome (Int × Bool) :=
  match s.aim src a with
  | .absent => .error .absent
  | .range =>
    match s.skipTest a with
    | some o => .error o
    | none => .error .range
  | .target t c =>
    match s.skipTest a with
    | some o => .error o
    | none => .ok (t, c)

/-- R128: the outcome list entry of an axis when the operation starts. -/
def State.planAxis (s : State) (src : Source) (a : Axis) : OutcomeEntry :=
  let x := (s.axis a).position
  match s.testAxis src a with
  | .error o => { axis := a, planned := false, from_ := x, final := some x, outcome := some o, suspect := s.suspectNow a }
  | .ok (t, c) => { axis := a, planned := true, from_ := x, target := some t, clamped := c }

/-- R128, R131: a planned axis still to be moved: no outcome, or a clearance that ended REACHED. -/
def OutcomeEntry.due (e : OutcomeEntry) : Bool := e.planned && (e.outcome == none || e.outcome == some .reached)

/-- R128: the re-test of an axis at the start of its phase. -/
def State.retest (s : State) (src : Source) (e : OutcomeEntry) : OutcomeEntry :=
  if e.due then
    match s.testAxis src e.axis with
    | .error o => { e with outcome := some o, final := some (s.axis e.axis).position, suspect := s.suspectNow e.axis }
    | .ok (t, c) => { e with target := some t, clamped := c }
  else e

/-! ## Starts and phases -/

/-- R124, R105: an operation starts: it takes the counter's value as its tag and becomes the active one. -/
def State.startOp (s : State) (k : OpKind) (p : Port) (st : Stage) (src : Source) (es : List OutcomeEntry)
    (conf : Confidence) : State :=
  let op : Operation := { id := s.model.nextId, kind := k, tag := s.table.counter, requester := p, stage := st,
                          source := src, outcomes := es, startConfidence := conf }
  ({ s with engine := { s.engine with active := some op } }.bumpCounter).bumpId

/-- Change the active operation. -/
def State.modActive (s : State) (f : Operation → Operation) : State :=
  { s with engine := { s.engine with active := s.engine.active.map f } }

/-- R61: the active operation admits a move of an axis. -/
def State.admitOp (s : State) (a : Axis) (k : MoveKind) : State :=
  match s.engine.active with
  | none => s
  | some op => s.admitEntry { axis := a, cause := op.kind.cause, kind := k, tag := op.tag, owner := .operation op.id }

/-- R129: the PHASE_1 target of an axis: a mirror's target, or a column axis's clearance where it is a move. -/
def OutcomeEntry.phase1Target (e : OutcomeEntry) : Option Int :=
  if e.planned then
    match e.target with
    | none => none
    | some t =>
      if e.axis.mirror then some t
      else if e.axis = .rake ∧ e.from_ < t then some t
      else if e.axis = .reach ∧ t < e.from_ then some t
      else none
  else none

/-- R130, R131: the target of an axis in PHASE_2 or PHASE_3, after its re-test. -/
def OutcomeEntry.laterTarget (e : OutcomeEntry) : Option Int := if e.due then e.target else none

/-- The active operation's outcome entry of an axis. -/
def State.activeEntry (s : State) (a : Axis) : Option OutcomeEntry :=
  s.engine.active.bind fun op => op.outcomes.find? (·.axis == a)

/-- A phase admits the moves its targets give, axis by axis. -/
def State.admitPhase (s : State) (target : OutcomeEntry → Option Int) (axes : List Axis) : State :=
  axes.foldl
    (fun t a =>
      match (t.activeEntry a).bind target with
      | some x => t.admitOp a (.target x)
      | none => t)
    s

/-- R129: PHASE_1: the mirrors, then RAKE, then REACH. -/
def State.enterPhase1 (s : State) : State :=
  s.admitPhase OutcomeEntry.phase1Target [.lmh, .lmv, .rmh, .rmv, .rake, .reach]

/-- R128: the axes of a later phase are re-tested, and the operation stands in that phase. -/
def State.enterStage (s : State) (st : Stage) (axes : List Axis) : State :=
  s.modActive fun op =>
    { op with stage := st
              outcomes := op.outcomes.map fun e => if axes.contains e.axis then s.retest op.source e else e }

/-- R130: PHASE_2: RECLINE, TILT, LIFT, SLIDE. -/
def State.enterPhase2 (s : State) : State :=
  (s.enterStage .phase2 [.recline, .tilt, .lift, .slide]).admitPhase OutcomeEntry.laterTarget
    [.recline, .tilt, .lift, .slide]

/-- R131: PHASE_3: RAKE, then REACH. -/
def State.enterPhase3 (s : State) : State :=
  (s.enterStage .phase3 [.rake, .reach]).admitPhase OutcomeEntry.laterTarget [.rake, .reach]

/-- R127: a RECALL starts from a copy of the positions, plans, and enters PHASE_1. -/
def State.startRecall (s : State) (p : Port) (v : Vector (Option Int) 10) (slot : Option (SlotIx × Nat)) : State :=
  let src := Source.positions v slot
  (s.startOp .recall p .phase1 src (allAxes.map (s.planAxis src)) .lost).enterPhase1

/-- R141: the newest RECALL record whose undone flag is clear. -/
def HistoryRecord.undoable (r : HistoryRecord) : Bool := r.cause == .recall && !r.undone

/-- R141: the undone flag of the newest undoable record is set. -/
def markUndone : List HistoryRecord → List HistoryRecord
  | [] => []
  | r :: rest => if r.undoable then { r with undone := true } :: rest else r :: markUndone rest

/-- R141, R142: an UNDO of a record starts. -/
def State.startUndo (s : State) (p : Port) (r : HistoryRecord) : State :=
  let src := Source.record r.tag (r.entries.map fun e => (e.axis, e.from_))
  let t := s.startOp .undo p .phase1 src (r.entries.map fun e => s.planAxis src e.axis) .lost
  { t with engine := { t.engine with ring := markUndone t.engine.ring } }.enterPhase1

/-- R38: a NORMALISE of an axis starts, and its leg 1 is admitted. -/
def State.startNormalise (s : State) (p : Port) (a : Axis) : State :=
  let u := s.axis a
  (s.startOp .normalise p .leg1 (.axis a) [{ axis := a, planned := true, from_ := u.position }] u.confidence).admitOp a
    (.seek .down)

/-- R145, R147: SLIDE is tested and, if planned, its move is placed; the conclusion of the action runs the arbiter. -/
def State.startSlide (s : State) (k : OpKind) (src : Source) : State :=
  let e := s.planAxis src .slide
  let t := s.startOp k .vehicle .phase1 src [e] .lost
  match t.engine.active, e.target with
  | some op, some x =>
    t.place { axis := .slide, cause := k.cause, kind := .target x, tag := op.tag, owner := .operation op.id }
  | _, _ => t

/-! ## The exit arm and the return allowance -/

/-- R143 to R145: EXIT_STATE at the vehicle and panel ports. -/
def State.raiseExitState (s : State) (st : ExitState) (d : Nat) (c : Option ExitCause) (tag : Nat) : State :=
  s.raiseAt [.vehicle, .panel] (.exitState st d c tag)

/-- Set the exit arm. -/
def State.setArm (s : State) (arm : Option Nat) : State := { s with engine := { s.engine with arm := arm } }

/-- Set the return allowance. -/
def State.setAllowance (s : State) (b : Bool) : State := { s with engine := { s.engine with returnAllowed := b } }

/-- R144: an armed exit is disarmed. -/
def State.disarm (s : State) (c : ExitCause) : State :=
  match s.engine.arm with
  | none => s
  | some _ => (s.setArm none).raiseExitState .disarmed 0 (some c) 0

/-- R145, R167: an EXIT may start now. -/
def State.exitMayStart (s : State) : Bool :=
  s.permitsCause .exit && s.engine.active.isNone && s.power.state == .run

/-- R145: the exit starts. -/
def State.startExit (s : State) (d : Nat) : State :=
  ((s.setArm none).raiseExitState .started 0 none s.table.counter).startSlide .exit (.distance d)

/-- R145: a start occasion for an armed exit. -/
def State.offerExit (s : State) : State :=
  match s.engine.arm with
  | none => s
  | some d => if s.exitMayStart then s.startExit d else s

/-- R143: the exit is armed, and starts in the same action where it may. -/
def State.armExit (s : State) (d : Nat) : State :=
  if s.exitMayStart then s.startExit d else (s.setArm (some d)).raiseExitState .armed d none 0

/-- R146: the SLIDE entry of a history record. -/
def HistoryRecord.slideEntry (r : HistoryRecord) : Option HistoryEntry := r.entries.find? (·.axis == Axis.slide)

/-- R146: the newest record with a SLIDE entry. -/
def newestSlide (ring : List HistoryRecord) : Option HistoryRecord := ring.find? (·.slideEntry.isSome)

/-- R146: the ring test: the SLIDE "from" of the EXIT to return from, where the newest SLIDE record is an EXIT with
result COMPLETE or PARTIAL. -/
def State.returnPlace (s : State) : Option Int :=
  match newestSlide s.engine.ring with
  | none => none
  | some r => if r.cause = .exit ∧ r.result ≠ .aborted then r.slideEntry.map (·.from_) else none

/-- R146, R147: a start occasion for the return allowance. -/
def State.offerReturn (s : State) : State :=
  if s.engine.returnAllowed && s.permitsCause .ret then
    match s.returnPlace with
    | none => s.setAllowance false
    | some x =>
      if s.engine.active.isNone && s.power.state == .run then (s.setAllowance false).startSlide .ret (.place x) else s
  else s

/-! ## The end of an operation -/

/-- R137: the result. -/
def Operation.result (op : Operation) : OpResult :=
  if op.abortCause.isSome then .aborted
  else if op.outcomes.all fun e =>
      if e.planned then e.outcome == some .reached else e.outcome == some .absent || e.outcome == some .disabled
  then .complete
  else .partly

/-- R139: an operation's history record, one entry per planned axis. -/
def Operation.history (op : Operation) : HistoryRecord :=
  { tag := op.tag, cause := op.kind.historyCause, port := op.requester, result := op.result, abortCause := op.abortCause
    entries := (op.outcomes.filter (·.planned)).map fun e =>
      ⟨e.axis, e.from_, e.final.getD e.from_, e.outcome.getD .aborted⟩ }

/-- R106: the stamp of a RECALL from a slot that still holds the driver. -/
def State.handStamp (s : State) (op : Operation) : State :=
  match op.source with
  | .positions _ (some (i, id)) =>
    if (s.slot i).record.inUse ∧ (s.slot i).record.driver = id then
      (s.modRecord i fun r => { r with stamp := op.tag }).commit (slotBlock i)
    else s
  | _ => s

/-- R138: an operation that is no longer held closes, in the rule's order. -/
def State.closeOp (s : State) (op : Operation) : State :=
  let result := op.result
  let recorded := op.outcomes.any (·.planned)
  let s := s.raiseAt (opDonePorts op.requester) (.opDone op.kind op.tag result op.abortCause op.outcomes)
  let s := if recorded then s.writeHistory op.history else s
  let s := s.handStamp op
  let s := if op.kind = .exit ∧ recorded ∧ result ≠ .aborted then s.setAllowance true else s
  if result = .aborted then s else s.offerExit.offerReturn

/-- The axis of a NORMALISE. -/
def Operation.normaliseAxis (op : Operation) : Axis :=
  match op.source with
  | .axis a => a
  | _ => .slide

/-- R38 to R42: the operation stands in a seek leg. -/
def Operation.seeking (op : Operation) : Bool := op.stage == .leg1 || op.stage == .leg2

/-- R42: a seek leg that did not succeed: the axis returns to its starting confidence and takes the leg's outcome; an
END_STOP kept through an abort is taken as ABORTED. -/
def State.failSeek (s : State) (op : Operation) : State × Operation :=
  let a := op.normaliseAxis
  let t := s.modAxis a fun u => { u with confidence := op.startConfidence }
  let o := match op.legEnd with
    | some (.endStop, _) | none => AxisOutcome.aborted
    | some (o, _) => o
  let x := match op.legEnd with
    | some (_, x) => x
    | none => (s.axis a).position
  (t, op.modOutcome a fun e => { e with outcome := some o, final := some x, suspect := t.suspectNow a })

/-- R126, R42: an operation that is no longer held ends. -/
def State.endOp (s : State) (op : Operation) : State :=
  if op.seeking then (s.failSeek op).1.closeOp (s.failSeek op).2 else s.closeOp op

/-- The active operation is taken off the engine. -/
def State.releaseActive (s : State) : State := { s with engine := { s.engine with active := none } }

/-! ## Aborts -/

/-- R134: an axis of the operation that still has an entry of its own. -/
def State.hasOwn (s : State) (op : Operation) (a : Axis) : Bool :=
  (s.moves.entries ++ s.moves.offList).any fun e => e.axis == a && e.owner == .operation op.id

/-- R134: a column axis whose clearance ended REACHED waits for PHASE_3. -/
def OutcomeEntry.awaitsPhase3 (e : OutcomeEntry) (op : Operation) : Bool :=
  (op.stage == .phase1 || op.stage == .phase2) && (e.axis == Axis.rake || e.axis == Axis.reach)
    && e.outcome == some .reached

/-- R134: a planned axis whose outcome is not final and that has no entry of its own takes ABORTED. -/
def State.abortOutcome (s : State) (op : Operation) (e : OutcomeEntry) : OutcomeEntry :=
  if e.planned ∧ (e.outcome = none ∨ e.awaitsPhase3 op) ∧ !s.hasOwn op e.axis then
    { e with outcome := some .aborted, final := some (s.axis e.axis).position, suspect := s.suspectNow e.axis }
  else e

/-- R74: a backoff of an operation. -/
def MoveEntry.isBackoffOf (e : MoveEntry) (op : Operation) : Bool :=
  e.owner == .operation op.id && e.cause == .backoff

/-- R74: a backoff of an aborted operation has no owner. -/
def MoveEntry.disown (op : Operation) (e : MoveEntry) : MoveEntry :=
  if e.isBackoffOf op then { e with owner := .nobody } else e

/-- R134: the final position of an axis whose backoff is on the list at an abort is the present one. -/
def State.backoffFinal (s : State) (op : Operation) (e : OutcomeEntry) : OutcomeEntry :=
  if s.moves.entries.any (fun m => m.axis == e.axis && m.isBackoffOf op) then
    { e with final := some (s.axis e.axis).position }
  else e

/-- R74, R134: the backoffs of an operation lose their owner, and its final positions there are the present ones. -/
def State.disown (s : State) (op : Operation) : State :=
  let t := s.modActive fun o => { o with outcomes := o.outcomes.map (s.backoffFinal op) }
  { t with moves := { t.moves with entries := t.moves.entries.map (·.disown op) } }

/-- R134, R126: the active operation is aborted: it becomes CLOSING where an entry of it is left to settle, and closes
otherwise. -/
def State.abortActive (s : State) (c : AbortCause) : State :=
  match s.engine.active with
  | none => s
  | some op0 =>
    let t := (s.disown op0).stopEntries (fun e => e.owner == .operation op0.id) byAbort
    match t.engine.active with
    | none => t
    | some op =>
      let op := { op with abortCause := some c, progress := none, outcomes := op.outcomes.map (t.abortOutcome op) }
      let t := t.releaseActive
      if t.owns (.operation op.id) then { t with engine := { t.engine with closing := t.engine.closing ++ [op] } }
      else t.endOp op

/-- R133: the progress timer counts: the operation has one, and none of its entries or backoffs drives or settles. -/
def State.progressCounts (s : State) : Bool :=
  match s.engine.active with
  | none => false
  | some op =>
    op.progress.isSome &&
      !(s.moves.entries ++ s.moves.offList).any fun e => e.owner == .operation op.id && e.state != .waiting

/-! ## The legs of a normalise -/

/-- Set the learned stops of a counted axis. -/
def State.setStops (s : State) (a : Axis) (x : Option Stops) : State :=
  if h : a.val < 6 then { s with van := { s.van with stops := s.van.stops.set a.val x } } else s

/-- R39: leg 1 has found the low stop: the count is 0, and leg 2 is admitted. -/
def State.enterLeg2 (s : State) (a : Axis) : State :=
  ((s.modAxis a fun u => { u with position := 0 }).modActive fun op =>
    { op with stage := .leg2, newLow := some 10, legEnd := none }).admitOp a (.seek .up)

/-- R40, R41: leg 2 has found the high stop: the stops are learned, and leg 3 is admitted. -/
def State.enterLeg3 (s : State) (a : Axis) (h : Int) (d1 : Nat) : State :=
  let (x, clamped) := clampTarget 10 (h - 10) d1
  let t := (s.setStops a (some ⟨10, h - 10⟩)).modAxis a fun u => { u with confidence := .normalised, halted := false }
  let t := (t.commit vanBlock).modActive fun op =>
    { op.modOutcome a (fun e => { e with target := some x, clamped := clamped }) with stage := .leg3, legEnd := none }
  t.admitOp a (.target x)

/-- R40: the stops found are too close: none is kept, the axis is LOST, and the operation ends with RANGE. -/
def State.failRange (s : State) (op : Operation) (a : Axis) (h : Int) : State :=
  let t := (s.setStops a none).modAxis a fun u => { u with confidence := .lost }
  (t.commit vanBlock).releaseActive.closeOp
    (op.modOutcome a fun e => { e with outcome := some .range, final := some h, suspect := false })

/-- R39 to R42: a leg's move has ended. -/
def State.advanceLeg (s : State) (op : Operation) : State :=
  let a := op.normaliseAxis
  match op.stage, op.legEnd with
  | .leg1, some (.endStop, _) => s.enterLeg2 a
  | .leg2, some (.endStop, h) =>
    if 64 ≤ h - 10 - (op.newLow.getD 10) then s.enterLeg3 a h op.d1 else s.failRange op a h
  | _, _ => s.releaseActive.endOp op

/-- R132, R126: the active operation, with none of its moves left, goes on or closes. -/
def State.advance (s : State) (op : Operation) : State :=
  match op.kind, op.stage with
  | .normalise, _ => s.advanceLeg op
  | .recall, .phase1 | .undo, .phase1 => s.enterPhase2
  | .recall, .phase2 | .undo, .phase2 => s.enterPhase3
  | _, _ => s.releaseActive.closeOp op

/-! ## Jog records -/

/-- R82: the result and the abort cause of a jog's history record. -/
def JogRecord.result (r : JogRecord) : OpResult × Option AbortCause :=
  match r.outcome, r.abortSource with
  | some .reached, _ | some .endStop, _ => (.complete, none)
  | some .aborted, some .stopAll => (.aborted, some .stop)
  | some .aborted, _ => (.aborted, none)
  | _, _ => (.partly, none)

/-- R82: a jog's history record. -/
def JogRecord.history (r : JogRecord) : HistoryRecord :=
  { tag := 0, cause := .jog, port := .panel, result := r.result.1, abortCause := r.result.2
    entries := [⟨r.axis, r.from_, r.final.getD r.from_, r.outcome.getD .superseded⟩] }

/-- R82: a CLOSING record closes once its entry has ended and no backoff of it is outstanding. -/
def State.jogCloses (s : State) (r : JogRecord) : Bool := r.closing && !s.owns (.jog r.id) && !r.backoff

/-- R82: a jog record closes. -/
def State.closeJog (s : State) (r : JogRecord) : State :=
  { s with moves := { s.moves with jogs := s.moves.jogs.filter (·.id != r.id) } }.writeHistory r.history

/-- R80: a jog record becomes CLOSING. -/
def JogRecord.release (r : JogRecord) : JogRecord := { r with closing := true, keepAlive := none }

/-- Change every jog record a test picks. -/
def State.modJogs (s : State) (pick : JogRecord → Bool) (f : JogRecord → JogRecord) : State :=
  { s with moves := { s.moves with jogs := s.moves.jogs.map fun r => if pick r then f r else r } }

/-- R78: the OPEN jog record of an axis. -/
def State.openJog (s : State) (a : Axis) : Option JogRecord :=
  s.moves.jogs.find? fun r => r.axis == a && !r.closing

/-- R80: a jog is released: its record becomes CLOSING, and its entry ends where it stands. -/
def State.releaseJog (s : State) (r : JogRecord) : State :=
  (s.modJogs (·.id == r.id) JogRecord.release).stopEntries
    (fun e => e.owner == .jog r.id && e.cause == .jog) byRelease

/-! ## The conclusion of an action -/

/-- What the blocks do next in the running action (R65, R82, R126, R132), once the arbiter has run: a jog record closes,
a CLOSING operation closes, or the active operation goes on; `none` when nothing is left (log 18). DESIGN CHOICE (log 51):
of several jog records that are ready, that opened earliest closes first, and of several CLOSING operations that aborted
earliest; the rules give no order among them. -/
def State.nextWork (s : State) : Option State :=
  match s.moves.jogs.find? s.jogCloses with
  | some r => some (s.closeJog r)
  | none =>
    match s.engine.closing.find? fun op => !s.owns (.operation op.id) with
    | some op =>
      some ({ s with engine := { s.engine with closing := s.engine.closing.filter (·.id != op.id) } }.endOp op)
    | none =>
      match s.engine.active with
      | some op => if s.owns (.operation op.id) then none else some (s.advance op)
      | none => none

/-- The action goes on until nothing is left to do. `ex`: the entries revoked in this action, which its first walk does
not grant (R68). -/
def State.concludeFor : Nat → List Axis → State → State
  | 0, _, s => s
  | n + 1, ex, s =>
    match (s.arbiter ex).nextWork with
    | some t => concludeFor n [] t
    | none => s.arbiter ex

/-- The conclusion of an action. Each piece of work closes a jog record or a CLOSING operation, or takes an active
operation a stage on, so the bound is never met (log 38). -/
def State.conclude (s : State) (ex : List Axis) : State :=
  State.concludeFor (s.moves.jogs.length + s.engine.closing.length + 16) ex s

end Sys2Proof.Machine
end

