-- ==== Sys2Proof/Machine/Requests.lean ====
section
/-! DEFINITION. What each request does when it is taken, and what it is answered (02, 04 to 10): one definition per
request, each giving the state after the action and the reply. -/

namespace Sys2Proof.Machine

/-- R180, R188: a reply: the code, the two flags, and the fields from byte 4. -/
structure Reply where
  code : RespCode
  clamped : Bool := false
  recallNotStarted : Bool := false
  fields : List Byte := []
  deriving DecidableEq, Repr

/-- R180: a refusal carries nothing beyond its code. -/
def refusal (c : RespCode) : Reply := { code := c }

/-- OK with fields. -/
def okWith (fields : List Byte) : Reply := { code := .ok, fields := fields }

/-- ACCEPTED with the operation's tag. -/
def acceptedWith (tag : Nat) : Reply := { code := .accepted, fields := encNat32 tag }

/-! ## The vehicle state monitor -/

/-- R89, R91, R92, R68: what a change of freshness or record hands on, `s` being the state before it and `t` the state
with the new record: losses abort, gains offer their start occasions, a fall of the budget revokes, a rise and a change
of the permissions each occasion a grant walk (R65). With the entries revoked. Every walk of the action comes after it,
and finds the list as the whole action leaves it (R86). -/
def handOn (s t : State) : State × List Axis :=
  let lost := fun c => s.permitsCause c && !t.permitsCause c
  let gained := fun c => !s.permitsCause c && t.permitsCause c
  let t1 := match t.engine.active with
    | some op => if lost op.kind.cause then t.abortActive .vehicle else t
    | none => t
  let t2 := if gained .exit then t1.offerExit else t1
  let t3 := if gained .ret then t2.offerReturn else t2
  let t4 := if s.permitted ≠ t.permitted then t3.askWalk else t3
  let t5 := if s.budget < t.budget then t4.askWalk else t4
  if t.budget < s.budget then t5.revokeToFit else (t5, [])

/-- R86: a report is applied in one action. -/
def State.applyReport (s : State) (r : VehicleRecord) (clamped : Bool) : State :=
  let t := { s with monitor := { fresh := true, record := r, freshTimer := some 500, lastIgnition := some r.ignition } }
  let t := if r.ignition = .run ∧ s.monitor.lastIgnition ≠ some .run then t.disarm .ignition else t
  let t := if s.monitor.fresh then t
    else t.raiseAt [.vehicle, .panel] (.vehicleFresh r clamped t.budget t.permitted)
  (handOn s t).1.conclude (handOn s t).2

/-- R85: VEHICLE_STATE is always taken. -/
def State.reqVehicleState (s : State) (speed gear ignition door supply : Byte) : State × Reply :=
  let (r, clamped) := decReport speed gear ignition door supply
  let t := s.applyReport r clamped
  (t, { code := .ok, clamped := clamped, fields := enc8 t.budget ++ enc16 (permissionMask t.permitted) })

/-- R87: the freshness timer expires. -/
def State.expireFreshness (s : State) : State :=
  let t := { s with monitor := { s.monitor with fresh := false, record := {}, freshTimer := none } }
  let t := t.raiseAt [.vehicle, .panel] .vehicleStale
  (handOn s t).1.conclude (handOn s t).2

/-! ## Power control and the whole part -/

/-- R166: nothing stands in the way of PARK. -/
def State.atRest (s : State) : Bool :=
  s.power.state == .run && s.moves.entries.isEmpty && s.engine.active.isNone && s.engine.closing.isEmpty
    && s.store.queue.isEmpty && s.store.held.isEmpty && s.store.write.isNone

/-- R166: a counted axis is COASTING. -/
def State.countedCoasting (s : State) : Bool := allAxes.any fun a => a.counted && (s.axis a).motion == .coasting

/-- R168: the snapshot commit is raised, or waits for the coast ends. -/
def State.snapshotOrWait (s : State) : State :=
  if s.countedCoasting then { s with power := { s.power with coastWait := true } } else s.commit snapBlock

/-- R166, R76: PARK. The list is empty, so every OPEN jog record's entry has ended or settles off the list: the records
become CLOSING, and those whose entry still coasts close at its coast end, before the snapshot (log 41). -/
def State.reqPark (s : State) : State × Reply :=
  if s.atRest then
    let t := { s with power := { s.power with state := .parking, wakePending := false, wakeCause := none } }
    let t := t.disarm .park
    let t := (t.modJogs (!·.closing) JogRecord.release).conclude []
    (t.snapshotOrWait, okWith (enc8 PowerState.parking.code))
  else (s, refusal .busy)

/-- R187: DEVICE_RESET empties a port unit; a transaction that runs finds its port emptied. -/
def PortUnit.reset (u : PortUnit) (buffers : Bool) : PortUnit :=
  { u with
    request := if buffers then none else u.request
    response := if buffers then none else u.response
    events := [], lost := 0, overrun := 0
    selected := u.selected.map fun x => { x with emptied := true } }

/-- R24: DEVICE_RESET as it reaches an axis unit. -/
def AxisUnit.reset (a : Axis) (u : AxisUnit) : AxisUnit := { u.cut a false with halted := false }

/-- R175: a DEVICE_RESET taken in PARKING is a wake cause; its request came in at the vehicle port. -/
def State.resetPower (s : State) : State :=
  if s.power.state = .parking then s.wake (.port .vehicle) else s

/-- R187, R24, R76, R96, R123, R136, R164, R175: DEVICE_RESET. DESIGN CHOICE (log 44): the confidence of an axis under
NORMALISE stays as it stands, by R24; a stray pulse in a seek leg may have lowered it, and R9 says of a NORMALISE without
success that it leaves the starting confidence. -/
def State.reqDeviceReset (s : State) : State × Reply :=
  let t := s.mapAxes AxisUnit.reset
  ({ t with
    ports := { vehicle := t.ports.vehicle.reset false, fleet := t.ports.fleet.reset true
               panel := t.ports.panel.reset true }
    moves := {}
    monitor := {}
    table := { t.table with driver := .nobody }
    engine := {} }.resetPower, okWith [])

/-! ## The active driver -/

/-- R107 step 1: the new value of the active driver record. -/
def State.driverFor (s : State) (id : Nat) : ActiveDriver :=
  match s.findSlot id with
  | some i => .known i
  | none => if s.van.recallDefault && s.table.dflt.isSome then .dflt id else .new id

/-- R101, R127: the source of a RECALL for the active driver. -/
def State.recallSource (s : State) : Option (Vector (Option Int) 10 × Option (SlotIx × Nat)) :=
  match s.table.driver with
  | .known i => some ((s.slot i).record.profile.positions, some (i, (s.slot i).record.driver))
  | .dflt _ => s.table.dflt.map fun p => (p.positions, none)
  | .nobody | .new _ => none

/-- Set the active driver record. -/
def State.setDriver (s : State) (d : ActiveDriver) : State := { s with table := { s.table with driver := d } }

/-- R108, R167: the conditions of the automatic recall, but for the request's own flag and the source. -/
def State.autoRecallAllowed (s : State) : Bool :=
  s.van.commissioned && s.permitsCause .recall && (!s.van.doorOpenOnly || s.monitor.record.door == .opened)
    && s.power.state == .run

/-- R107 steps 1 to 4: the assignment, before the automatic recall is decided. The walks that the abort occasions find
the list as the abort has left it (R65, log 19). -/
def State.assign (s : State) (id : Nat) : State :=
  let t := (s.abortActive .driverChanged).arbiter []
  ((t.setDriver (t.driverFor id)).disarm .assign).setAllowance false

/-- R107, R108: ASSIGN_DRIVER. -/
def State.reqAssignDriver (s : State) (id : BitVec 32) (flags : Byte) : State × Reply :=
  if validDriver id then
    let wanted := flags.getLsbD 0
    let t := s.assign id.toNat
    let driver := driverFields t.table.driver (t.driverId t.table.driver)
    match (if wanted && t.autoRecallAllowed then t.recallSource else none) with
    | some (v, slot) =>
      let tag := t.table.counter
      (((t.startRecall .fleet v slot).conclude []).raiseDriverChanged,
        { code := .accepted, fields := encNat32 tag ++ driver })
    | none =>
      ((t.conclude []).raiseDriverChanged,
        { code := .ok, recallNotStarted := wanted, fields := encNat32 0 ++ driver })
  else (s, refusal .badField)

/-- R109: the exit distance a release arms. -/
def State.exitToArm (s : State) : Option Nat :=
  match s.table.driver with
  | .known i =>
    let d := (s.slot i).record.profile.exit
    if 0 < d ∧ s.van.exitAllowed then some d else none
  | .nobody | .new _ | .dflt _ => none

/-- R109: RELEASE_DRIVER. -/
def State.reqReleaseDriver (s : State) : State × Reply :=
  if s.table.driver = .nobody then (s, okWith (encFlag false))
  else
    let t := match s.exitToArm with
      | some d => (s.armExit d).conclude []
      | none => s
    ((t.setDriver .nobody).raiseDriverChanged, okWith (encFlag s.exitToArm.isSome))

/-! ## The profile table -/

/-- R113: the exit distance field is in 0..200. -/
def validExit (b : Byte) : Bool := b.toNat ≤ 200

/-- R114: the record a load writes into its target slot. -/
def loadedRecord (old : SlotRecord) (kept : Bool) (id revision : Nat) (p : Profile) : SlotRecord :=
  { inUse := true, driver := id, dirty := false, revision := revision, origin := .fleet
    pinned := if kept then old.pinned else false
    stamp := if kept then old.stamp else 0
    profile := p }

/-- R115: the active driver is that ID and has no slot. -/
def State.slotlessIs (s : State) (id : Nat) : Bool := s.table.driver == .new id || s.table.driver == .dflt id

/-- R110, R115: a driver without a slot becomes KNOWN, where `b`. -/
def State.becomeKnown (s : State) (b : Bool) (i : SlotIx) : State := if b then s.setDriver (.known i) else s

/-- R110, R115: DRIVER_CHANGED of a driver that became KNOWN, where `b`. -/
def State.raiseKnown (s : State) (b : Bool) : State := if b then s.raiseDriverChanged else s

/-- R113, R114, R115: LOAD_PROFILE. -/
def State.reqLoadProfile (s : State) (f : ProfileFields) (force : Byte) : State × Reply :=
  match decProfilePositions f.positions with
  | none => (s, refusal .badField)
  | some positions =>
    if !validDriver f.driver || f.revision == 0 || !validExit f.exit then (s, refusal .badField)
    else
      let id := f.driver.toNat
      match (s.findSlot id).or s.slotToGive with
      | none => (s, refusal .tableFull)
      | some i =>
        let old := (s.slot i).record
        let kept := (s.findSlot id).isSome
        if old.dirty && !force.getLsbD 0 then (s, refusal .conflict)
        else if !s.commitPlace (slotBlock i) then (s, refusal .queueFull)
        else
          let evicted := if kept then 0 else s.evictedFrom i
          let record := loadedRecord old kept id f.revision.toNat ⟨positions, f.exit.toNat⟩
          let known := s.slotlessIs id
          let t := ((s.modRecord i fun _ => record).leaveDirty i).becomeKnown known i
          ((t.commit (slotBlock i)).raiseKnown known, okWith (enc8 i.val ++ encFlag old.dirty ++ encNat32 evicted))

/-- R116: LOAD_DEFAULT. -/
def State.reqLoadDefault (s : State) (v : PositionFields) (exit : Byte) : State × Reply :=
  match decProfilePositions v with
  | none => (s, refusal .badField)
  | some positions =>
    if !validExit exit then (s, refusal .badField)
    else if !s.commitPlace dfltBlock then (s, refusal .queueFull)
    else
      ({ s with table := { s.table with dflt := some ⟨positions, exit.toNat⟩ } }.commit dfltBlock, okWith [])

/-- R119: a slot's answer to READ_PROFILE. -/
def State.slotReply (s : State) (i : SlotIx) : Reply :=
  if (s.slot i).record.inUse then okWith (Slot.bytes i (s.slot i)) else refusal .noProfile

/-- R119, R191: READ_PROFILE. -/
def State.reqReadProfile (s : State) (selector : Byte) (named : BitVec 32) : State × Reply :=
  if selector = 0 then
    if validDriver named then
      match s.findSlot named.toNat with
      | some i => (s, s.slotReply i)
      | none => (s, refusal .noProfile)
    else (s, refusal .badField)
  else if selector = 1 then
    match decSlot named.toNat with
    | some i => (s, s.slotReply i)
    | none => (s, refusal .badField)
  else if selector = 2 then
    match s.table.dflt with
    | some p => (s, okWith p.defaultBytes)
    | none => (s, refusal .noProfile)
  else (s, refusal .badField)

/-- R117: DELETE_PROFILE. -/
def State.reqDeleteProfile (s : State) (id : BitVec 32) : State × Reply :=
  if !validDriver id then (s, refusal .badField)
  else
    match s.findSlot id.toNat with
    | none => (s, refusal .noProfile)
    | some i =>
      if s.table.driver = .known i then (s, refusal .active)
      else if !s.commitPlace (slotBlock i) then (s, refusal .queueFull)
      else
        let t := (s.modRecord i fun r => { r with inUse := false, pinned := false, dirty := false }).leaveDirty i
        (t.commit (slotBlock i), okWith (encFlag (s.slot i).record.dirty))

/-- R118: PIN_PROFILE; bit 0 of the pin byte is the value (log 34). -/
def State.reqPinProfile (s : State) (id : BitVec 32) (pin : Byte) : State × Reply :=
  if !validDriver id then (s, refusal .badField)
  else
    match s.findSlot id.toNat with
    | none => (s, refusal .noProfile)
    | some i =>
      if (s.slot i).record.pinned = pin.getLsbD 0 then (s, okWith [])
      else if !s.commitPlace (slotBlock i) then (s, refusal .queueFull)
      else ((s.modRecord i fun r => { r with pinned := pin.getLsbD 0 }).commit (slotBlock i), okWith [])

/-- R119: READ_DIRTY. -/
def State.reqReadDirty (s : State) : State × Reply := (s, okWith s.dirtyFields)

/-- R120: SYNC_MARK. -/
def State.reqSyncMark (s : State) (slot : Byte) (revision : BitVec 16) : State × Reply :=
  match decSlot slot.toNat with
  | none => (s, refusal .badField)
  | some i =>
    let r := (s.slot i).record
    if revision = 0 then (s, refusal .badField)
    else if !r.inUse then (s, refusal .noProfile)
    else if r.revision ≠ revision.toNat then (s, refusal .revisionMismatch)
    else if !r.dirty then (s, okWith [])
    else if !s.commitPlace (slotBlock i) then (s, refusal .queueFull)
    else
      (((s.modRecord i fun r => { r with dirty := false, origin := .fleet }).leaveDirty i).commit (slotBlock i), okWith [])

/-! ## Storing positions -/

/-- R110, R112: the slot an edit by the active driver writes; `none` is TABLE_FULL. -/
def State.slotToEdit (s : State) : Option SlotIx :=
  match s.table.driver with
  | .known i => some i
  | .new _ | .dflt _ => s.slotToGive
  | .nobody => none

/-- R110: the active driver has no slot yet. -/
def ActiveDriver.slotless : ActiveDriver → Bool
  | .new _ | .dflt _ => true
  | .nobody | .known _ => false

/-- R110: the record a new slot is set up with. -/
def newRecord (id : Nat) : SlotRecord := { inUse := true, driver := id, origin := .lcl, revision := 1 }

/-- R111, R112: an edit of the active driver's slot: set up first where it is new, its profile changed, its revision
raised where it existed, DIRTY, committed, with its events. -/
def State.edit (s : State) (i : SlotIx) (f : Profile → Profile) : State :=
  let id := s.driverId s.table.driver
  let fresh := s.table.driver.slotless
  let t := s.modRecord i fun r =>
    let r := if fresh then newRecord id else { r with revision := nextRevision r.revision }
    { r with dirty := true, profile := f r.profile }
  let t := ((t.enterDirty i).becomeKnown fresh i).commit (slotBlock i)
  (t.raise .fleet (.profileDirty i id (t.slot i).record.revision)).raiseKnown fresh

/-- R110, R112: the driver ID an edit evicts; 0 where it evicts none. -/
def State.evictedByEdit (s : State) (i : SlotIx) : Nat := if s.table.driver.slotless then s.evictedFrom i else 0

/-- R111: the position a STORE takes of an axis, where it takes one. -/
def State.storable (s : State) (a : Axis) : Option Int :=
  let u := s.axis a
  if !s.isEffective a then none
  else if a.counted then (if u.confidence = .normalised then s.storeConversion a u.position else none)
  else if u.sensorFault then none
  else s.storeConversion a u.position

/-- R111: the positions of a profile with those a STORE takes in place. -/
def State.storeInto (s : State) (p : Profile) : Profile :=
  { p with positions := Vector.ofFn fun a : Fin 10 => (s.storable a).or p.positions[a.val] }

/-- R110: an effective axis is COASTING. -/
def State.effectiveCoasting (s : State) : Bool :=
  allAxes.any fun a => s.isEffective a && (s.axis a).motion == .coasting

/-- R110, R111: STORE. -/
def State.reqStore (s : State) : State × Reply :=
  if !s.van.commissioned then (s, refusal .notCommissioned)
  else if s.table.driver = .nobody then (s, refusal .noDriver)
  else if !s.moves.entries.isEmpty || s.engine.active.isSome || s.effectiveCoasting then (s, refusal .busy)
  else
    match s.slotToEdit with
    | none => (s, refusal .tableFull)
    | some i =>
      if !s.commitPlace (slotBlock i) then (s, refusal .queueFull)
      else
        let t := s.edit i s.storeInto
        (t, okWith (enc8 i.val ++ encNat16 (t.slot i).record.revision ++ enc16 (axisMask fun a => (s.storable a).isSome)
              ++ encNat32 (s.evictedByEdit i)))

/-- R112: SET_EXIT_DISTANCE. -/
def State.reqSetExitDistance (s : State) (d : Byte) : State × Reply :=
  if !validExit d then (s, refusal .badField)
  else if s.table.driver = .nobody then (s, refusal .noDriver)
  else
    match s.slotToEdit with
    | none => (s, refusal .tableFull)
    | some i =>
      if !s.commitPlace (slotBlock i) then (s, refusal .queueFull)
      else
        let t := s.edit i fun p => { p with exit := d.toNat }
        (t, okWith (enc8 i.val ++ encNat16 (t.slot i).record.revision ++ encNat32 (s.evictedByEdit i)))

/-! ## The van record -/

/-- R31: a calibration set replaces that of its axis. -/
def VanRecord.setCal (v : VanRecord) (e : CalEntry) : VanRecord :=
  if h : e.axisNumber < 6 then { v with counted := v.counted.set e.axisNumber (some e.countedSet) }
  else if h' : e.axisNumber - 6 < 4 then { v with mirror := v.mirror.set (e.axisNumber - 6) (some e.mirrorSet) }
  else v

/-- R32, R191: the policy part of a WRITE_CALIBRATION. DESIGN CHOICE (log 45): bits 4 to 7 of the policy byte, of which
R30 and R191 say nothing, are disregarded. -/
def VanRecord.setPolicy (v : VanRecord) (policy : Byte) : VanRecord :=
  if policy.getLsbD 0 then
    { v with recallDefault := policy.getLsbD 1, exitAllowed := policy.getLsbD 2, doorOpenOnly := policy.getLsbD 3 }
  else v

/-- R30: the check of the whole request. -/
def calibrationValid (policy : Byte) (es : List CalEntry) : Bool :=
  es.all (·.valid) && decide (es.map (·.axisNumber)).Nodup && (policy.getLsbD 0 || !es.isEmpty)

/-- R31: an axis number names an effective axis. -/
def State.effectiveNumber (s : State) (n : Nat) : Bool := s.effective.getLsbD n

/-- R31: an axis number names an axis with an entry on the move list. -/
def State.listedNumber (s : State) (n : Nat) : Bool := s.moves.entries.any (·.axis.val == n)

/-- R30, R31: WRITE_CALIBRATION. -/
def State.reqWriteCalibration (s : State) (policy : Byte) (es : List CalEntry) : State × Reply :=
  if !calibrationValid policy es then (s, refusal .badField)
  else if !es.all (fun e => s.effectiveNumber e.axisNumber) then (s, refusal .notFitted)
  else if es.any (fun e => s.listedNumber e.axisNumber) then (s, refusal .busy)
  else if !s.commitPlace vanBlock then (s, refusal .queueFull)
  else
    let v := { (es.foldl VanRecord.setCal s.van).setPolicy policy with commissioned := true }
    ({ s with van := v }.commit vanBlock, okWith [])

/-- R33: READ_VAN_RECORD. -/
def State.reqReadVanRecord (s : State) : State × Reply := (s, okWith s.vanFields)

/-- R37, R81: an axis has left the effective mask: its entry ends ABORTED, and its OPEN jog record is released. DESIGN
CHOICE (log 47): R37 speaks of an entry on the list; one superseded and settling off it keeps its disposition, though
R71's table makes no such condition. -/
def State.depart (s : State) (a : Axis) : State :=
  let t := s.modJogs (fun r => r.axis == a && !r.closing) JogRecord.release
  match t.entryOf a with
  | some e => t.stopEntry e byDeparture
  | none => t

/-- R35: SET_ENABLE_MASK; bits 10 to 15 name no axis (log 16). -/
def State.reqSetEnableMask (s : State) (mask : BitVec 16) : State × Reply :=
  if !s.commitPlace vanBlock then (s, refusal .queueFull)
  else
    let t := { s with van := { s.van with enable := mask.setWidth 10 } }
    let leaving := allAxes.filter fun a => s.isEffective a && !t.isEffective a
    let t := leaving.foldl State.depart t
    ((t.commit vanBlock).conclude [], okWith (encMask t.effective))

/-! ## Reads -/

/-- R140: READ_HISTORY. -/
def State.reqReadHistory (s : State) (index : Byte) : State × Reply :=
  if 7 < index.toNat then (s, refusal .badField) else (s, okWith (s.historyFields index.toNat))

/-- R179, R22: READ_COUNTERS. -/
def State.reqReadCounters (s : State) : State × Reply := (s, okWith s.counterFields)

/-- R160: READ_STORE_STATUS. -/
def State.reqReadStoreStatus (s : State) : State × Reply := (s, okWith s.storeFields)

/-- R5: READ_AXES. -/
def State.reqReadAxes (s : State) : State × Reply := (s, okWith s.axesFields)

/-! ## Motion -/

/-- R167: the requests that PARKING refuses before their own checks. -/
def State.motionRefused (s : State) : Bool := s.power.state != .run

/-- R38: NORMALISE. -/
def State.reqNormalise (s : State) (p : Port) (axis : Byte) : State × Reply :=
  if s.motionRefused then (s, refusal .busy)
  else
    match decAxis axis with
    | none => (s, refusal .badField)
    | some a =>
      if !a.counted then (s, refusal .badField)
      else if !s.isEffective a then (s, refusal .notFitted)
      else if s.engine.active.isSome || (s.entryOf a).isSome then (s, refusal .busy)
      else if (s.axis a).hot then (s, refusal .hot)
      else if !s.permitsCause .normalise then (s, refusal .interlock)
      else ((s.startNormalise p a).conclude [], acceptedWith s.table.counter)

/-- R77, R8: the move of a jog. Absent stops give a SEEK (log 27). -/
def State.jogKind (s : State) (a : Axis) (d : Dir) : MoveKind :=
  if a.counted then
    match s.stopsOf a with
    | some st =>
      if (s.axis a).confidence = .lost then .seek d
      else .target (match d with | .up => st.hi | .down => st.lo)
    | none => .seek d
  else .target (match d with | .up => (s.mirrorLimits a).hi | .down => (s.mirrorLimits a).lo)

/-- R79: an OPEN record is closed by a jog in the other direction: SUPERSEDED, unless it has an outcome already. -/
def JogRecord.supersede (r : JogRecord) : JogRecord :=
  { r.release with outcome := r.outcome.or (some .superseded) }

/-- R77: the opening of a new jog: the record and its entry. -/
def State.openNewJog (s : State) (a : Axis) (d : Dir) : State :=
  let r : JogRecord := { id := s.model.nextId, axis := a, dir := d, from_ := (s.axis a).position }
  let t := { s with moves := { s.moves with jogs := s.moves.jogs ++ [r] } }.bumpId
  t.place { axis := a, cause := .jog, kind := s.jogKind a d, tag := 0, owner := .jog r.id }

/-- R77: a new jog, in the rule's order: the abort and the walks it occasions (R65, log 19), then the admission. -/
def State.newJog (s : State) (a : Axis) (d : Dir) : State :=
  let t := (s.abortActive .user).arbiter []
  let t := t.modJogs (fun r => r.axis == a && !r.closing) JogRecord.supersede
  let t := t.modAxis a fun u => { u with halted := false }
  (t.openNewJog a d).conclude []

/-- R79: a refresh restarts the keep-alive timer. -/
def JogRecord.refresh (r : JogRecord) : JogRecord := { r with keepAlive := some 300 }

/-- R77, R79: JOG. -/
def State.reqJog (s : State) (axis dir : Byte) : State × Reply :=
  if s.motionRefused then (s, refusal .busy)
  else
    match decAxis axis, decDir dir with
    | some a, some d =>
      if !s.isEffective a then (s, refusal .notFitted)
      else if (s.openJog a).any (·.dir == d) then
        (s.modJogs (fun r => r.axis == a && !r.closing) JogRecord.refresh, okWith [])
      else if (s.axis a).hot then (s, refusal .hot)
      else (s.newJog a d, okWith [])
    | _, _ => (s, refusal .badField)

/-- R80: JOG_END. -/
def State.reqJogEnd (s : State) (axis : Byte) : State × Reply :=
  match decAxis axis with
  | none => (s, refusal .badField)
  | some a =>
    if !s.isEffective a then (s, refusal .notFitted)
    else
      match s.openJog a with
      | none => (s, okWith [])
      | some r => ((s.releaseJog r).conclude [], okWith [])

/-- R127: RECALL. -/
def State.reqRecall (s : State) : State × Reply :=
  if s.motionRefused then (s, refusal .busy)
  else if !s.van.commissioned then (s, refusal .notCommissioned)
  else if s.table.driver = .nobody then (s, refusal .noDriver)
  else
    match s.recallSource with
    | none => (s, refusal .noProfile)
    | some (v, slot) =>
      if s.engine.active.isSome then (s, refusal .busy)
      else if !s.permitsCause .recall then (s, refusal .interlock)
      else ((s.startRecall .panel v slot).conclude [], acceptedWith s.table.counter)

/-- R141: UNDO. -/
def State.reqUndo (s : State) : State × Reply :=
  if s.motionRefused then (s, refusal .busy)
  else if !s.van.commissioned then (s, refusal .notCommissioned)
  else if s.engine.active.isSome then (s, refusal .busy)
  else
    match s.engine.ring.find? (·.undoable) with
    | none => (s, refusal .nothingToUndo)
    | some r =>
      if !s.permitsCause .undo then (s, refusal .interlock)
      else ((s.startUndo .panel r).conclude [], acceptedWith s.table.counter)

/-- R75, R78: an OPEN jog record is marked by STOP_ALL. -/
def JogRecord.markStopped (r : JogRecord) : JogRecord :=
  { r with outcome := some .aborted, abortSource := some .stopAll }

/-- R75, R186: an OPEN jog record that no STOP_ALL has marked yet. -/
def JogRecord.stoppable (r : JogRecord) : Bool := !r.closing && r.abortSource != some .stopAll

/-- R75, R186: STOP_ALL ends and counts what no earlier STOP_ALL has ended. -/
def State.reqStopAll (s : State) : State × Reply :=
  let t := s.abortActive .stop
  let t := t.modJogs JogRecord.stoppable JogRecord.markStopped
  let t := t.stopEntries (!·.stopped) byStopAll
  (t.conclude [], okWith (enc8 (s.moves.entries.filter (!·.stopped)).length ++ encFlag s.engine.active.isSome
    ++ encNat32 ((s.engine.active.map (·.tag)).getD 0) ++ enc8 (s.moves.jogs.filter (·.stoppable)).length))

/-! ## Dispatch -/

/-- R179: a request taken at a port is handled by the block that owns it. -/
def State.handle (s : State) (p : Port) : Request → State × Reply
  | .vehicleState a b c d e => s.reqVehicleState a b c d e
  | .park => s.reqPark
  | .deviceReset => s.reqDeviceReset
  | .assignDriver id f => s.reqAssignDriver id f
  | .releaseDriver => s.reqReleaseDriver
  | .loadProfile r f => s.reqLoadProfile r f
  | .loadDefault v e => s.reqLoadDefault v e
  | .readProfile x n => s.reqReadProfile x n
  | .deleteProfile id => s.reqDeleteProfile id
  | .pinProfile id v => s.reqPinProfile id v
  | .readDirty => s.reqReadDirty
  | .syncMark i r => s.reqSyncMark i r
  | .writeCalibration y es => s.reqWriteCalibration y es
  | .readVanRecord => s.reqReadVanRecord
  | .setEnableMask m => s.reqSetEnableMask m
  | .readHistory i => s.reqReadHistory i
  | .readCounters => s.reqReadCounters
  | .readStoreStatus => s.reqReadStoreStatus
  | .normalise a => s.reqNormalise p a
  | .jog a d => s.reqJog a d
  | .jogEnd a => s.reqJogEnd a
  | .recall => s.reqRecall
  | .store => s.reqStore
  | .undo => s.reqUndo
  | .setExitDistance d => s.reqSetExitDistance d
  | .readAxes => s.reqReadAxes
  | .stopAll => s.reqStopAll

end Sys2Proof.Machine
end

