-- ==== Sys2Proof/Machine/PortUnits.lean ====
section
/-! DEFINITION. The port units (10): transactions, the request buffer, the taking of a request, responses, events and
the port status; and the forms in which a transaction or a request acts. -/

namespace Sys2Proof.Machine

/-! ## Taking a request -/

/-- R179: the power states in which a request is taken. -/
def State.takes (s : State) : Bool := s.power.state == .run || s.power.state == .parking

/-- R179: an answer is placed in the response buffer. -/
def State.placeResponse (s : State) (p : Port) (code : Byte) (r : Reply) : State :=
  s.modPort p fun u =>
    { u with response := some { request := code, code := r.code, clamped := r.clamped,
                                recallNotStarted := r.recallNotStarted, fields := r.fields } }

/-- R179: a request is handled, and its answer placed, in the same action. -/
def State.serve (s : State) (p : Port) (r : Request) : State :=
  (s.handle p r).1.placeResponse p r.code (s.handle p r).2

/-- R179: a frame taken is checked, and dispatched or answered by the port unit. A BAD_FRAME to a frame without a code
byte echoes a free value (log 14). -/
def State.answerFrame (s : State) (p : Port) (frame : Received) : State :=
  match Request.parse p frame.bytes frame.overlong with
  | .request r => s.serve p r
  | .badFrame code => s.placeResponse p (code.getD Config.headerlessCode) (refusal .badFrame)
  | .unknown code => s.placeResponse p code (refusal .unknownRequest)
  | .wrongPort code => s.placeResponse p code (refusal .wrongPort)

/-- R179: the request of a port is taken where its buffer is full, its response buffer empty and the power state RUN or
PARKING. -/
def State.takeRequest (s : State) (p : Port) : State :=
  match (s.port p).request with
  | none => s
  | some frame =>
    if (s.port p).response.isNone ∧ s.takes then
      (s.modPort p fun u => { u with request := none }).answerFrame p frame
    else s

/-! ## Transactions -/

/-- R185: the port status as it stands. -/
def State.portStatus (s : State) (p : Port) : PortStatus :=
  let u := s.port p
  { requestFull := u.request.isSome, responseReady := u.response.isSome, events := u.events.length
    lost := u.lost, overrun := u.overrun, power := s.power.state }

/-- R177: what a transaction would return were its chip select asserted now. -/
def State.selection (s : State) (p : Port) : Selected :=
  { response := (s.port p).response, event := (s.port p).events.head?, status := s.portStatus p }

/-- R177: what the running transaction returns: fixed at its chip-select assertion, or, for a transaction given as one
command, as the port stands (log 13). -/
def State.selected (s : State) (p : Port) : Selected := (s.port p).selected.getD (s.selection p)

/-- R177: the chip select is asserted. -/
def State.assertSelect (s : State) (p : Port) : State :=
  s.modPort p fun u => { u with selected := some (s.selection p) }

/-- R177, R188: the chip select is released; the bytes the part returned stand on the data output. -/
def State.endTransaction (s : State) (p : Port) (returned : List Byte) : State :=
  s.modPort p fun u => { u with selected := none, dataOut := returned }

/-- R170: header byte 51 is received. -/
def State.receiveHeader (s : State) (p : Port) : State :=
  (s.modPort p fun u => { u with selected := some { s.selected p with header := true } }).wake (.port p)

/-- R170: a WRITE_REQUEST whose header byte was not a command of its own brings it now (log 12). -/
def State.openWrite (s : State) (p : Port) : State :=
  if (s.selected p).header then s else s.wake (.port p)

/-- R188: the longest frame a request buffer keeps. -/
def maxFrame : Nat := 100

/-- R178, R188: a frame as a request buffer keeps it. -/
def received (frame : List Byte) : Received :=
  { bytes := frame.take maxFrame, overlong := decide (maxFrame < frame.length) }

/-- R178: a frame goes to an empty request buffer, kept to its first 100 bytes, or is dropped and counted. -/
def PortUnit.receive (u : PortUnit) (frame : List Byte) : PortUnit :=
  match u.request with
  | none => { u with request := some (received frame) }
  | some _ => { u with overrun := bumpCount u.overrun }

/-- R178: a WRITE_REQUEST completes. -/
def State.writeFrame (s : State) (p : Port) (frame : List Byte) : State :=
  ((((s.openWrite p).endTransaction p (List.replicate frame.length 0)).modPort p (·.receive frame))).takeRequest p

/-- R180: the response buffer is emptied by a completed read, and a waiting request is taken. -/
def State.dropResponse (s : State) (p : Port) : State :=
  (s.modPort p fun u => { u with response := none }).takeRequest p

/-- R180: a READ_RESPONSE in which `n` bytes were clocked out ends. -/
def State.readResponse (s : State) (p : Port) (n : Nat) : State :=
  let x := s.selected p
  let frame := (x.response.map Response.frame).getD noneFrame
  let t := s.endTransaction p (clockOut frame n)
  if bytesToComplete frame ≤ n ∧ x.response.isSome ∧ !x.emptied then t.dropResponse p else t

/-- R182: a READ_EVENT in which `n` bytes were clocked out ends. -/
def State.readEvent (s : State) (p : Port) (n : Nat) : State :=
  let x := s.selected p
  let frame := (x.event.map Event.frame).getD noneFrame
  let t := s.endTransaction p (clockOut frame n)
  if bytesToComplete frame ≤ n ∧ x.event.isSome ∧ !x.emptied then
    t.modPort p fun u => { u with events := u.events.tail }
  else t

/-- R185: the number of bytes of the port status. -/
def statusLength : Nat := 6

/-- R185: a READ_PORT_STATUS in which `n` bytes were clocked out ends. -/
def State.readPortStatus (s : State) (p : Port) (n : Nat) : State :=
  let x := s.selected p
  let t := s.endTransaction p (clockOut x.status.bytes n)
  if statusLength ≤ n then
    t.modPort p fun u => { u with lost := u.lost - x.status.lost, overrun := u.overrun - x.status.overrun }
  else t

/-- R177, R188: a transaction whose kind byte names none is disregarded; the part returns 00 for each byte. -/
def State.disregard (s : State) (p : Port) (n : Nat) : State := s.endTransaction p (List.replicate n 0)

/-- R177, R188: a transaction ends in which the master sent a header byte and then `sent`, a byte for each byte clocked
out: the header byte says which transaction it is. -/
def State.transact (s : State) (p : Port) (header : Byte) (sent : List Byte) : State :=
  match decHeader header with
  | some .writeRequest => s.writeFrame p sent
  | some .readResponse => s.readResponse p sent.length
  | some .readEvent => s.readEvent p sent.length
  | some .readPortStatus => s.readPortStatus p sent.length
  | none => s.disregard p sent.length

/-! ## Requests as commands -/

/-- R179: a WRITE_REQUEST of a whole frame that finds both buffers of its port empty is taken at once. -/
def State.takesNow (s : State) (p : Port) (frame : List Byte) : Bool :=
  (s.port p).request.isNone && (s.port p).response.isNone && s.takes && decide (frame.length ≤ maxFrame)

/-- A request command is the whole WRITE_REQUEST of that request's frame at a port (log 12): taken and answered at once
where nothing stands in the way, and otherwise placed in the request buffer or dropped (R178, R179). -/
def State.submit (s : State) (p : Port) (r : Request) : State :=
  let t := (s.openWrite p).endTransaction p (List.replicate r.frame.length 0)
  if t.takesNow p r.frame then
    if codeCarriedAt r.code.toNat p then t.serve p r else t.placeResponse p r.code (refusal .wrongPort)
  else (t.modPort p (·.receive r.frame)).takeRequest p

/-! ## Requests held through WAKING -/

/-- The six orders of the three ports. -/
def portOrders : Vector (List Port) 6 :=
  #v[[.vehicle, .fleet, .panel], [.vehicle, .panel, .fleet], [.fleet, .vehicle, .panel], [.fleet, .panel, .vehicle],
     [.panel, .vehicle, .fleet], [.panel, .fleet, .vehicle]]

/-- The ports whose request buffer is full. -/
def State.holdingPorts (s : State) : List Port :=
  [Port.vehicle, .fleet, .panel].filter fun p => (s.port p).request.isSome

/-- R172, R179: the requests held in the request buffers are taken; where several ports hold one, in the order the free
value gives (log 11). -/
def State.takeHeld (s : State) : State :=
  match s.holdingPorts with
  | [] => s
  | [p] => s.takeRequest p
  | _ =>
    (portOrders[Config.portOrder s.model.freeSeq % 6]'(Nat.mod_lt _ (by decide))).foldl State.takeRequest s.bumpFree

end Sys2Proof.Machine
end

