-- ==== Sys2Proof/Machine/Axes.lean ====
section
/-! DEFINITION. What arrives at the axis units and their timers (01, 04): Hall pulses, mirror samples, coast ends,
stalls, interval timers, time limits. -/

namespace Sys2Proof.Machine

/-- R6, R10: pulses are counted and mirrors sampled in RUN and PARKING. -/
def State.senses (s : State) : Bool := s.power.state == .run || s.power.state == .parking

/-- R70: a motor is cut, and the DRIVING entry of its axis settles with a disposition. -/
def State.cutInto (s : State) (a : Axis) (atPoint : Bool) (d : Disposition) : State :=
  let t := (s.cutMotor a atPoint).askWalk
  match s.entryOf a with
  | some e =>
    if e.state = .driving then t.setEntry { e with state := .settling, timeLimit := none, disposition := some d } else t
  | none => t

/-- R70: a motor is cut, and the DRIVING entry of its axis ends at the cut. -/
def State.cutEnding (s : State) (a : Axis) (o : AxisOutcome) : State :=
  let t := (s.cutMotor a false).askWalk
  match s.entryOf a with
  | some e => if e.state = .driving then t.finishEntry e o (s.axis a).position else t
  | none => t

/-! ## Hall pulses -/

/-- R6: the direction a pulse is counted in; none in IDLE. -/
def AxisUnit.countingDir (u : AxisUnit) : Option Dir :=
  match u.motion with
  | .idle => none
  | .drivingUp => some .up
  | .drivingDown => some .down
  | .coasting => some u.lastDir

/-- R6: one count in a direction, saturated. -/
def stepCount (x : Int) : Dir → Int
  | .up => clampInt (-32768) 32767 (x + 1)
  | .down => clampInt (-32768) 32767 (x - 1)

/-- R6, R12, R22: a counted pulse: the count, the travel, and while driving the stall timer. -/
def AxisUnit.countPulse (u : AxisUnit) (d : Dir) : AxisUnit :=
  { u with position := stepCount u.position d, travel := u.travel + 1
           stallTimer := if u.driving then some 200 else u.stallTimer }

/-- R39: leg 1 of a normalise counts the pulses of its axis from its first grant on. -/
def Operation.countLeg1 (a : Axis) (op : Operation) : Operation :=
  if op.stage = .leg1 ∧ op.legGranted ∧ op.normaliseAxis = a then { op with d1 := op.d1 + 1 } else op

/-- R7: a stray pulse. -/
def State.strayPulse (s : State) (a : Axis) : State :=
  let u := s.axis a
  let t := s.setAxis a { u with
    confidence := if u.confidence = .normalised then .suspect else u.confidence
    strayRaised := true }
  if u.strayRaised then t else t.raiseAt [.vehicle, .panel] (.axisFault a .stray)

/-- R16: the axis drives and its count has come to its cut point. -/
def AxisUnit.atCutPoint (u : AxisUnit) : Bool := u.driving && u.cutPoint == some u.position

/-- R6, R7, R16: a Hall pulse. -/
def State.hallPulse (s : State) (a : Axis) : State :=
  if a.counted ∧ s.isFitted a ∧ s.senses then
    match (s.axis a).countingDir with
    | none => s.strayPulse a
    | some d =>
      let t := (s.modAxis a (·.countPulse d)).modActive (·.countLeg1 a)
      if (t.axis a).atCutPoint then (t.cutInto a true .judge).conclude [] else t
  else s

/-! ## Mirror samples -/

/-- R11: a raw value outside 8..1015. -/
def outOfRange (raw : BitVec 10) : Bool := raw.toNat < 8 || 1015 < raw.toNat

/-- R10: a sample replaces the raw value, and adds to the travel while driving and once after a cut. -/
def AxisUnit.takeSample (u : AxisUnit) (raw : BitVec 10) : AxisUnit :=
  { u with
    position := raw.toNat
    travel := if u.driving ∨ u.cutSampleDue then u.travel + BitVec.ofNat 32 ((raw.toNat : Int) - u.position).natAbs
              else u.travel
    cutSampleDue := false }

/-- R19: the sample lies at or beyond the target in the driven direction. -/
def AxisUnit.arrived (u : AxisUnit) (t : Int) : Bool :=
  match u.lastDir with
  | .up => t ≤ u.position
  | .down => u.position ≤ t

/-- R12: stall progress: a sample 2 or more from the reference is the new reference and restarts the timer. -/
def AxisUnit.stallProgress (u : AxisUnit) : AxisUnit :=
  if 2 ≤ (u.position - u.stallRef).natAbs then { u with stallRef := u.position, stallTimer := some 300 } else u

/-- R11: a sample sets SENSOR_FAULT where it was clear; a driving move ends SENSOR. -/
def State.setFault (s : State) (a : Axis) : State :=
  let t := (s.modAxis a fun u => { u with sensorFault := true }).raiseAt [.vehicle, .panel] (.axisFault a .sensor)
  if (t.axis a).driving then (t.cutEnding a .sensor).conclude [] else t

/-- R19: the arrival sample: the motor is cut, and the error judged on it. -/
def State.mirrorArrival (s : State) (e : MoveEntry) : State :=
  (((s.cutMotor e.axis false).askWalk).judge e).conclude []

/-- R12, R19: an in-range sample of a driving mirror: arrival, or stall progress. -/
def State.driveSample (s : State) (a : Axis) : State :=
  match s.entryOf a with
  | some e =>
    match e.kind with
    | .target t =>
      if e.state = .driving ∧ (s.axis a).arrived t then s.mirrorArrival e else s.modAxis a (·.stallProgress)
    | .seek _ => s.modAxis a (·.stallProgress)
  | none => s.modAxis a (·.stallProgress)

/-- R10, R11, R19: a mirror sample. -/
def State.mirrorSample (s : State) (a : Axis) (raw : BitVec 10) : State :=
  if a.mirror ∧ s.isFitted a ∧ s.senses then
    let t := s.modAxis a (·.takeSample raw)
    if outOfRange raw then (if (s.axis a).sensorFault then t else t.setFault a)
    else if (s.axis a).driving then t.driveSample a
    else t.modAxis a fun u => { u with sensorFault := false }
  else s

/-! ## The axis timers -/

/-- R168: the snapshot commit that waited for the coast ends. -/
def State.coastWaitOver (s : State) : State :=
  if s.power.coastWait ∧ !s.countedCoasting then
    { s with power := { s.power with coastWait := false } }.commit snapBlock
  else s

/-- R4, R17, R71: the coast timer of an axis expires. -/
def State.coastEnd (s : State) (a : Axis) : State :=
  if (s.axis a).coastTimer.isSome ∧ (s.axis a).motion = .coasting then
    ((((s.modAxis a (·.endCoast)).askWalk).resolveAxis a).conclude []).coastWaitOver
  else s

/-- R13: a counted axis's stall position lies within 16 of its stops. -/
def State.nearStops (s : State) (a : Axis) (x : Int) : Bool :=
  match s.stopsOf a with
  | some st => x ≤ st.lo + 16 || st.hi - 16 ≤ x
  | none => false

/-- R13: a mirror's stall position lies within 8 of its travel limits. -/
def State.nearLimits (s : State) (a : Axis) (x : Int) : Bool :=
  x ≤ (s.mirrorLimits a).lo + 8 || (s.mirrorLimits a).hi - 8 ≤ x

/-- R13: the classification of a stall; the first row that fits applies. -/
def State.classifyStall (s : State) (e : MoveEntry) (x : Int) : Disposition :=
  let lost := e.axis.counted && (s.axis e.axis).confidence == .lost
  if e.isSeekLeg then .decided .endStop
  else if e.cause = .backoff then .decided .stalled
  else if lost ∧ e.kind = .seek .down ∧ (s.stopsOf e.axis).isSome then .rereference
  else if lost ∧ (e.kind = .seek .down ∨ e.kind = .seek .up) then .decided .stalled
  else if e.axis.counted ∧ !lost ∧ s.nearStops e.axis x then .decided .endStop
  else if e.axis.mirror ∧ s.nearLimits e.axis x then .decided .endStop
  else .decided .obstructed

/-- R13: the outcome of a classification at a mirror's cut. -/
def Disposition.outcome : Disposition → AxisOutcome
  | .decided o => o
  | .rereference => .endStop
  | .judge | .resume => .stalled

/-- R12, R13: the stall timer of an axis expires: the motor is cut and the stall classified. -/
def State.stall (s : State) (a : Axis) : State :=
  if (s.axis a).stallTimer.isSome ∧ (s.axis a).driving then
    let t := s.modAxis a fun u => { u with stallPos := u.position }
    match t.entryOf a with
    | none => (t.cutEnding a .stalled).conclude []
    | some e =>
      let d := t.classifyStall e (t.axis a).position
      if a.counted then (t.cutInto a false d).conclude [] else (t.cutEnding a d.outcome).conclude []
  else s

/-- R20: the heat score after an interval. -/
def nextHeat (heat : Nat) (drove : Bool) : Nat := if drove then min (heat + 4) 600 else heat - 1

/-- R21: HOT after an interval: set at 600, cleared below 360. -/
def nextHot (hot : Bool) (heat : Nat) : Bool := if 600 ≤ heat then true else if heat < 360 then false else hot

/-- R22: an interval in which the axis drove adds to its run time. -/
def AxisUnit.countInterval (u : AxisUnit) : AxisUnit :=
  { u with runTime := if u.drove ∨ u.driving then u.runTime + 1 else u.runTime
           intervalTimer := some 100, drove := u.driving }

/-- R20, R21: the heat interval of an axis unit. -/
def AxisUnit.stepHeat (u : AxisUnit) : AxisUnit :=
  let heat := nextHeat u.heat (u.drove || u.driving)
  { u.countInterval with heat := heat, hot := nextHot u.hot heat }

/-- R21, R63: the axis has become HOT: a DRIVING move is cut and ends, a WAITING one ends, a SETTLING one goes on. -/
def State.becomeHot (s : State) (a : Axis) : State :=
  if (s.axis a).driving then
    ((s.cutEnding a .hot).modAxis a fun u => { u with drove := false }).conclude []
  else
    match s.entryOf a with
    | some e => if e.state = .waiting then (s.finishEntry e .hot (s.axis a).position).conclude [] else s
    | none => s

/-- R20, R22: the interval timers of a fitted axis run but in PARK (log 20). -/
def State.intervalRuns (s : State) (a : Axis) : Bool :=
  s.isFitted a && (s.axis a).intervalTimer.isSome && s.power.state != .park

/-- R20, R21, R22: the heat interval timer of a counted axis expires. -/
def State.heatInterval (s : State) (a : Axis) : State :=
  if a.counted ∧ s.intervalRuns a then
    let t := s.modAxis a (·.stepHeat)
    if (t.axis a).hot ∧ !(s.axis a).hot then t.becomeHot a else t
  else s

/-- R22: the interval timer of a mirror expires. -/
def State.runTimeInterval (s : State) (a : Axis) : State :=
  if a.mirror ∧ s.intervalRuns a then s.modAxis a (·.countInterval) else s

/-- R73: the time limit of a DRIVING entry expires. -/
def State.timeLimitExpiry (s : State) (a : Axis) : State :=
  match s.entryOf a with
  | none => s
  | some e =>
    if e.state = .driving ∧ e.timeLimit.isSome then
      if a.counted then (s.cutInto a false (.decided .timeout)).conclude []
      else (s.cutEnding a .timeout).conclude []
    else s

/-- R80: the keep-alive timer of the OPEN jog record of an axis expires; no timer runs in PARK. -/
def State.keepAliveExpiry (s : State) (a : Axis) : State :=
  match s.openJog a with
  | none => s
  | some r => if r.keepAlive.isSome ∧ s.power.state ≠ .park then (s.releaseJog r).conclude [] else s

/-- R133: the progress timer expires. -/
def State.progressExpiry (s : State) : State :=
  if s.progressCounts then (s.abortActive .noProgress).conclude [] else s

/-- R87: the freshness timer expires. -/
def State.freshnessExpiry (s : State) : State := if s.monitor.freshTimer.isSome then s.expireFreshness else s

end Sys2Proof.Machine
end

