-- ==== Sys2Proof/Machine/Supply.lean ====
section
/-! DEFINITION. Supply and power (08, 09): the end of WAKING, the reports and timers of the nonvolatile array, the
application of supply with the loading of the blocks, and its loss. -/

namespace Sys2Proof.Machine

/-! ## The end of WAKING -/

/-- R172: the cause POWER_STATE carries at the end of WAKING. A WAKING without a wake cause is not reached (log 27). -/
def wakePowerCause : Option WakeCause → PowerCause
  | some (.port p) => .port p
  | some .door | none => .door

/-- R172: each axis is IDLE and begins a new IDLE period. -/
def AxisUnit.newIdle (u : AxisUnit) : AxisUnit := { u with motion := .idle, strayRaised := false }

/-- R172: the settle timer expires. -/
def State.settleExpiry (s : State) : State :=
  if s.power.state = .waking ∧ s.power.settleTimer.isSome then
    let t := { s.mapAxes (fun _ u => u.newIdle) with
      monitor := {}, power := { s.power with state := .run, settleTimer := none } }
    ((t.commit snapBlock).raisePowerState .run (wakePowerCause s.power.wakeCause) false).takeHeld
  else s

/-! ## The array -/

/-- R154: the erase timer expires. -/
def State.eraseTimerExpiry (s : State) : State :=
  if s.store.state = .erasing ∧ s.store.eraseTimer.isSome then s.failAttempt .erase else s

/-- R154: the array reports the erase complete; the report of an attempt that has already failed is disregarded
(log 40). -/
def State.eraseComplete (s : State) (good late : Bool) : State :=
  if s.store.state = .erasing ∧ !late then (if good then s.eraseGood else s.failAttempt .erase) else s

/-- R155: the program timer expires. -/
def State.programTimerExpiry (s : State) : State :=
  if s.store.state = .programming ∧ s.store.programTimer.isSome then s.failAttempt .programTimeout else s

/-- R155: the array reports the program complete, and the read-back is equal to the image or not; the report of an
attempt that has already failed is disregarded (log 40). -/
def State.programComplete (s : State) (equal late : Bool) : State :=
  if s.store.state = .programming ∧ !late then (if equal then s.programGood else s.failAttempt .verify) else s

/-! ## Power-on -/

/-- R149: the image of a VALID block, of the kind its place calls for; none where the block is BLANK or CORRUPT. -/
def judgeBlock (i : PhysIx) (b : Block) : Option Image :=
  match b with
  | .valid (.slot s r) => if i.val = s.val ∨ i = spareBlock then some (.slot s r) else none
  | .valid (.dflt p) => if i.val = 48 then some (.dflt p) else none
  | .valid (.van v) => if i.val = 49 then some (.van v) else none
  | .valid (.snapshot x) => if i.val = 50 then some (.snapshot x) else none
  | .blank | .corrupt => none

/-- The blocks as a power-on finds them: those that decayed without supply are CORRUPT (log 10). -/
def decay (blocks : Vector Block 52) (decayed : List PhysIx) : Vector Block 52 :=
  decayed.foldl (fun v i => v.set i.val .corrupt) blocks

/-- R161: the slot and record the spare holds, where it is VALID. -/
def spareImage (blocks : Vector Block 52) : Option (SlotIx × SlotRecord) :=
  match judgeBlock spareBlock blocks[51] with
  | some (.slot i r) => some (i, r)
  | _ => none

/-- R148, R149: the record the home block of a slot holds, where it is VALID. -/
def homeImage (blocks : Vector Block 52) (i : SlotIx) : Option SlotRecord :=
  match judgeBlock (homeBlock (slotBlock i)) blocks[i.val] with
  | some (.slot _ r) => some r
  | _ => none

/-- R161: the record a slot loads, where its block passes its check. -/
def loadSlot (blocks : Vector Block 52) (i : SlotIx) : Option SlotRecord :=
  match spareImage blocks with
  | some (j, r) => if j = i then some r else homeImage blocks i
  | none => homeImage blocks i

/-- R122 steps 1 and 2: the record of a slot as loaded: EMPTY where its block fails its check. -/
def loadedSlot (blocks : Vector Block 52) (i : SlotIx) : SlotRecord := (loadSlot blocks i).getD {}

/-- R122 step 3: a lower slot holds the same driver ID. -/
def shadowed (records : Vector SlotRecord 48) (i : SlotIx) : Bool :=
  allSlots.any fun j => j < i && records[j.val].inUse && records[j.val].driver == records[i.val].driver

/-- R122 step 3: a slot whose driver a lower slot holds is made EMPTY. DESIGN CHOICE (log 48): CLEAN and unpinned, with the
other fields, which an EMPTY slot does not report (R98), as they were loaded. -/
def dedupe (records : Vector SlotRecord 48) : Vector SlotRecord 48 :=
  Vector.ofFn fun i : Fin 48 =>
    let r := records[i.val]
    if r.inUse && shadowed records i then { r with inUse := false, pinned := false, dirty := false } else r

/-- R105: the operation counter from the largest stamp. -/
def counterFrom (records : Vector SlotRecord 48) : Nat :=
  let stamps := records.toList.map fun r => if r.inUse then r.stamp else 0
  min (stamps.foldl max 0 + 1) counterMax

/-- R122 step 5: the default profile. -/
def loadDefault (blocks : Vector Block 52) : Option (Option Profile) :=
  match judgeBlock (homeBlock dfltBlock) blocks[48] with
  | some (.dflt p) => some p
  | _ => none

/-- R122: the profile table rebuilt from the blocks. -/
def rebuildTable (blocks : Vector Block 52) : ProfileTable :=
  let records := dedupe (Vector.ofFn (loadedSlot blocks))
  { slots := Vector.ofFn fun i : Fin 48 => { record := records[i.val] }
    dflt := (loadDefault blocks).join
    dirty := allSlots.filter fun i => records[i.val].inUse && records[i.val].dirty
    counter := counterFrom records }

/-- R27: the van record of block 49, where it passes its check. -/
def loadVan (blocks : Vector Block 52) : Option VanRecord :=
  match judgeBlock (homeBlock vanBlock) blocks[49] with
  | some (.van v) => some v
  | _ => none

/-- R27: the van record of a part whose block fails its check. -/
def uncommissioned (fitted : BitVec 10) : VanRecord := { enable := fitted }

/-- R174: the snapshot of block 50, where it is VALID and unconsumed. -/
def loadSnapshot (blocks : Vector Block 52) : Option Snapshot :=
  match judgeBlock (homeBlock snapBlock) blocks[50] with
  | some (.snapshot x) => if x.consumed then none else some x
  | _ => none

/-- R9, R21, R23: a counted axis unit as a snapshot restores it. -/
def restoreCounted (u : AxisUnit) (c : Int × Confidence × Nat) (stops : Option Stops) : AxisUnit :=
  { u with position := c.1, confidence := if stops.isSome then c.2.1 else .lost
           heat := c.2.2, hot := decide (360 ≤ c.2.2) }

/-- R23, R174: an axis unit as a snapshot restores it. -/
def restoreAxis (van : VanRecord) (x : Snapshot) (a : Axis) (u : AxisUnit) : AxisUnit :=
  let u := { u with travel := x.wear[a.val].1, runTime := x.wear[a.val].2 }
  if h : a.val < 6 then restoreCounted u x.counts[a.val] van.stops[a.val] else u

/-- R23, R174: the axis units at power-on. -/
def loadAxes (van : VanRecord) (x : Option Snapshot) : Vector AxisUnit 10 :=
  match x with
  | none => freshAxes
  | some x => Vector.ofFn fun a : Fin 10 => restoreAxis van x a freshAxes[a.val]

/-- R162: PROFILE_LOSS, where a block failed its check. DESIGN CHOICE (log 50): its set of slot indices is listed in
ascending order; R162 gives none. -/
def profileLoss (blocks : Vector Block 52) : List Event :=
  let lost := allSlots.filter fun i => (loadSlot blocks i).isNone
  let dflt := (loadDefault blocks).isNone
  let van := (loadVan blocks).isNone
  if lost.isEmpty && !dflt && !van then [] else [.profileLoss lost dflt van]

/-- R34: a strap held low marks its axis fitted; the operand gives the levels read. -/
def fittedFrom (straps : BitVec 10) : BitVec 10 := ~~~straps

/-- R174: the part as the load leaves it, with its first events placed. -/
def loaded (blocks : Vector Block 52) (fitted : BitVec 10) (model : ModelFields) (pending : List Instr) : State :=
  let van := (loadVan blocks).getD (uncommissioned fitted)
  let snapshot := loadSnapshot blocks
  let condition := if snapshot.isSome then SnapshotCondition.live else .consumed
  { ports := {
      vehicle := { events := [.powerState .run condition .powerOn snapshot.isSome] }
      fleet := { events := profileLoss blocks } }
    axes := loadAxes van snapshot
    fitted := fitted
    van := van
    table := rebuildTable blocks
    store := { blocks := blocks, spare := (spareImage blocks).map (·.1) }
    power := { snapshot := condition }
    model := model
    pending := pending }

/-- R174, R161: supply is applied: the straps are read, the blocks judged and loaded, and a snapshot that was used is
consumed. -/
def State.applySupply (s : State) (straps : BitVec 10) (decayed : List PhysIx) : State :=
  let blocks := decay s.store.blocks decayed
  let t := loaded blocks (fittedFrom straps) s.model s.pending
  if (loadSnapshot blocks).isSome then t.commit snapBlock else t

/-! ## Loss of supply -/

/-- R163: the target of a write in flight as a loss of supply leaves it. Between attempts there is a failed attempt before
this one, and this one's erase has not begun: the target is as it stands. A loss given so of a first attempt, or of a
program, which is between no attempts, cuts the attempt short (log 10). -/
def tornBlock (st : StoreState) (torn : TornAs) (w : Write) (old : Block) : Block :=
  match st, torn with
  | .erasing, .completed => .blank
  | .programming, .completed => .valid w.image
  | .erasing, .cutShort | .programming, .cutShort | .programming, .betweenAttempts => .corrupt
  | .erasing, .betweenAttempts => if w.attempt ≤ 1 then .corrupt else old
  | .idle, _ => old

/-- R163: the blocks as a loss of supply leaves them. -/
def State.tornBlocks (s : State) (torn : TornAs) : Vector Block 52 :=
  match s.store.write with
  | some w => s.store.blocks.set w.target.val (tornBlock s.store.state torn w s.store.blocks[w.target.val])
  | none => s.store.blocks

/-- R163: supply is lost: RAM is lost, and the blocks stay (log 8). -/
def State.loseSupply (s : State) (torn : TornAs) : State :=
  { powered := false, store := { blocks := s.tornBlocks torn }, model := s.model, pending := s.pending }

end Sys2Proof.Machine
end

