-- ==== Sys2Proof/Machine/FleetPort.lean ====
section
/-! DEFINITION. The requests of the fleet port (02, 06 to 08, 10). -/

namespace Sys2Proof.Machine

/-- ASSIGN_DRIVER (R107, R108). -/
def execAssignDriver (id : BitVec 32) (flags : Byte) (s : State) : Host.Outcome State Fault Refusal :=
  live (·.submit .fleet (.assignDriver id flags)) s

/-- RELEASE_DRIVER (R109). -/
def execReleaseDriver (s : State) : Host.Outcome State Fault Refusal :=
  live (·.submit .fleet .releaseDriver) s

/-- LOAD_PROFILE (R113 to R115). -/
def execLoadProfile (record : ProfileFields) (force : Byte) (s : State) : Host.Outcome State Fault Refusal :=
  live (·.submit .fleet (.loadProfile record force)) s

/-- LOAD_DEFAULT (R116). -/
def execLoadDefault (positions : PositionFields) (exit : Byte) (s : State) : Host.Outcome State Fault Refusal :=
  live (·.submit .fleet (.loadDefault positions exit)) s

/-- READ_PROFILE (R119). -/
def execReadProfile (selector : Byte) (named : BitVec 32) (s : State) : Host.Outcome State Fault Refusal :=
  live (·.submit .fleet (.readProfile selector named)) s

/-- DELETE_PROFILE (R117). -/
def execDeleteProfile (id : BitVec 32) (s : State) : Host.Outcome State Fault Refusal :=
  live (·.submit .fleet (.deleteProfile id)) s

/-- PIN_PROFILE (R118). -/
def execPinProfile (id : BitVec 32) (pin : Byte) (s : State) : Host.Outcome State Fault Refusal :=
  live (·.submit .fleet (.pinProfile id pin)) s

/-- READ_DIRTY (R119). -/
def execReadDirty (s : State) : Host.Outcome State Fault Refusal :=
  live (·.submit .fleet .readDirty) s

/-- SYNC_MARK (R120). -/
def execSyncMark (slot : Byte) (revision : BitVec 16) (s : State) : Host.Outcome State Fault Refusal :=
  live (·.submit .fleet (.syncMark slot revision)) s

/-- WRITE_CALIBRATION (R30, R31). -/
def execWriteCalibration (policy : Byte) (entries : List CalEntry) (s : State) : Host.Outcome State Fault Refusal :=
  live (·.submit .fleet (.writeCalibration policy entries)) s

/-- READ_VAN_RECORD (R33). -/
def execReadVanRecord (s : State) : Host.Outcome State Fault Refusal :=
  live (·.submit .fleet .readVanRecord) s

/-- SET_ENABLE_MASK (R35, R37). -/
def execSetEnableMask (mask : BitVec 16) (s : State) : Host.Outcome State Fault Refusal :=
  live (·.submit .fleet (.setEnableMask mask)) s

/-- READ_HISTORY (R140). -/
def execReadHistory (index : Byte) (s : State) : Host.Outcome State Fault Refusal :=
  live (·.submit .fleet (.readHistory index)) s

/-- READ_COUNTERS (R179, R22). -/
def execReadCounters (s : State) : Host.Outcome State Fault Refusal :=
  live (·.submit .fleet .readCounters) s

/-- READ_STORE_STATUS (R160). -/
def execReadStoreStatus (s : State) : Host.Outcome State Fault Refusal :=
  live (·.submit .fleet .readStoreStatus) s

end Sys2Proof.Machine
end

