-- ==== Sys2Proof/Machine/PanelPort.lean ====
section
/-! DEFINITION. The requests of the panel port, and those that several ports carry (02, 04, 06, 07, 10). -/

namespace Sys2Proof.Machine

/-- NORMALISE (R38), at the fleet or the panel port. -/
def execNormalise (p : Port) (axis : Byte) (s : State) : Host.Outcome State Fault Refusal :=
  live (·.submit p (.normalise axis)) s

/-- JOG (R77, R79). -/
def execJog (axis dir : Byte) (s : State) : Host.Outcome State Fault Refusal :=
  live (·.submit .panel (.jog axis dir)) s

/-- JOG_END (R80). -/
def execJogEnd (axis : Byte) (s : State) : Host.Outcome State Fault Refusal :=
  live (·.submit .panel (.jogEnd axis)) s

/-- RECALL (R127). -/
def execRecall (s : State) : Host.Outcome State Fault Refusal :=
  live (·.submit .panel .recall) s

/-- STORE (R110, R111). -/
def execStore (s : State) : Host.Outcome State Fault Refusal :=
  live (·.submit .panel .store) s

/-- UNDO (R141). -/
def execUndo (s : State) : Host.Outcome State Fault Refusal :=
  live (·.submit .panel .undo) s

/-- SET_EXIT_DISTANCE (R112). -/
def execSetExitDistance (d : Byte) (s : State) : Host.Outcome State Fault Refusal :=
  live (·.submit .panel (.setExitDistance d)) s

/-- READ_AXES (R5), at any port. -/
def execReadAxes (p : Port) (s : State) : Host.Outcome State Fault Refusal :=
  live (·.submit p .readAxes) s

/-- STOP_ALL (R186), at any port. -/
def execStopAll (p : Port) (s : State) : Host.Outcome State Fault Refusal :=
  live (·.submit p .stopAll) s

end Sys2Proof.Machine
end

