-- ==== Sys2Proof/Machine/PowerSupply.lean ====
section
/-! DEFINITION. The application and the loss of supply (08, 09). -/

namespace Sys2Proof.Machine

/-- POWER_ON (R174); a part that has supply is given none (log 8). -/
def execPowerOn (straps : BitVec 10) (decayed : List PhysIx) (s : State) : Host.Outcome State Fault Refusal :=
  .next (if s.powered then s else s.applySupply straps decayed)

/-- SUPPLY_LOSS (R163). -/
def execSupplyLoss (torn : TornAs) (s : State) : Host.Outcome State Fault Refusal :=
  live (·.loseSupply torn) s

end Sys2Proof.Machine
end

