-- ==== Sys2Proof/Machine/Sensors.lean ====
section
/-! DEFINITION. What the sensors and the wake input bring (01, 09). -/

namespace Sys2Proof.Machine

/-- HALL_PULSE (R6). -/
def execHallPulse (a : Axis) (s : State) : Host.Outcome State Fault Refusal :=
  live (·.hallPulse a) s

/-- MIRROR_SAMPLE (R10). -/
def execMirrorSample (a : Axis) (raw : BitVec 10) (s : State) : Host.Outcome State Fault Refusal :=
  live (·.mirrorSample a raw) s

/-- DOOR_WAKE_EDGE (R170). -/
def execDoorWakeEdge (s : State) : Host.Outcome State Fault Refusal :=
  live (·.wake .door) s

end Sys2Proof.Machine
end

