-- ==== Sys2Proof/Machine/StoreEvents.lean ====
section
/-! DEFINITION. The timers and reports of the nonvolatile array (08). -/

namespace Sys2Proof.Machine

/-- ERASE_TIMER_EXPIRY (R154). -/
def execEraseTimerExpiry (s : State) : Host.Outcome State Fault Refusal :=
  live State.eraseTimerExpiry s

/-- ERASE_COMPLETE (R154). -/
def execEraseComplete (good late : Bool) (s : State) : Host.Outcome State Fault Refusal :=
  live (·.eraseComplete good late) s

/-- PROGRAM_TIMER_EXPIRY (R155). -/
def execProgramTimerExpiry (s : State) : Host.Outcome State Fault Refusal :=
  live State.programTimerExpiry s

/-- PROGRAM_COMPLETE (R155). -/
def execProgramComplete (equal late : Bool) (s : State) : Host.Outcome State Fault Refusal :=
  live (·.programComplete equal late) s

end Sys2Proof.Machine
end

