-- ==== Sys2Proof/Machine/Timers.lean ====
section
/-! DEFINITION. The expiries of the timers (01, 04, 05, 07, 09). -/

namespace Sys2Proof.Machine

/-- COAST_END (R71, R4). -/
def execCoastEnd (a : Axis) (s : State) : Host.Outcome State Fault Refusal :=
  live (·.coastEnd a) s

/-- STALL (R12, R13). -/
def execStall (a : Axis) (s : State) : Host.Outcome State Fault Refusal :=
  live (·.stall a) s

/-- HEAT_INTERVAL (R20, R21). -/
def execHeatInterval (a : Axis) (s : State) : Host.Outcome State Fault Refusal :=
  live (·.heatInterval a) s

/-- RUN_TIME_INTERVAL (R22). -/
def execRunTimeInterval (a : Axis) (s : State) : Host.Outcome State Fault Refusal :=
  live (·.runTimeInterval a) s

/-- TIME_LIMIT_EXPIRY (R73). -/
def execTimeLimitExpiry (a : Axis) (s : State) : Host.Outcome State Fault Refusal :=
  live (·.timeLimitExpiry a) s

/-- KEEP_ALIVE_EXPIRY (R80). -/
def execKeepAliveExpiry (a : Axis) (s : State) : Host.Outcome State Fault Refusal :=
  live (·.keepAliveExpiry a) s

/-- PROGRESS_TIMER_EXPIRY (R133). -/
def execProgressTimerExpiry (s : State) : Host.Outcome State Fault Refusal :=
  live State.progressExpiry s

/-- FRESHNESS_EXPIRY (R87). -/
def execFreshnessExpiry (s : State) : Host.Outcome State Fault Refusal :=
  live State.freshnessExpiry s

/-- SETTLE_EXPIRY (R172). -/
def execSettleExpiry (s : State) : Host.Outcome State Fault Refusal :=
  live State.settleExpiry s

end Sys2Proof.Machine
end

