-- ==== Sys2Proof/Machine/Transactions.lean ====
section
/-! DEFINITION. The commands of the four transactions at a port (10, R170, R177 to R185). -/

namespace Sys2Proof.Machine

/-- WRITE_REQUEST (R178): a transaction that brought a frame completes. -/
def execWriteRequest (p : Port) (frame : List Byte) (s : State) : Host.Outcome State Fault Refusal :=
  live (·.writeFrame p frame) s

/-- WRITE_REQUEST_HEADER (R170): header byte 51 is received. -/
def execWriteRequestHeader (p : Port) (s : State) : Host.Outcome State Fault Refusal :=
  live (·.receiveHeader p) s

/-- READ_RESPONSE (R180), with the number of bytes clocked out. -/
def execReadResponse (p : Port) (clocked : Nat) (s : State) : Host.Outcome State Fault Refusal :=
  live (·.readResponse p clocked) s

/-- READ_EVENT (R182), with the number of bytes clocked out. -/
def execReadEvent (p : Port) (clocked : Nat) (s : State) : Host.Outcome State Fault Refusal :=
  live (·.readEvent p clocked) s

/-- READ_PORT_STATUS (R185), with the number of bytes clocked out. -/
def execReadPortStatus (p : Port) (clocked : Nat) (s : State) : Host.Outcome State Fault Refusal :=
  live (·.readPortStatus p clocked) s

/-- DISREGARDED_TRANSACTION (R177, R188): a transaction whose header names none: filler is returned and no state changes.
DESIGN CHOICE (log 31): given with a header byte that names one, it is that transaction, the master sending 00. -/
def execDisregardedTransaction (p : Port) (header : Byte) (clocked : Nat) (s : State) : Host.Outcome State Fault Refusal :=
  live (·.transact p header (List.replicate clocked 0)) s

/-- CHIP_SELECT_ASSERTED (R177): what a read returns is fixed. -/
def execChipSelectAsserted (p : Port) (s : State) : Host.Outcome State Fault Refusal :=
  live (·.assertSelect p) s

end Sys2Proof.Machine
end

