-- ==== Sys2Proof/Machine/VehiclePort.lean ====
section
/-! DEFINITION. The requests of the vehicle port (05, 09, 10). -/

namespace Sys2Proof.Machine

/-- VEHICLE_STATE (R85, R86). -/
def execVehicleState (speed gear ignition door supply : Byte) (s : State) : Host.Outcome State Fault Refusal :=
  live (·.submit .vehicle (.vehicleState speed gear ignition door supply)) s

/-- PARK (R166). -/
def execPark (s : State) : Host.Outcome State Fault Refusal :=
  live (·.submit .vehicle .park) s

/-- DEVICE_RESET (R187). -/
def execDeviceReset (s : State) : Host.Outcome State Fault Refusal :=
  live (·.submit .vehicle .deviceReset) s

end Sys2Proof.Machine
end

