-- ==== Sys2Proof/Machine/Dispatch.lean ====
section
/-! DEFINITION. One arm per command: a direct call of its meaning. -/

namespace Sys2Proof.Machine

def exec (i : Instr) (s : State) : Host.Outcome State Fault Refusal :=
  match i with
  | .writeRequest p frame => Sys2Proof.Machine.execWriteRequest p frame s
  | .writeRequestHeader p => Sys2Proof.Machine.execWriteRequestHeader p s
  | .readResponse p clocked => Sys2Proof.Machine.execReadResponse p clocked s
  | .readEvent p clocked => Sys2Proof.Machine.execReadEvent p clocked s
  | .readPortStatus p clocked => Sys2Proof.Machine.execReadPortStatus p clocked s
  | .disregardedTransaction p header clocked => Sys2Proof.Machine.execDisregardedTransaction p header clocked s
  | .vehicleState speed gear ignition door supply => Sys2Proof.Machine.execVehicleState speed gear ignition door supply s
  | .park => Sys2Proof.Machine.execPark s
  | .deviceReset => Sys2Proof.Machine.execDeviceReset s
  | .assignDriver id flags => Sys2Proof.Machine.execAssignDriver id flags s
  | .releaseDriver => Sys2Proof.Machine.execReleaseDriver s
  | .loadProfile record force => Sys2Proof.Machine.execLoadProfile record force s
  | .loadDefault positions exit => Sys2Proof.Machine.execLoadDefault positions exit s
  | .readProfile selector named => Sys2Proof.Machine.execReadProfile selector named s
  | .deleteProfile id => Sys2Proof.Machine.execDeleteProfile id s
  | .pinProfile id pin => Sys2Proof.Machine.execPinProfile id pin s
  | .readDirty => Sys2Proof.Machine.execReadDirty s
  | .syncMark slot revision => Sys2Proof.Machine.execSyncMark slot revision s
  | .writeCalibration policy entries => Sys2Proof.Machine.execWriteCalibration policy entries s
  | .readVanRecord => Sys2Proof.Machine.execReadVanRecord s
  | .setEnableMask mask => Sys2Proof.Machine.execSetEnableMask mask s
  | .readHistory index => Sys2Proof.Machine.execReadHistory index s
  | .readCounters => Sys2Proof.Machine.execReadCounters s
  | .readStoreStatus => Sys2Proof.Machine.execReadStoreStatus s
  | .normalise p axis => Sys2Proof.Machine.execNormalise p axis s
  | .jog axis dir => Sys2Proof.Machine.execJog axis dir s
  | .jogEnd axis => Sys2Proof.Machine.execJogEnd axis s
  | .recall => Sys2Proof.Machine.execRecall s
  | .store => Sys2Proof.Machine.execStore s
  | .undo => Sys2Proof.Machine.execUndo s
  | .setExitDistance d => Sys2Proof.Machine.execSetExitDistance d s
  | .readAxes p => Sys2Proof.Machine.execReadAxes p s
  | .stopAll p => Sys2Proof.Machine.execStopAll p s
  | .hallPulse a => Sys2Proof.Machine.execHallPulse a s
  | .mirrorSample a raw => Sys2Proof.Machine.execMirrorSample a raw s
  | .doorWakeEdge => Sys2Proof.Machine.execDoorWakeEdge s
  | .powerOn straps decayed => Sys2Proof.Machine.execPowerOn straps decayed s
  | .supplyLoss torn => Sys2Proof.Machine.execSupplyLoss torn s
  | .coastEnd a => Sys2Proof.Machine.execCoastEnd a s
  | .stall a => Sys2Proof.Machine.execStall a s
  | .heatInterval a => Sys2Proof.Machine.execHeatInterval a s
  | .runTimeInterval a => Sys2Proof.Machine.execRunTimeInterval a s
  | .timeLimitExpiry a => Sys2Proof.Machine.execTimeLimitExpiry a s
  | .keepAliveExpiry a => Sys2Proof.Machine.execKeepAliveExpiry a s
  | .progressTimerExpiry => Sys2Proof.Machine.execProgressTimerExpiry s
  | .freshnessExpiry => Sys2Proof.Machine.execFreshnessExpiry s
  | .settleExpiry => Sys2Proof.Machine.execSettleExpiry s
  | .eraseTimerExpiry => Sys2Proof.Machine.execEraseTimerExpiry s
  | .eraseComplete good late => Sys2Proof.Machine.execEraseComplete good late s
  | .programTimerExpiry => Sys2Proof.Machine.execProgramTimerExpiry s
  | .programComplete equal late => Sys2Proof.Machine.execProgramComplete equal late s
  | .chipSelectAsserted p => Sys2Proof.Machine.execChipSelectAsserted p s

end Sys2Proof.Machine
end

