-- ==== Sys2Proof/Safety.lean ====
section
/-! DEFINITION. The terms in which claims about the part are made: where a request is taken at once and what it leaves at
its port, which parts of the state an action leaves alone, and the bounds and laws that hold in every run. -/

namespace Sys2Proof

open Machine

/-- The port and the request of a command that is a request. -/
def Instr.request : Instr → Option (Port × Request)
  | .vehicleState a b c d e => some (.vehicle, .vehicleState a b c d e)
  | .park => some (.vehicle, .park)
  | .deviceReset => some (.vehicle, .deviceReset)
  | .assignDriver id f => some (.fleet, .assignDriver id f)
  | .releaseDriver => some (.fleet, .releaseDriver)
  | .loadProfile r f => some (.fleet, .loadProfile r f)
  | .loadDefault v e => some (.fleet, .loadDefault v e)
  | .readProfile x n => some (.fleet, .readProfile x n)
  | .deleteProfile id => some (.fleet, .deleteProfile id)
  | .pinProfile id v => some (.fleet, .pinProfile id v)
  | .readDirty => some (.fleet, .readDirty)
  | .syncMark i r => some (.fleet, .syncMark i r)
  | .writeCalibration y es => some (.fleet, .writeCalibration y es)
  | .readVanRecord => some (.fleet, .readVanRecord)
  | .setEnableMask m => some (.fleet, .setEnableMask m)
  | .readHistory i => some (.fleet, .readHistory i)
  | .readCounters => some (.fleet, .readCounters)
  | .readStoreStatus => some (.fleet, .readStoreStatus)
  | .normalise p a => some (p, .normalise a)
  | .jog a d => some (.panel, .jog a d)
  | .jogEnd a => some (.panel, .jogEnd a)
  | .recall => some (.panel, .recall)
  | .store => some (.panel, .store)
  | .undo => some (.panel, .undo)
  | .setExitDistance d => some (.panel, .setExitDistance d)
  | .readAxes p => some (p, .readAxes)
  | .stopAll p => some (p, .stopAll)
  | .writeRequest .. | .writeRequestHeader .. | .readResponse .. | .readEvent .. | .readPortStatus ..
  | .disregardedTransaction .. | .hallPulse .. | .mirrorSample .. | .doorWakeEdge | .powerOn .. | .supplyLoss ..
  | .coastEnd .. | .stall .. | .heatInterval .. | .runTimeInterval .. | .timeLimitExpiry .. | .keepAliveExpiry ..
  | .progressTimerExpiry | .freshnessExpiry | .settleExpiry | .eraseTimerExpiry | .eraseComplete ..
  | .programTimerExpiry | .programComplete .. | .chipSelectAsserted .. => none

namespace Machine

/-! ## The parts of the state -/

/-- The parts of the state a frame names. -/
inductive Part where
  | powered | ports | monitor | axes | fitted | van | moves | engine | table | store | power | model | pending
  deriving DecidableEq, Repr

/-- The second state has the first one's value in a part. -/
def State.agrees (s t : State) : Part → Prop
  | .powered => t.powered = s.powered
  | .ports => t.ports = s.ports
  | .monitor => t.monitor = s.monitor
  | .axes => t.axes = s.axes
  | .fitted => t.fitted = s.fitted
  | .van => t.van = s.van
  | .moves => t.moves = s.moves
  | .engine => t.engine = s.engine
  | .table => t.table = s.table
  | .store => t.store = s.store
  | .power => t.power = s.power
  | .model => t.model = s.model
  | .pending => t.pending = s.pending

/-- Nothing but the parts named has changed. -/
def State.onlyIn (s t : State) (changed : List Part) : Prop := ∀ p, p ∉ changed → s.agrees t p

/-! ## Requests taken at once -/

/-- A powered part in RUN, both buffers of the port empty: a request written at the port is taken at once (R179). -/
abbrev State.ready (s : State) (p : Port) : Prop :=
  s.powered = true ∧ s.power.state = .run ∧ (s.port p).request = none ∧ (s.port p).response = none

/-- A powered part in PARKING, both buffers of the port empty: a request written at the port is taken at once (R179). -/
abbrev State.parkingReady (s : State) (p : Port) : Prop :=
  s.powered = true ∧ s.power.state = .parking ∧ (s.port p).request = none ∧ (s.port p).response = none

/-- R170, R175: a wake cause in PARKING: wake is pending, and the first cause is kept. -/
def State.wakeNoted (s : State) (c : WakeCause) : State :=
  { s with power := { s.power with wakePending := true, wakeCause := s.power.wakeCause.or (some c) } }

/-- The response frame's contents a reply makes (R180). -/
def Reply.toResponse (r : Reply) (code : Byte) : Response :=
  { request := code, code := r.code, clamped := r.clamped, recallNotStarted := r.recallNotStarted, fields := r.fields }

/-- A port unit as the WRITE_REQUEST of an answered request leaves it: the response in its buffer, filler returned. -/
def PortUnit.answered (u : PortUnit) (r : Request) (reply : Reply) : PortUnit :=
  { u with response := some (reply.toResponse r.code), selected := none, dataOut := List.replicate r.frame.length 0 }

/-- The state in which a port's request has been answered, and nothing else has changed. -/
def State.answered (s : State) (p : Port) (r : Request) (reply : Reply) : State :=
  s.setPort p ((s.port p).answered r reply)

/-- The request of a port is answered after events were raised: each port gains the events given for it, in order
(R182), and no port changes otherwise. -/
def State.answersWith (s t : State) (p : Port) (r : Request) (reply : Reply) (events : Port → List Event) : Prop :=
  t.port p = ((events p).foldl PortUnit.enqueue (s.port p)).answered r reply ∧
    ∀ q, q ≠ p → t.port q = (events q).foldl PortUnit.enqueue (s.port q)

/-- Each port gains the events given for it, in order (R182), and no port changes otherwise. -/
def State.gains (s t : State) (events : Port → List Event) : Prop :=
  ∀ q, t.port q = (events q).foldl PortUnit.enqueue (s.port q)

/-- No event. -/
def noEvents : Port → List Event := fun _ => []

/-- One event, at each of several ports. -/
def eventAt (ps : List Port) (e : Event) : Port → List Event := fun p => if p ∈ ps then [e] else []

/-! ## Where nothing is left to do -/

/-- No entry, no jog record, no operation: the move list and the engine have nothing in hand. -/
abbrev State.quiet (s : State) : Prop := s.moves = {} ∧ s.engine.active = none ∧ s.engine.closing = []

/-- Between two commands: no walk is due, no jog record or operation waits to be closed or carried on (R65, R82, R126). -/
abbrev State.settled (s : State) : Prop :=
  s.moves.walksDue = 0 ∧ s.moves.jogs.find? s.jogCloses = none ∧
    s.engine.closing.find? (fun op => !s.owns (.operation op.id)) = none ∧
    (s.engine.active.map fun op => s.owns (.operation op.id)) ≠ some false

/-- One jog's entry is on the list, owned by the one jog record, and nothing else is in hand. -/
abbrev State.oneJog (s : State) (e : MoveEntry) (j : JogRecord) : Prop :=
  s.moves = { entries := [e], jogs := [j] } ∧ s.engine.active = none ∧ s.engine.closing = [] ∧
    e.owner = .jog j.id ∧ e.cause = .jog ∧ e.axis = j.axis

/-- One jog drives, and nothing else is in hand: its entry is DRIVING, its record OPEN. -/
abbrev State.oneDrive (s : State) (e : MoveEntry) (j : JogRecord) : Prop :=
  s.oneJog e j ∧ e.state = .driving ∧ j.closing = false ∧ j.abortSource = none ∧ (s.axis e.axis).driving = true

/-- One jog waits, and nothing else is in hand: its entry is WAITING, its record OPEN. -/
abbrev State.oneQueued (s : State) (e : MoveEntry) (j : JogRecord) : Prop :=
  s.oneJog e j ∧ e.state = .waiting ∧ j.closing = false ∧ j.abortSource = none ∧ j.backoff = false

/-- R4: the unit of a counted axis whose motor has been cut while it drove, elsewhere than at its cut point. -/
def AxisUnit.coasting (u : AxisUnit) : AxisUnit :=
  { u with motion := .coasting, coastTimer := some 150, countAtCut := u.position, cutAtPoint := false, cutPoint := none
           stallTimer := none }

/-- R4, R10: the unit of a mirror whose motor has been cut while it drove. -/
def AxisUnit.stopped (u : AxisUnit) : AxisUnit :=
  { u with motion := .idle, cutSampleDue := true, cutPoint := none, stallTimer := none, strayRaised := false }

/-- R70: an entry that settles. -/
def MoveEntry.settles (e : MoveEntry) (d : Disposition) : MoveEntry :=
  { e with state := .settling, timeLimit := none, disposition := some d }

/-- R186: an entry that a STOP_ALL has ended and that settles to ABORTED. -/
def MoveEntry.stoppedByAll (e : MoveEntry) : MoveEntry := { e.settles (.decided .aborted) with stopAll := true }

/-- R4, R7, R17: the unit of a counted axis at its coast end: IDLE, in a new IDLE period, with the lead of the driven
direction learned where the cut was made at a cut point. -/
def AxisUnit.rested (u : AxisUnit) : AxisUnit :=
  let overrun := min (u.position - u.countAtCut).natAbs 6
  { u with
    motion := .idle, coastTimer := none, cutAtPoint := false, strayRaised := false
    leadUp := if u.cutAtPoint = true ∧ u.lastDir = .up then overrun else u.leadUp
    leadDown := if u.cutAtPoint = true ∧ u.lastDir = .down then overrun else u.leadDown }

/-- R4, R12, R16, R19: the unit of an axis that a grant drives towards a target: the cut point of a counted axis lies
before the target by the learned lead, by one less than the distance where that is smaller, and by nothing in a
correction; a mirror has no cut point, and takes its raw value as the stall reference. -/
def AxisUnit.drivenTo (u : AxisUnit) (a : Axis) (g : Int) (correction : Bool) : AxisUnit :=
  let up := u.position < g
  let lead : Nat := if correction then 0 else min (if up then u.leadUp else u.leadDown) ((u.position - g).natAbs - 1)
  { u with
    motion := if up then .drivingUp else .drivingDown, lastDir := if up then .up else .down, drove := true
    cutPoint := if a.counted then some (if up then g - lead else g + lead) else none
    stallTimer := some (if a.counted then 200 else 300)
    stallRef := if a.counted then u.stallRef else u.position }

/-- One jog settles, and nothing else is in hand: its entry is SETTLING, its record OPEN. -/
abbrev State.oneSettling (s : State) (e : MoveEntry) (j : JogRecord) : Prop :=
  s.oneJog e j ∧ e.state = .settling ∧ j.closing = false ∧ j.abortSource = none

/-- One jog settles, and nothing else is in hand: its entry is SETTLING, its record CLOSING, with no backoff
outstanding. -/
abbrev State.oneClosing (s : State) (e : MoveEntry) (j : JogRecord) : Prop :=
  s.oneJog e j ∧ e.state = .settling ∧ j.closing = true ∧ j.backoff = false

/-- One jog's superseded entry settles off the list, and nothing else is in hand: its record is CLOSING. -/
abbrev State.oneOffList (s : State) (e : MoveEntry) (j : JogRecord) : Prop :=
  s.moves = { offList := [e], jogs := [j] } ∧ s.engine.active = none ∧ s.engine.closing = [] ∧
    e.owner = .jog j.id ∧ e.cause = .jog ∧ e.axis = j.axis ∧ e.disposition = some (.decided .superseded) ∧
    j.closing = true ∧ j.backoff = false ∧ j.abortSource = none

/-- R80: a jog record as its release leaves it. -/
def JogRecord.released (j : JogRecord) : JogRecord := { j with closing := true, keepAlive := none }

/-- R82: the result of a JOG record: COMPLETE for REACHED and END_STOP, ABORTED, PARTIAL otherwise. -/
def jogResult (o : AxisOutcome) : OpResult :=
  if o = .reached ∨ o = .endStop then .complete else if o = .aborted then .aborted else .partly

/-- R82, R139: the one jog record has closed with an outcome and a final position, and its JOG record is the newest of the
ring; the abort cause is STOP where STOP_ALL ended it. -/
def State.jogClosed (s : State) (j : JogRecord) (o : AxisOutcome) (final : Int) (c : Option AbortCause) : State :=
  { s with
    moves := {}
    engine := { s.engine with ring := ({
      tag := 0, cause := .jog, port := .panel, result := jogResult o, abortCause := c
      entries := [⟨j.axis, j.from_, final, o⟩] } :: s.engine.ring).take 8 } }

/-- The active operation, no NORMALISE, has one entry on the move list, of an axis it has planned, and nothing else is in
hand. Its outcome list is any, of however many axes, skipped, moved already or still to be moved. -/
abbrev State.oneEntry (s : State) (op : Operation) (e : MoveEntry) : Prop :=
  s.engine.active = some op ∧ s.engine.closing = [] ∧ s.moves = { entries := [e] } ∧ op.kind ≠ .normalise ∧
    (op.stage = .phase1 ∨ op.stage = .phase2 ∨ op.stage = .phase3) ∧ op.abortCause = none ∧
    (∃ x ∈ op.outcomes, x.axis = e.axis ∧ x.planned = true) ∧ e.owner = .operation op.id

/-- That one entry waits. -/
abbrev State.oneWaiting (s : State) (op : Operation) (e : MoveEntry) : Prop :=
  s.oneEntry op e ∧ e.cause = op.kind.cause ∧ e.state = .waiting

/-- The move of a NORMALISE's leg settles on its axis with a disposition, and nothing else is in hand. -/
abbrev State.legSettles (s : State) (op : Operation) (e : MoveEntry) (a : Axis) (d : Disposition) : Prop :=
  s.powered = true ∧ s.power.state = .run ∧ s.power.coastWait = false ∧ a.counted = true ∧
    s.engine.active = some op ∧ s.engine.closing = [] ∧ op.kind = .normalise ∧ op.source = .axis a ∧
    op.abortCause = none ∧ s.moves = { entries := [e] } ∧ e.axis = a ∧ e.owner = .operation op.id ∧
    e.cause = .normalise ∧ e.state = .settling ∧ e.disposition = some d ∧ (s.axis a).motion = .coasting ∧
    (s.axis a).coastTimer.isSome

/-- R128, R129 to R131: of a source's axes one passes every test, with a target beyond its deadband; it is idle, and there
is budget for it. -/
abbrev State.oneMove (s : State) (src : Source) (a : Axis) (g : Int) : Prop :=
  (∃ c, s.testAxis src a = .ok (g, c)) ∧ (∀ b, b ≠ a → ∃ o, s.testAxis src b = .error o) ∧
    (s.axis a).motion = .idle ∧ demand a ≤ s.budget ∧
    (if a.counted then 2 else 3) < ((s.axis a).position - g).natAbs

/-- R129 to R131: the phase in which an operation first moves an axis: a mirror, and a column axis that clears the driver,
in PHASE_1; a seat axis in PHASE_2; a column axis otherwise in PHASE_3. -/
def firstPhase (a : Axis) (position target : Int) : Stage :=
  if a.mirror ∨ (a = .rake ∧ position < target) ∨ (a = .reach ∧ target < position) then .phase1
  else if a.val < 4 then .phase2
  else .phase3

/-- R154, R155: a command that makes the running attempt fail, and the kind of the failure. -/
abbrev State.fails (s : State) (c : Instr) (k : FailKind) : Prop :=
  (c = .eraseTimerExpiry ∧ s.store.state = .erasing ∧ s.store.eraseTimer.isSome ∧ k = .eraseFail) ∨
    (c = .eraseComplete false false ∧ s.store.state = .erasing ∧ k = .eraseFail) ∨
    (c = .programTimerExpiry ∧ s.store.state = .programming ∧ s.store.programTimer.isSome ∧ k = .programFail) ∨
    (c = .programComplete false false ∧ s.store.state = .programming ∧ k = .programFail)

/-- R78: an OPEN jog record whose entry has ended. -/
def JogRecord.ended (j : JogRecord) (o : AxisOutcome) (final : Int) : JogRecord :=
  { j with outcome := some o, final := some final }

/-! ## Commits -/

/-- R150, R153: a commit of a block has found a place: in a busy store it waits, joining an entry of its block; in an
idle store its write has started, with the RAM copy as it stands. The array itself is untouched. -/
def State.tookCommit (s t : State) (b : BlockIx) : Prop :=
  t.store.blocks = s.store.blocks ∧ t.store.spare = s.store.spare ∧
  (s.store.state ≠ .idle →
    t.store.queue = (if b ∈ s.store.queue then s.store.queue else s.store.queue ++ [b]) ∧
    t.store.write = s.store.write ∧ t.store.state = s.store.state) ∧
  (s.store.state = .idle → s.store.queue = [] → s.store.held = [] →
    t.store.queue = [] ∧ t.store.state = .erasing ∧ t.store.eraseTimer = some 60 ∧
    t.store.write = some { block := b, image := t.imageOf b, onSpare := t.onSpare b })

/-! ## A jog that starts -/

/-- R77, R16, R19: a new JOG of an axis in a direction can drive at once: its axis is idle, not HOT and effective, there
is budget, and the end of its travel lies beyond the deadband. -/
abbrev State.jogFree (s : State) (a : Axis) (d : Dir) : Prop :=
  s.isEffective a = true ∧ (s.axis a).hot = false ∧ (s.axis a).motion = .idle ∧
    (a.mirror = true → (s.axis a).sensorFault = false) ∧ demand a ≤ s.budget ∧
    (a.counted = true → (s.axis a).confidence ≠ .lost → (s.stopsOf a).isSome) ∧
    ∀ g, s.jogKind a d = .target g → deadband a < ((s.axis a).position - g).natAbs

/-- R15, R16, R77, R78: a new jog drives from a state into another: its record, its entry and its axis; no other axis has
changed. -/
def State.jogDrives (s t : State) (a : Axis) (d : Dir) : Prop :=
  let u := s.axis a
  let kind := if a.counted = true ∧ u.confidence = .lost then MoveKind.seek d
    else .target (match d with
      | .up => ((if a.counted then s.stopsOf a else none).getD (s.mirrorLimits a)).hi
      | .down => ((if a.counted then s.stopsOf a else none).getD (s.mirrorLimits a)).lo)
  (∃ id : Nat, t.moves = {
    entries := [{ axis := a, cause := .jog, kind := kind, tag := 0, owner := .jog id, state := .driving
                  timeLimit := some (s.timeLimitOf a u.position kind) }]
    jogs := [{ id := id, axis := a, dir := d, from_ := u.position }] }) ∧
  t.axis a = (match kind with
    | .target g => { u.drivenTo a g false with halted := false }
    | .seek d => { u with
      motion := (match d with | .up => .drivingUp | .down => .drivingDown), lastDir := d, drove := true
      cutPoint := none, stallTimer := some 200, halted := false }) ∧
  ∀ b, b ≠ a → t.axis b = s.axis b

/-! ## An operation that ends -/

/-- R137: the result of an operation, from its outcome list and its abort cause. -/
def opResult (es : List OutcomeEntry) (c : Option AbortCause) : OpResult :=
  if c.isSome then .aborted
  else if ∀ x ∈ es, (x.planned = true ∧ x.outcome = some .reached) ∨
      (x.planned = false ∧ (x.outcome = some .absent ∨ x.outcome = some .disabled)) then .complete
  else .partly

/-- R138: the OP_DONE of an operation that closes with an outcome list. -/
def Operation.doneEvent (op : Operation) (es : List OutcomeEntry) (c : Option AbortCause) : Event :=
  .opDone op.kind op.tag (opResult es c) c es

/-- R139: the history record of an operation that closes with an outcome list: one entry for each planned axis. -/
def Operation.recordOf (op : Operation) (es : List OutcomeEntry) (c : Option AbortCause) : HistoryRecord :=
  { tag := op.tag, cause := op.kind.historyCause, port := op.requester, result := opResult es c, abortCause := c
    entries := (es.filter (·.planned)).map fun x =>
      ⟨x.axis, x.from_, x.final.getD x.from_, x.outcome.getD .aborted⟩ }

/-- R106: what the close of an operation leaves of the table and the store, with a driver record in force: a RECALL from
a slot that still holds its driver stamps that slot with its tag and commits it; otherwise neither is touched. -/
def State.stampedBy (s t : State) (op : Operation) (d : ActiveDriver) : Prop :=
  (∀ v i id, op.source = .positions v (some (i, id)) →
    ((s.slot i).record.inUse = true ∧ (s.slot i).record.driver = id →
      s.commitPlace (slotBlock i) = true →
      t.slot i = { storage := .pending, record := { (s.slot i).record with stamp := op.tag } } ∧
      (∀ j, j ≠ i → t.slot j = s.slot j) ∧ t.table.dirty = s.table.dirty ∧ t.table.driver = d ∧
      t.table.dflt = s.table.dflt ∧ t.table.counter = s.table.counter ∧ s.tookCommit t (slotBlock i)) ∧
    (¬((s.slot i).record.inUse = true ∧ (s.slot i).record.driver = id) →
      t.table = { s.table with driver := d } ∧ t.store = s.store)) ∧
  ((∀ v x, op.source ≠ .positions v (some x)) → t.table = { s.table with driver := d } ∧ t.store = s.store)

/-- R106, R138, R139, R146: the active operation has closed with an outcome list: its record is the newest of the ring, an
EXIT that was not aborted has set the return allowance, and a RECALL's slot has its stamp. -/
def State.opCloses (s t : State) (op : Operation) (es : List OutcomeEntry) (c : Option AbortCause) : Prop :=
  t.engine = { s.engine with
    active := none, ring := (op.recordOf es c :: s.engine.ring).take 8
    returnAllowed := s.engine.returnAllowed || (op.kind == .exit && c.isNone) } ∧
  s.stampedBy t op s.table.driver

/-- R134: the outcome list of an operation whose one entry, of an axis, waited when it was aborted: that axis, every
planned axis without an outcome and a column axis whose clearance waits for PHASE_3 are ABORTED where they stand. -/
def State.abortedList (s : State) (op : Operation) (a : Axis) : List OutcomeEntry :=
  op.outcomes.map fun x =>
    if x.axis = a ∨ (x.planned = true ∧ (x.outcome = none ∨
        (x.outcome = some .reached ∧ (x.axis = .rake ∨ x.axis = .reach) ∧ op.stage ≠ .phase3))) then
      { x with
        outcome := some .aborted, final := some (s.axis x.axis).position
        suspect := x.axis.counted && (s.axis x.axis).confidence == .suspect }
    else x

/-- R132: the outcome list after the end of one of the operation's moves, the axis's unit being as it then is; the end of
a backoff changes the final position alone. DEDUCED (log 24): the SUSPECT flag is that of the axis after the ending's own
change of confidence, which a TIMEOUT makes. -/
def Operation.listAfter (op : Operation) (e : MoveEntry) (v : AxisUnit) (o : AxisOutcome) (x : Int) :
    List OutcomeEntry :=
  op.outcomes.map fun y =>
    if y.axis ≠ e.axis then y
    else if e.cause = .backoff then { y with final := some x }
    else { y with outcome := some o, final := some x, suspect := e.axis.counted && v.confidence == .suspect }

/-- R130, R131: a later phase of a RECALL or an UNDO moves the axis of an outcome list entry, if it passes its re-test: a
seat axis in PHASE_2, a column axis in PHASE_3, that has no outcome or has been cleared. -/
abbrev Operation.movesLater (op : Operation) (x : OutcomeEntry) : Prop :=
  (op.kind = .recall ∨ op.kind = .undo) ∧ x.planned = true ∧ (x.outcome = none ∨ x.outcome = some .reached) ∧
    ((op.stage = .phase1 ∧ x.axis.val < 4) ∨ (op.stage ≠ .phase3 ∧ (x.axis = .rake ∨ x.axis = .reach)))

/-- R126, R132, R137 to R139: the active operation's one move has ended, and with it the last of its phases that moves an
axis: the operation has closed, its axis's unit being left as given. -/
def State.lastMoveEnded (s t : State) (op : Operation) (e : MoveEntry) (v : AxisUnit) (es : List OutcomeEntry) : Prop :=
  s.onlyIn t [.ports, .axes, .moves, .engine, .table, .store] ∧
  t.axis e.axis = v ∧ (∀ b, b ≠ e.axis → t.axis b = s.axis b) ∧ t.moves = {} ∧ s.opCloses t op es none ∧
  s.gains t (eventAt (opDonePorts op.requester) (op.doneEvent es none))

/-- R126, R128, R130, R131: the active operation's one move has ended, and the phase of another axis has begun: the axis is
re-tested, its target taken anew, and it drives there. -/
def State.nextPhaseBegun (s t : State) (op : Operation) (e : MoveEntry) (v : AxisUnit) (es : List OutcomeEntry)
    (b : Axis) (g : Int) (clamped : Bool) : Prop :=
  s.onlyIn t [.axes, .moves, .engine] ∧
  t.axis e.axis = v ∧ t.axis b = (s.axis b).drivenTo b g false ∧
  (∀ c, c ≠ e.axis → c ≠ b → t.axis c = s.axis c) ∧
  t.moves = { entries := [{ axis := b, cause := op.kind.cause, kind := .target g, tag := op.tag
                            owner := .operation op.id, state := .driving
                            timeLimit := some (1000 + 2 * (g - (s.axis b).position).natAbs * s.msPerCount b) }] } ∧
  ∃ n : Operation, t.engine = { s.engine with active := some n } ∧ n.id = op.id ∧ n.kind = op.kind ∧ n.tag = op.tag ∧
    n.requester = op.requester ∧ n.source = op.source ∧ n.abortCause = none ∧
    n.stage = (if b.val < 4 then .phase2 else .phase3) ∧ n.progress = op.progress.map (fun _ => 5000) ∧
    n.outcomes = es.map fun y => if y.axis = b then { y with target := some g, clamped := clamped } else y

/-- R126, R130 to R132, R137 to R139: what a command does that ends the one move of the active operation with an outcome
and a final position, leaving the axis's unit as given. Where no later phase has an axis to move, the operation closes
(here with no exit armed and no RETURN to start). Where one axis alone is still to be moved, of a later phase, passes its
re-test and can drive at once, that phase begins. -/
def State.operationGoesOn (s : State) (c : Instr) (op : Operation) (e : MoveEntry) (v : AxisUnit) (o : AxisOutcome)
    (x : Int) : Prop :=
  let es := op.listAfter e v o x
  (s.engine.arm = none → ((s.engine.returnAllowed = false ∧ op.kind ≠ .exit) ∨ s.permitsCause .ret = false) →
    (∀ y ∈ es, y.outcome.isSome ∧ ¬op.movesLater y) →
    ∃ t, exec c s = .next t ∧ s.lastMoveEnded t op e v es) ∧
  (∀ (b : Axis) (g : Int) (clamped : Bool), b ≠ e.axis →
    (∃ y ∈ es, y.axis = b ∧ y.outcome = none) →
    (∀ y ∈ es, (y.axis = b → op.movesLater y) ∧ (y.axis ≠ b → y.outcome.isSome ∧ ¬op.movesLater y)) →
    s.testAxis op.source b = .ok (g, clamped) → (s.axis b).motion = .idle → demand b ≤ s.budget →
    2 < ((s.axis b).position - g).natAbs →
    ∃ t, exec c s = .next t ∧ s.nextPhaseBegun t op e v es b g clamped)

/-! ## Bounds and laws -/

/-- R176: the bounds of a port unit. -/
abbrev PortUnit.bounded (u : PortUnit) : Prop := u.events.length ≤ 16 ∧ u.lost ≤ 255 ∧ u.overrun ≤ 255

/-- R176: every port unit is within its bounds. -/
def State.portsBounded (s : State) : Prop := ∀ p, (s.port p).bounded

/-- R150, R151: at most eight waiting entries; no two entries, waiting or held, of one block; held commits only while
the queue is full. -/
abbrev ProfileStore.queueSound (st : ProfileStore) : Prop :=
  st.queue.length ≤ 8 ∧ (st.queue ++ st.held).Nodup ∧ (st.held ≠ [] → st.queue.length = 8)

/-- R139: the history ring holds up to eight records. -/
abbrev State.ringBounded (s : State) : Prop := s.engine.ring.length ≤ 8

/-- R17: every lead lies in 0..6. -/
abbrev State.leadsInRange (s : State) : Prop := ∀ a, (s.axis a).leadUp ≤ 6 ∧ (s.axis a).leadDown ≤ 6

/-- R83: the freshness timer runs while FRESH and is stopped while STALE, and the safe record is in force while STALE. -/
abbrev Monitor.sound (m : Monitor) : Prop :=
  (m.freshTimer.isSome ↔ m.fresh = true) ∧ (m.fresh = false → m.record = {})

/-- The record of a slot in a profile table. -/
def ProfileTable.record (t : ProfileTable) (i : SlotIx) : SlotRecord := t.slots[i.val].record

/-- R98: no two IN_USE slots hold one driver ID. R103: the dirty list holds the IN_USE slots that are DIRTY, each once.
R101, R98: a KNOWN driver's slot is IN_USE, and no IN_USE slot holds the ID of a NEW or DEFAULT driver. -/
structure ProfileTable.sound (t : ProfileTable) : Prop where
  unique : ∀ i j, (t.record i).inUse = true → (t.record j).inUse = true → (t.record i).driver = (t.record j).driver → i = j
  once : t.dirty.Nodup
  dirty : ∀ i, i ∈ t.dirty ↔ (t.record i).inUse = true ∧ (t.record i).dirty = true
  known : ∀ i, t.driver = .known i → (t.record i).inUse = true
  slotless : ∀ id, t.driver = .new id ∨ t.driver = .dflt id → ∀ i, (t.record i).inUse = true → (t.record i).driver ≠ id

/-- R59: at most one entry per axis. -/
abbrev State.oneEntryPerAxis (s : State) : Prop := (s.moves.entries.map (·.axis)).Nodup

/-- R64: the demands of the DRIVING entries do not exceed the budget. -/
abbrev State.withinBudget (s : State) : Prop := s.drawn ≤ s.budget

/-- R167: outside RUN the move list is empty and no operation is active. -/
abbrev State.stillOutsideRun (s : State) : Prop :=
  s.power.state ≠ .run → s.moves.entries = [] ∧ s.engine.active = none

/-- R168, R172: a snapshot image without the consumed marker is in flight only in PARKING. -/
abbrev State.snapshotInParking (s : State) : Prop :=
  ∀ w, s.store.write = some w → ∀ i, w.image = .snapshot i → i.consumed = false → s.power.state = .parking

/-- The laws that together keep the current within the budget. -/
abbrev State.currentLaws (s : State) : Prop :=
  s.oneEntryPerAxis ∧ s.withinBudget ∧ s.stillOutsideRun ∧ s.snapshotInParking

end Machine

end Sys2Proof
end

