-- ==== Sys2Proof/Certificates/Slice0/Obligations.lean ====
section
/-! DEFINITION. The statements for the provers. -/

open Sys2Proof Sys2Proof.Machine

/-! ## The machine as a whole -/

/-- A step takes the command at the front of the queue and executes it with the queue's rest. -/
def Obligations.StepTakesFront : Prop :=
  ∀ (c : Instr) (rest : List Instr) (s : State), step { s with pending := c :: rest } = exec c { s with pending := rest }

/-- 95_what_each_step_holds.md: every command completes as one step, whatever the state, and leaves the waiting commands
alone. -/
def Obligations.EveryCommandCompletes : Prop :=
  ∀ (c : Instr) (s : State), ∃ t, exec c s = .next t ∧ t.pending = s.pending

/-- 11, section 11.2 and 11.3: a request's frame, parsed at a port that carries it, is that request again, with every
operand; a WRITE_CALIBRATION carries at most ten entries. -/
def Obligations.RequestFrameRoundTrip : Prop :=
  ∀ (p : Port) (r : Request), codeCarriedAt r.code.toNat p = true →
    (∀ y es, r = .writeCalibration y es → es.length ≤ 10) → Request.parse p r.frame = .request r

/-- The model's choice (log 12): a request command is the whole WRITE_REQUEST of its frame, in every state. -/
def Obligations.RequestCommandIsItsWrite : Prop :=
  ∀ (c : Instr) (p : Port) (r : Request) (s : State), c.request = some (p, r) →
    exec c s = exec (.writeRequest p r.frame) s

/-! ## Laws that every step keeps -/

/-- 10, section 10.1: the bounds of event queues and counts. -/
def Obligations.PortBoundsKept : Prop :=
  ∀ s t : State, s.portsBounded → step s = .next t → t.portsBounded

/-- 08, section 8.2: the commit queue's bound, one entry a block, held commits only behind a full queue. -/
def Obligations.CommitQueueKept : Prop :=
  ∀ s t : State, s.store.queueSound → step s = .next t → t.store.queueSound

/-- 07, 01, 05 and 06: the ring holds at most eight records; the leads stay in 0..6; the freshness timer runs exactly while
FRESH, with the safe record in force while STALE; no two IN_USE slots hold one driver ID, the dirty list holds exactly the
IN_USE slots that are DIRTY, each once, a KNOWN driver's slot is IN_USE, and a NEW or DEFAULT driver has no slot. -/
def Obligations.RingLeadsMonitorAndTableKept : Prop :=
  ∀ s t : State, s.ringBounded ∧ s.leadsInRange ∧ s.monitor.sound ∧ s.table.sound → step s = .next t →
    t.ringBounded ∧ t.leadsInRange ∧ t.monitor.sound ∧ t.table.sound

/-- 04 and 09: the current law. At most one entry an axis, the DRIVING demands within the budget, nothing on the list
outside RUN, an unconsumed snapshot in flight only in PARKING. -/
def Obligations.BudgetNeverExceeded : Prop :=
  ∀ s t : State, s.currentLaws → step s = .next t → t.currentLaws

/-- 01, 04 to 09: the state after reset, the power-on of a part whose blocks are BLANK (the model's choice, log 3; the
mirrors' raw value is log 4), obeys every law of this section and holds the power-on values. That PROFILE_LOSS lists the
slots in ascending index is the model's choice (log 50). -/
def Obligations.ResetObeysTheLaws : Prop :=
  let s := State.reset
  (s.portsBounded ∧ s.store.queueSound ∧ s.ringBounded ∧ s.leadsInRange ∧ s.monitor.sound ∧ s.table.sound ∧
    s.currentLaws) ∧
  (∀ a, (s.axis a).motion = .idle ∧ (s.axis a).lastDir = .up ∧ (s.axis a).position = 0 ∧ (s.axis a).confidence = .lost ∧
    (s.axis a).halted = false ∧ (s.axis a).hot = false ∧ (s.axis a).heat = 0 ∧ (s.axis a).leadUp = 0 ∧
    (s.axis a).leadDown = 0 ∧ (s.axis a).travel = 0 ∧ (s.axis a).runTime = 0 ∧ (s.axis a).sensorFault = a.mirror) ∧
  s.monitor = { fresh := false, record := ⟨.moving, .drive, .run, .closed, .low⟩, freshTimer := none, lastIgnition := none } ∧
  s.moves = {} ∧ s.engine = { active := none, closing := [], arm := none, returnAllowed := false, ring := [] } ∧
  (∀ i, (s.slot i).record.inUse = false ∧ (s.slot i).storage = .stored) ∧ s.table.dflt = none ∧
  s.table.driver = .nobody ∧ s.table.dirty = [] ∧ s.table.counter = 1 ∧ s.van.commissioned = false ∧
  s.store.state = .idle ∧ s.store.write = none ∧ s.store.queue = [] ∧ s.store.held = [] ∧ s.store.spare = none ∧
  s.store.lastResult = none ∧ s.power = { state := .run, snapshot := .consumed } ∧
  s.ports = {
    vehicle := { events := [.powerState .run .consumed .powerOn false] }
    fleet := { events := [.profileLoss (List.finRange 48) true true] } }

/-! ## Transactions -/

/-- 09, sections 9.4 and 9.5: a wake cause in each power state: the door wake edge, and header byte 51, which is also noted for
the port's running transaction. The first cause is kept. The model's choices: the header is a command of its own (log 36),
and at WAKING a mirror's interval timer restarts as the heat timers do (log 26). -/
def Obligations.WakeCausesAct : Prop :=
  ∀ (s : State) (p : Port), s.powered = true →
    let noted := s.setPort p { s.port p with selected := some { s.selected p with header := true } }
    ∀ (c : Instr) (w : WakeCause) (u : State),
      (c = .doorWakeEdge ∧ w = .door ∧ u = s) ∨ (c = .writeRequestHeader p ∧ w = .port p ∧ u = noted) →
      (s.power.state = .run ∨ s.power.state = .waking → exec c s = .next u) ∧
      (s.power.state = .parking → exec c s = .next { u with power := { s.power with
          wakePending := true, wakeCause := s.power.wakeCause.or (some w) } }) ∧
      (s.power.state = .park → ∃ t, exec c s = .next t ∧ u.onlyIn t [.power, .monitor, .axes] ∧
        t.power = { s.power with state := .waking, wakePending := false, settleTimer := some 40
                                 wakeCause := s.power.wakeCause.or (some w) } ∧
        t.monitor = {} ∧
        ∀ a, t.axis a = { s.axis a with intervalTimer := some 100, drove := false })

/-- 10, section 10.2: a WRITE_REQUEST that cannot be taken yet: its frame, kept to 100 bytes and marked where more were
received, waits in the empty request buffer, or is dropped and counted. -/
def Obligations.WriteRequestHeldOrDropped : Prop :=
  ∀ (s : State) (p : Port) (frame : List Byte), s.powered = true →
    (s.power.state = .run ∧ (s.port p).response.isSome) ∨ s.power.state = .waking →
    ((s.port p).request = none →
      exec (.writeRequest p frame) s = .next (s.setPort p { s.port p with
        request := some { bytes := frame.take 100, overlong := decide (100 < frame.length) }
        selected := none, dataOut := List.replicate frame.length 0 })) ∧
    ((s.port p).request.isSome →
      exec (.writeRequest p frame) s = .next (s.setPort p { s.port p with
        overrun := min ((s.port p).overrun + 1) 255, selected := none, dataOut := List.replicate frame.length 0 }))

/-- 10, section 10.3: the checks of a frame taken, in order, and the answer of the first that fails. A frame of more than
100 bytes, or of another length than its length byte gives, is BAD_FRAME. That a whole frame of 95 to 100 bytes, longer than
any request, goes through the same order of checks is the model's choice (log 42). -/
def Obligations.WriteRequestChecks : Prop :=
  ∀ (s : State) (p : Port) (len code : Byte) (body : List Byte), s.ready p →
    let frame := len :: code :: body
    let answer := fun (c : RespCode) => State.setPort s p { s.port p with
      response := some { request := code, code := c }, selected := none, dataOut := List.replicate frame.length 0 }
    (len.toNat ≠ frame.length ∨ 100 < frame.length → exec (.writeRequest p frame) s = .next (answer .badFrame)) ∧
    (len.toNat = frame.length → frame.length ≤ 100 →
      (code = 0 ∨ 27 < code.toNat → exec (.writeRequest p frame) s = .next (answer .unknownRequest)) ∧
      (1 ≤ code.toNat ∧ code.toNat ≤ 27 →
        (codeCarriedAt code.toNat p = false → exec (.writeRequest p frame) s = .next (answer .wrongPort)) ∧
        (codeCarriedAt code.toNat p = true → decBody code.toNat body = none →
          exec (.writeRequest p frame) s = .next (answer .badFrame))))

/-- 10, section 10.3: READ_RESPONSE. A read in which the whole frame was clocked out empties the response buffer, and a
waiting request is then taken; a read ended early changes nothing but the data output; an empty buffer returns a frame
marked none. -/
def Obligations.ReadResponseCompletes : Prop :=
  ∀ (s : State) (p : Port) (n : Nat) (x : Selected), s.powered = true → (s.port p).selected = some x →
    x.emptied = false →
    (x.response = none → exec (.readResponse p n) s = .next (s.setPort p { s.port p with
        selected := none, dataOut := List.replicate n 0 })) ∧
    (∀ r, x.response = some r → r.frame.length ≤ 255 →
      (n < r.frame.length → exec (.readResponse p n) s = .next (s.setPort p { s.port p with
          selected := none, dataOut := r.frame.take n })) ∧
      (r.frame.length ≤ n →
        let out := r.frame ++ List.replicate (n - r.frame.length) 0
        ((s.port p).request = none → exec (.readResponse p n) s = .next (s.setPort p { s.port p with
            response := none, selected := none, dataOut := out })) ∧
        (∀ f, (s.port p).request = some f → s.power.state = .run →
          exec (.readResponse p n) s = .next ((s.setPort p { s.port p with
            request := none, response := none, selected := none, dataOut := out }).answerFrame p f))))

/-- 10, section 10.6: READ_EVENT: the oldest event leaves the queue when its whole frame was clocked out; a read ended
early changes nothing but the data output, and an empty queue returns a frame marked none. -/
def Obligations.ReadEventCompletes : Prop :=
  ∀ (s : State) (p : Port) (n : Nat) (x : Selected), s.powered = true → (s.port p).selected = some x →
    x.emptied = false →
    (x.event = none → exec (.readEvent p n) s = .next (s.setPort p { s.port p with
        selected := none, dataOut := List.replicate n 0 })) ∧
    (∀ e rest, x.event = some e → (s.port p).events = e :: rest → e.frame.length ≤ 255 →
      (n < e.frame.length → exec (.readEvent p n) s = .next (s.setPort p { s.port p with
          selected := none, dataOut := e.frame.take n })) ∧
      (e.frame.length ≤ n → exec (.readEvent p n) s = .next (s.setPort p { s.port p with
          events := rest, selected := none, dataOut := e.frame ++ List.replicate (n - e.frame.length) 0 })))

/-- R185: READ_PORT_STATUS, in every power state. The assertion of the chip select fixes the status as it then stands;
whatever happens at the part while that transaction runs, its completion returns the six bytes so fixed and reduces each
count by the value returned, with a floor of 0; one ended early reduces nothing. Buffers, queue and attention output stay. -/
def Obligations.ReadPortStatusReturnsTheStatus : Prop :=
  ∀ (s : State) (p : Port), s.powered = true →
    ∃ (t : State) (x : Selected), exec (.chipSelectAsserted p) s = .next t ∧ (t.port p).selected = some x ∧
      ∀ (u : State) (n : Nat), u.powered = true → (∃ y, (u.port p).selected = some y ∧ y.status = x.status) →
        let before := s.port p
        let now := u.port p
        let bytes := [
          BitVec.ofNat 8 ((if before.request.isSome then 1 else 0) + (if before.response.isSome then 2 else 0)),
          BitVec.ofNat 8 before.events.length, BitVec.ofNat 8 before.lost, BitVec.ofNat 8 before.overrun,
          (match s.power.state with | .run => 0 | .parking => 1 | .park => 2 | .waking => 3), 0]
        exec (.readPortStatus p n) u = .next (u.setPort p { now with
          selected := none, dataOut := (bytes ++ List.replicate n 0).take n
          lost := if 6 ≤ n then now.lost - before.lost else now.lost
          overrun := if 6 ≤ n then now.overrun - before.overrun else now.overrun })

/-- 10, section 10.2, 11, section 11.1: the assertion of a chip select fixes what a read will return, in every power state.
The header bytes 51 to 54 name the four transactions; a transaction with any other returns filler and changes no state.
That a DISREGARDED_TRANSACTION given with a header byte of 51 to 54 is the transaction that byte names, the master sending
00, is the model's choice (log 31). -/
def Obligations.SelectionFixedAndFillerReturned : Prop :=
  ∀ (s : State) (p : Port) (h : Byte) (n : Nat), s.powered = true →
    exec (.chipSelectAsserted p) s = .next (s.setPort p { s.port p with selected := some {
      response := (s.port p).response, event := (s.port p).events.head?
      status := { requestFull := (s.port p).request.isSome, responseReady := (s.port p).response.isSome
                  events := (s.port p).events.length, lost := (s.port p).lost, overrun := (s.port p).overrun
                  power := s.power.state } } }) ∧
    decHeader h = (if h = 0x51 then some .writeRequest else if h = 0x52 then some .readResponse
      else if h = 0x53 then some .readEvent else if h = 0x54 then some .readPortStatus else none) ∧
    exec (.disregardedTransaction p h n) s =
      (if h = 0x51 then exec (.writeRequest p (List.replicate n 0)) s
       else if h = 0x52 then exec (.readResponse p n) s
       else if h = 0x53 then exec (.readEvent p n) s
       else if h = 0x54 then exec (.readPortStatus p n) s
       else .next (s.setPort p { s.port p with selected := none, dataOut := List.replicate n 0 }))

/-! ## The vehicle state monitor -/

/-- 05, section 5.2: whatever the part is doing, a VEHICLE_STATE replaces the record with the decoded report, makes the
monitor FRESH, restarts its timer and notes the ignition; it is answered OK with the CLAMPED flag, the budget and the
permission set then in force. -/
def Obligations.VehicleStateApplied : Prop :=
  ∀ (s : State) (speed gear ignition door supply : Byte), s.ready .vehicle →
    let r := (decReport speed gear ignition door supply).1
    ∃ t, exec (.vehicleState speed gear ignition door supply) s = .next t ∧
      t.monitor = { fresh := true, record := r, freshTimer := some 500, lastIgnition := some r.ignition } ∧
      (t.port .vehicle).response = some {
        request := 1, code := .ok, clamped := (decReport speed gear ignition door supply).2
        fields := enc8 (budgetOf true r) ++ enc16 (permissionMask (permittedOf true r)) } ∧
      (t.port .vehicle).request = none ∧ t.power = s.power ∧ t.fitted = s.fitted ∧ t.powered = s.powered

/-- 05: with no move, no operation, no armed exit and no return allowed, a VEHICLE_STATE changes the monitor and answers;
VEHICLE_FRESH is raised at the vehicle and panel ports where the monitor was STALE, and nothing else changes. -/
def Obligations.VehicleStateOfAQuietPart : Prop :=
  ∀ (s : State) (speed gear ignition door supply : Byte), s.ready .vehicle → s.quiet → s.engine.arm = none →
    s.engine.returnAllowed = false →
    let r := (decReport speed gear ignition door supply).1
    let clamped := (decReport speed gear ignition door supply).2
    ∃ t, exec (.vehicleState speed gear ignition door supply) s = .next t ∧ s.onlyIn t [.ports, .monitor] ∧
      t.monitor = { fresh := true, record := r, freshTimer := some 500, lastIgnition := some r.ignition } ∧
      s.answersWith t .vehicle (.vehicleState speed gear ignition door supply)
        { code := .ok, clamped := clamped, fields := enc8 (budgetOf true r) ++ enc16 (permissionMask (permittedOf true r)) }
        (if s.monitor.fresh then noEvents
         else eventAt [.vehicle, .panel] (.vehicleFresh r clamped (budgetOf true r) (permittedOf true r)))

/-- 04, section 4.5: a report of CRANK under one driving jog revokes it, and nothing is granted: the motor is cut; the entry
of a counted axis settles to RESUME, a mirror's returns to WAITING at the cut. -/
def Obligations.CrankRevokesTheDrive : Prop :=
  ∀ (s : State) (e : MoveEntry) (j : JogRecord) (speed gear door supply : Byte), s.ready .vehicle → s.oneDrive e j →
    s.engine.arm = none → s.engine.returnAllowed = false → s.monitor.fresh = true → 0 < s.budget →
    ∃ t, exec (.vehicleState speed gear 3 door supply) s = .next t ∧ s.onlyIn t [.ports, .monitor, .axes, .moves] ∧
      (∀ a, a ≠ e.axis → t.axis a = s.axis a) ∧
      (e.axis.counted = true → t.axis e.axis = (s.axis e.axis).coasting ∧
        t.moves = { entries := [e.settles .resume], jogs := [j] }) ∧
      (e.axis.mirror = true → t.axis e.axis = (s.axis e.axis).stopped ∧
        t.moves = { entries := [{ e with state := .waiting, timeLimit := none }], jogs := [j] })

/-- 05, section 5.3: the freshness timer's expiry makes a quiet part's monitor STALE with the safe record, keeps the last
ignition and raises VEHICLE_STALE at the vehicle and panel ports; a stopped timer's expiry changes nothing (log 1). -/
def Obligations.FreshnessExpiryMakesStale : Prop :=
  ∀ (s : State), s.powered = true →
    (s.monitor.freshTimer = none → exec .freshnessExpiry s = .next s) ∧
    (s.monitor.freshTimer.isSome → s.quiet → s.engine.arm = none → s.engine.returnAllowed = false →
      ∃ t, exec .freshnessExpiry s = .next t ∧ s.onlyIn t [.ports, .monitor] ∧
        t.monitor = { fresh := false, record := {}, freshTimer := none, lastIgnition := s.monitor.lastIgnition } ∧
        s.gains t (eventAt [.vehicle, .panel] .vehicleStale))

/-! ## Power -/

/-- 09, sections 9.2 and 9.3: PARK is refused with BUSY, and changes nothing, while an entry, an operation, a commit or a
write is there. PARK of a part at rest enters PARKING, is answered OK with the power state, and starts the snapshot write
of the axis units as they stand; a counted axis that coasts makes the commit wait instead. An armed exit is disarmed, with
EXIT_STATE at the vehicle and panel ports. Every jog record that PARK leaves is CLOSING (that one whose entry still coasts
stays until the coast end is the model's reading, log 41). -/
def Obligations.ParkEntersParking : Prop :=
  ∀ (s : State), s.ready .vehicle →
    ((s.moves.entries ≠ [] ∨ s.engine.active ≠ none ∨ s.engine.closing ≠ [] ∨ s.store.queue ≠ [] ∨ s.store.held ≠ [] ∨
       s.store.write ≠ none) →
     exec .park s = .next (s.answered .vehicle .park { code := .busy })) ∧
    (s.quiet → s.store.queue = [] → s.store.held = [] → s.store.write = none → s.store.state = .idle →
      ∃ t, exec .park s = .next t ∧ s.onlyIn t [.ports, .store, .power, .engine] ∧
        t.engine = { s.engine with arm := none } ∧
        s.answersWith t .vehicle .park { code := .ok, fields := [1] }
          (if s.engine.arm = none then noEvents
           else eventAt [.vehicle, .panel] (.exitState .disarmed 0 (some .park) 0)) ∧
        ((∀ a, a.counted = true → (s.axis a).motion ≠ .coasting) →
          t.power = { s.power with state := .parking, wakePending := false, wakeCause := none } ∧
          t.store.state = .erasing ∧ t.store.snapState = .pending ∧
          ∃ x, t.store.write = some { block := 50, image := .snapshot x, onSpare := false } ∧ x.consumed = false ∧
            (∀ a : Fin 6, x.counts[a] = ((s.axes[a.val]).position, (s.axes[a.val]).confidence, (s.axes[a.val]).heat)) ∧
            (∀ a : Axis, x.wear[a] = ((s.axis a).travel, (s.axis a).runTime))) ∧
        ((∃ a, a.counted = true ∧ (s.axis a).motion = .coasting) →
          t.power = { s.power with state := .parking, wakePending := false, wakeCause := none, coastWait := true } ∧
          t.store = s.store)) ∧
    (s.moves.entries = [] → s.engine.active = none → s.engine.closing = [] → s.store.queue = [] → s.store.held = [] →
      s.store.write = none →
      ∃ t, exec .park s = .next t ∧ t.power.state = .parking ∧ t.moves.entries = [] ∧
        ∀ r ∈ t.moves.jogs, r.closing = true)

/-- 09, sections 9.3 and 9.5: the end of a snapshot write in PARKING and of a consume write in RUN, each raised in
POWER_STATE. A snapshot write that reads back equal makes the condition LIVE, and the part enters PARK, or WAKING where a
wake is pending; one whose third attempt fails makes it UNCERTAIN and the part returns to RUN. A consume write makes it
CONSUMED, or UNCERTAIN. The model's readings, on the way from PARKING straight to WAKING: the monitor is STALE (log 39),
the interval timers of the mirrors restart (log 26), and the interval then running counts as not driving (log 49). -/
def Obligations.SnapshotAndConsumeWritesEnd : Prop :=
  ∀ (s : State) (w : Write) (x : Snapshot), s.powered = true → s.store.write = some w → w.block = 50 →
    w.image = .snapshot x → w.onSpare = false → s.store.queue = [] → s.store.held = [] →
    let ends := fun (t : State) (r : StoreResult) (after : Storage) =>
      t.store.state = .idle ∧ t.store.write = none ∧ t.store.snapState = after ∧
        t.store.lastResult = some ⟨50, r, w.attempt⟩ ∧ (∀ b : PhysIx, b ≠ 50 → t.store.blocks[b] = s.store.blocks[b])
    let events := fun (t : State) (told : List Event) (r : StoreResult) (last : Option FailKind) (after : Storage) =>
      s.gains t fun p => match p with
        | .vehicle => told
        | .fleet | .panel => [.storeResult 50 r w.attempt last false after]
    (s.power.state = .parking → x.consumed = false →
      (s.store.state = .programming →
        ∃ t, exec (.programComplete true false) s = .next t ∧ s.onlyIn t [.ports, .monitor, .axes, .store, .power] ∧
          t.store.blocks[50] = .valid (.snapshot x) ∧ ends t .ok .stored ∧ t.monitor = {} ∧
          (s.power.wakePending = false →
            t.power = { s.power with state := .park, snapshot := .live } ∧
            (∀ a, t.axis a = { s.axis a with intervalTimer := none, drove := false }) ∧
            events t [.powerState .park .live .parked false] .ok w.lastFailure .stored) ∧
          (s.power.wakePending = true →
            t.power = { s.power with state := .waking, snapshot := .live, wakePending := false, settleTimer := some 40 } ∧
            (∀ a, t.axis a = { s.axis a with intervalTimer := some 100, drove := false }) ∧
            events t [] .ok w.lastFailure .stored)) ∧
      (∀ c k, s.fails c k → 3 ≤ w.onTarget →
        ∃ t, exec c s = .next t ∧ s.onlyIn t [.ports, .store, .power, .model] ∧
          t.power = { s.power with state := .run, snapshot := .uncertain, wakePending := false } ∧
          ends t .retryExceeded .failed ∧
          events t [.powerState .run .uncertain .snapshotFailed false] .retryExceeded (some k) .failed)) ∧
    (s.power.state = .run → x.consumed = true →
      (s.store.state = .programming →
        ∃ t, exec (.programComplete true false) s = .next t ∧ s.onlyIn t [.ports, .store, .power] ∧
          t.store.blocks[50] = .valid (.snapshot x) ∧ ends t .ok .stored ∧
          t.power = { s.power with snapshot := .consumed } ∧
          events t [.powerState .run .consumed .consumeOk false] .ok w.lastFailure .stored) ∧
      (∀ c k, s.fails c k → 3 ≤ w.onTarget →
        ∃ t, exec c s = .next t ∧ s.onlyIn t [.ports, .store, .power, .model] ∧
          t.power = { s.power with snapshot := .uncertain } ∧ ends t .retryExceeded .failed ∧
          events t [.powerState .run .uncertain .consumeFailed false] .retryExceeded (some k) .failed))

/-- 09, section 9.5: the settle timer's expiry ends WAKING, here with no request held in a request buffer: RUN, every axis
IDLE in a new IDLE period, the monitor STALE, the consume write started, POWER_STATE with the wake cause raised at the
vehicle port. A WAKING without a wake cause, which no run reaches, reports DOOR: the model's choice (log 27). -/
def Obligations.SettleExpiryEndsWaking : Prop :=
  ∀ (s : State), s.powered = true → s.power.state = .waking → s.power.settleTimer.isSome →
    s.store.state = .idle → s.store.queue = [] → s.store.held = [] → (∀ p, (s.port p).request = none) →
    ∃ t, exec .settleExpiry s = .next t ∧ s.onlyIn t [.ports, .monitor, .axes, .store, .power] ∧
      t.power = { s.power with state := .run, settleTimer := none } ∧ t.monitor = {} ∧
      (∀ a, t.axis a = { s.axis a with motion := .idle, strayRaised := false }) ∧
      t.store.state = .erasing ∧ t.store.snapState = .pending ∧
      (∃ x, t.store.write = some { block := 50, image := .snapshot x, onSpare := false } ∧ x.consumed = true) ∧
      s.gains t (eventAt [.vehicle] (.powerState .run s.power.snapshot
        (match s.power.wakeCause with
          | some (.port .vehicle) => .port .vehicle
          | some (.port .fleet) => .port .fleet
          | some (.port .panel) => .port .panel
          | some .door | none => .door) false))

/-- 08, section 8.7, 06, section 6.13 and 09, section 9.6: supply applied to a part. Over blocks all BLANK: the reset state,
with the axes fitted whose strap reads low. Over any blocks: the spare is judged first; each slot takes its record from the
spare that names it or else from its home block, and is EMPTY where that block fails its check; of slots that hold one
driver ID the lowest is kept; the dirty list, the default profile, the operation counter and the van record are rebuilt,
and PROFILE_LOSS tells what failed. Without a VALID, unconsumed snapshot every axis unit starts afresh; with one, and a
VALID van record, the condition is LIVE, the counted axes take their counts, confidences, heat and wear from the image, the
mirrors their wear, and the consume write starts. The model's choices: what reset is (log 3), the values that the spec does
not give to a mirror's raw value (log 4), to other axis items (log 5) and to the fields of an EMPTY slot (log 6), that a
slot whose driver a lower slot holds keeps its other fields as loaded (log 48), that the counter looks at the slots
kept (log 33), and that PROFILE_LOSS lists the slots in ascending index (log 50). -/
def Obligations.PowerOnLoadsTheBlocks : Prop :=
  ∀ (s : State) (straps : BitVec 10), s.powered = false →
    ((∀ i : PhysIx, s.store.blocks[i] = .blank) →
      exec (.powerOn straps []) s = .next { State.reset with
        fitted := ~~~straps, van := { enable := ~~~straps }, model := s.model, pending := s.pending }) ∧
    (∀ (decayed : List PhysIx),
      let block := fun (b : PhysIx) => if b ∈ decayed then Block.corrupt else s.store.blocks[b]
      let spare : Option (SlotIx × SlotRecord) := match block 51 with | .valid (.slot i r) => some (i, r) | _ => none
      let home : SlotIx → Option SlotRecord := fun i => match block (homeBlock (slotBlock i)) with
        | .valid (.slot j r) => if j = i then some r else none
        | _ => none
      let found : SlotIx → Option SlotRecord := fun i => match spare with
        | some (j, r) => if j = i then some r else home i
        | none => home i
      let shadowed := fun (i : SlotIx) (r : SlotRecord) => r.inUse = true ∧
        ∃ j, j < i ∧ ∃ q, found j = some q ∧ q.inUse = true ∧ q.driver = r.driver
      let lost := allSlots.filter fun i => (found i).isNone
      let noDflt := match block 48 with | .valid (.dflt _) => false | _ => true
      let noVan := match block 49 with | .valid (.van _) => false | _ => true
      ∃ t, exec (.powerOn straps decayed) s = .next t ∧ t.powered = true ∧ t.fitted = ~~~straps ∧ t.monitor = {} ∧
        t.moves = {} ∧ t.engine = {} ∧ t.power.state = .run ∧
        (∀ b, t.store.blocks[b] = block b) ∧ t.store.spare = spare.map (·.1) ∧
        (∀ i, (t.slot i).storage = .stored) ∧
        (∀ i, found i = none → (t.slot i).record = {}) ∧
        (∀ i r, found i = some r → ¬shadowed i r → (t.slot i).record = r) ∧
        (∀ i r, found i = some r → shadowed i r →
          (t.slot i).record = { r with inUse := false, pinned := false, dirty := false }) ∧
        t.table.dirty.Pairwise (· < ·) ∧
        (∀ i, i ∈ t.table.dirty ↔ (t.slot i).record.inUse = true ∧ (t.slot i).record.dirty = true) ∧
        t.table.dflt = (match block 48 with | .valid (.dflt p) => p | _ => none) ∧
        t.table.driver = .nobody ∧
        (∀ i, (t.slot i).record.inUse = true → min ((t.slot i).record.stamp + 1) 4294967295 ≤ t.table.counter) ∧
        (t.table.counter = 1 ∨ ∃ i, (t.slot i).record.inUse = true ∧
          t.table.counter = min ((t.slot i).record.stamp + 1) 4294967295) ∧
        t.van = (match block 49 with | .valid (.van v) => v | _ => { enable := ~~~straps }) ∧
        t.port .fleet = { events :=
          if lost = [] ∧ noDflt = false ∧ noVan = false then [] else [.profileLoss lost noDflt noVan] } ∧
        t.port .panel = {} ∧
        ((∀ x, block 50 = .valid (.snapshot x) → x.consumed = true) →
          t.power = { state := .run, snapshot := .consumed } ∧
          t.port .vehicle = { events := [.powerState .run .consumed .powerOn false] } ∧
          (∀ a : Axis, t.axis a = { sensorFault := a.mirror }) ∧
          t.store.state = .idle ∧ t.store.write = none ∧ t.store.queue = [] ∧ t.store.lastResult = none)) ∧
    (∀ (decayed : List PhysIx) (x : Snapshot) (v : VanRecord),
      s.store.blocks[50] = .valid (.snapshot x) → x.consumed = false → s.store.blocks[49] = .valid (.van v) →
      (50 : PhysIx) ∉ decayed → (49 : PhysIx) ∉ decayed →
      ∃ t, exec (.powerOn straps decayed) s = .next t ∧ t.powered = true ∧ t.van = v ∧
        t.power = { state := .run, snapshot := .live } ∧
        t.port .vehicle = { events := [.powerState .run .live .powerOn true] } ∧
        (∀ i : Fin 6,
          (t.axes[i.val]).position = (x.counts[i]).1 ∧ (t.axes[i.val]).heat = (x.counts[i]).2.2 ∧
          (t.axes[i.val]).hot = decide (360 ≤ (x.counts[i]).2.2) ∧
          (t.axes[i.val]).confidence = (if (v.stops[i]).isSome then (x.counts[i]).2.1 else .lost)) ∧
        (∀ a : Axis, (t.axis a).travel = (x.wear[a]).1 ∧ (t.axis a).runTime = (x.wear[a]).2 ∧
          (t.axis a).motion = .idle ∧ (t.axis a).halted = false ∧ (t.axis a).sensorFault = a.mirror) ∧
        t.store.state = .erasing ∧
        ∃ y, t.store.write = some { block := 50, image := .snapshot y, onSpare := false } ∧ y.consumed = true)

/-- 08, section 8.7: loss of supply ends any write without a result and loses all RAM; the blocks stay, but for the block
under write: an erase or program cut short leaves it CORRUPT, one that completed leaves it BLANK or with the new image, and
a loss between attempts leaves it as the failed attempt did. Which of these it was is an operand of the command, and a loss
given as between attempts where there is no attempt before, or in a program, cuts the attempt short (log 10). -/
def Obligations.SupplyLossKeepsTheBlocks : Prop :=
  ∀ (s : State) (torn : TornAs), s.powered = true →
    ∃ t, exec (.supplyLoss torn) s = .next t ∧ t.powered = false ∧ t.store.write = none ∧ t.store.queue = [] ∧
      t.pending = s.pending ∧
      (s.store.write = none → t.store.blocks = s.store.blocks) ∧
      ∀ w, s.store.write = some w → s.store.state ≠ .idle →
        (∀ i : PhysIx, i ≠ w.target → t.store.blocks[i] = s.store.blocks[i]) ∧
        t.store.blocks[w.target] = (match torn with
          | .cutShort => .corrupt
          | .completed => if s.store.state = .erasing then .blank else .valid w.image
          | .betweenAttempts =>
            if s.store.state = .erasing ∧ 1 < w.attempt then s.store.blocks[w.target] else .corrupt)

/-- 10, section 10.8: DEVICE_RESET. Every other port's buffers and every event queue and count is emptied; motors are cut
and HALTED cleared; the move list, the monitor, the engine and the active driver return to their first state; the van
record, the profiles, the store and the power state stay. The model's choice: the confidence of an axis under a NORMALISE
stays as it stands, R24 being taken over R9 (log 44). -/
def Obligations.DeviceResetActs : Prop :=
  ∀ (s : State), s.ready .vehicle →
    ∃ t, exec .deviceReset s = .next t ∧ s.onlyIn t [.ports, .axes, .moves, .monitor, .table, .engine] ∧
      t.moves = {} ∧ t.monitor = {} ∧ t.engine = {} ∧ t.table = { s.table with driver := .nobody } ∧
      t.ports = {
        vehicle := { response := some { request := 3, code := .ok }, dataOut := [0, 0] }
        fleet := { selected := (s.port .fleet).selected.map fun x => { x with emptied := true }
                   dataOut := (s.port .fleet).dataOut }
        panel := { selected := (s.port .panel).selected.map fun x => { x with emptied := true }
                   dataOut := (s.port .panel).dataOut } } ∧
      ∀ a, t.axis a =
        if (s.axis a).driving then
          { (if a.counted then (s.axis a).coasting else (s.axis a).stopped) with halted := false }
        else { s.axis a with halted := false }

/-! ## The driver and the profiles -/

/-- 06, section 6.7: an assignment: the new record is KNOWN, DEFAULT or NEW by where the ID is found, the exit is disarmed,
the return allowance cleared, DRIVER_CHANGED raised at every port. On a quiet part it starts no recall where the flag is
clear or a condition of the automatic recall fails; where they all hold, the recall starts in the same action, here with
one axis to move. An operation that is active is aborted first, here one whose one entry waits, and a RECALL's slot takes
its stamp. The model's choices: the flag
is bit 0 of the flags byte (log 34), and an OK answer carries 0 in place of the tag (log 15). -/
def Obligations.AssignDriverSetsTheDriver : Prop :=
  ∀ (s : State) (id : BitVec 32) (flags : Byte), s.ready .fleet → id ≠ 0 → id ≠ 0xFFFFFFFF →
    let c := Instr.assignDriver id flags
    let r := Request.assignDriver id flags
    let d := match s.findSlot id.toNat with
      | some i => ActiveDriver.known i
      | none => if s.van.recallDefault = true ∧ s.table.dflt.isSome then .dflt id.toNat else .new id.toNat
    let noRecall := flags.getLsbD 0 = false ∨ s.van.commissioned = false ∨ s.permitsCause .recall = false ∨
      (s.van.doorOpenOnly = true ∧ s.monitor.record.door = .closed) ∨ d = .new id.toNat
    let okReply : Reply :=
      { code := .ok, recallNotStarted := flags.getLsbD 0, fields := [0, 0, 0, 0] ++ driverFields d id.toNat }
    let disarmed : Port → List Event := fun p =>
      if s.engine.arm.isSome ∧ p ≠ .fleet then [.exitState .disarmed 0 (some .assign) 0] else []
    (s.quiet → noRecall →
      ∃ t, exec c s = .next t ∧ s.onlyIn t [.ports, .table, .engine] ∧ t.table = { s.table with driver := d } ∧
        t.engine = { s.engine with arm := none, returnAllowed := false } ∧
        s.answersWith t .fleet r okReply fun p => disarmed p ++ [.driverChanged d id.toNat]) ∧
    (∀ (i : SlotIx) (a : Axis) (g : Int), s.quiet → s.findSlot id.toNat = some i → flags.getLsbD 0 = true →
      s.van.commissioned = true → s.permitsCause .recall = true →
      (s.van.doorOpenOnly = false ∨ s.monitor.record.door = .opened) →
      let src := Source.positions (s.slot i).record.profile.positions (some (i, id.toNat))
      s.oneMove src a g →
      ∃ (t : State) (op : Operation), exec c s = .next t ∧
        s.onlyIn t [.ports, .axes, .moves, .engine, .table, .model] ∧
        t.table = { s.table with driver := d, counter := min (s.table.counter + 1) 4294967295 } ∧
        t.engine = { s.engine with active := some op, arm := none, returnAllowed := false } ∧
        op.kind = .recall ∧ op.tag = s.table.counter ∧ op.requester = .fleet ∧ op.source = src ∧
        op.stage = firstPhase a (s.axis a).position g ∧ op.outcomes = allAxes.map (s.planAxis src) ∧
        t.moves = { entries := [{ axis := a, cause := .recall, kind := .target g, tag := s.table.counter
                                  owner := .operation op.id, state := .driving
                                  timeLimit := some (1000 + 2 * (g - (s.axis a).position).natAbs * s.msPerCount a) }] } ∧
        t.axis a = (s.axis a).drivenTo a g false ∧ (∀ b, b ≠ a → t.axis b = s.axis b) ∧
        s.answersWith t .fleet r
          { code := .accepted, fields := encNat32 s.table.counter ++ driverFields d id.toNat }
          fun p => disarmed p ++ [.driverChanged d id.toNat]) ∧
    (∀ (op : Operation) (e : MoveEntry), s.oneWaiting op e → noRecall →
      let es := s.abortedList op e.axis
      ∃ t, exec c s = .next t ∧ s.onlyIn t [.ports, .moves, .engine, .table, .store] ∧ t.moves = {} ∧
        s.stampedBy t op d ∧
        t.engine = { s.engine with
          active := none, arm := none, returnAllowed := false
          ring := (op.recordOf es (some .driverChanged) :: s.engine.ring).take 8 } ∧
        s.answersWith t .fleet r okReply fun p =>
          eventAt (opDonePorts op.requester) (op.doneEvent es (some .driverChanged)) p ++
            disarmed p ++ [.driverChanged d id.toNat])

/-- 06, section 6.7 and 07, section 7.9: a release with no driver changes nothing; otherwise the record becomes NONE,
DRIVER_CHANGED is raised, and the slot's exit distance arms the exit where there is one and the policy allows it. Where the
exit may start, it starts in the same action: SLIDE drives DOWN by the converted distance, within its window. The return
allowance starts a RETURN when the vehicle state comes to permit it: SLIDE drives back to the "from" of the EXIT, where
that is the newest record with a SLIDE entry. -/
def Obligations.ReleaseDriverAndTheExitSlide : Prop :=
  ∀ (s : State),
    let slides := fun (t : State) (op : Operation) (k : OpKind) (src : Source) (x g : Int) =>
      op.kind = k ∧ op.tag = s.table.counter ∧ op.requester = .vehicle ∧ op.source = src ∧
      op.outcomes = [{ axis := .slide, planned := true, from_ := (s.axis .slide).position, target := some g
                       clamped := decide (g ≠ x) }] ∧
      t.moves = { entries := [{ axis := .slide, cause := k.cause, kind := .target g, tag := s.table.counter
                                owner := .operation op.id, state := .driving
                                timeLimit := some
                                  (1000 + 2 * (g - (s.axis .slide).position).natAbs * s.msPerCount .slide) }] } ∧
      t.axis .slide = (s.axis .slide).drivenTo .slide g false ∧ ∀ b, b ≠ .slide → t.axis b = s.axis b
    let slideFree := s.isEffective .slide = true ∧ (s.axis .slide).confidence ≠ .lost ∧
      (s.axis .slide).halted = false ∧ (s.axis .slide).hot = false ∧ (s.axis .slide).motion = .idle
    let raised := min (s.table.counter + 1) 4294967295
    (s.ready .fleet → s.table.driver = .nobody →
      exec .releaseDriver s = .next (s.answered .fleet .releaseDriver { code := .ok, fields := [0] })) ∧
    (s.ready .fleet → s.settled → s.permitsCause .exit = false → ∀ i, s.table.driver = .known i →
      0 < (s.slot i).record.profile.exit → s.van.exitAllowed = true →
      ∃ t, exec .releaseDriver s = .next t ∧ s.onlyIn t [.ports, .table, .engine] ∧
        t.table = { s.table with driver := .nobody } ∧
        t.engine = { s.engine with arm := some (s.slot i).record.profile.exit } ∧
        s.answersWith t .fleet .releaseDriver { code := .ok, fields := [1] } fun p =>
          (if p = .fleet then [] else [.exitState .armed (s.slot i).record.profile.exit none 0]) ++
            [.driverChanged .nobody 0]) ∧
    (s.ready .fleet → s.table.driver ≠ .nobody →
      (∀ i, s.table.driver = .known i → (s.slot i).record.profile.exit = 0 ∨ s.van.exitAllowed = false) →
      ∃ t, exec .releaseDriver s = .next t ∧ s.onlyIn t [.ports, .table] ∧
        t.table = { s.table with driver := .nobody } ∧
        s.answersWith t .fleet .releaseDriver { code := .ok, fields := [0] } fun _ => [.driverChanged .nobody 0]) ∧
    (∀ i c st, s.ready .fleet → s.quiet → s.table.driver = .known i → 0 < (s.slot i).record.profile.exit →
      s.van.exitAllowed = true → s.permitsCause .exit = true → s.van.counted[0] = some c → s.van.stops[0] = some st →
      slideFree → st.lo + c.m ≤ st.hi - c.m → demand .slide ≤ s.budget →
      let d := (s.slot i).record.profile.exit
      let x := (s.axis .slide).position - (max 1 (roundDiv (d * c.k) 256) : Int)
      let g := clampInt (st.lo + c.m) (st.hi - c.m) x
      2 < ((s.axis .slide).position - g).natAbs →
      ∃ (t : State) (op : Operation), exec .releaseDriver s = .next t ∧
        s.onlyIn t [.ports, .axes, .moves, .engine, .table, .model] ∧
        t.table = { s.table with driver := .nobody, counter := raised } ∧
        t.engine = { s.engine with active := some op, arm := none } ∧ slides t op .exit (.distance d) x g ∧
        s.answersWith t .fleet .releaseDriver { code := .ok, fields := [1] } fun p =>
          (if p = .fleet then [] else [.exitState .started 0 none s.table.counter]) ++ [.driverChanged .nobody 0]) ∧
    (∀ (speed gear ignition door supply : Byte) st newer older (h : HistoryRecord) (y : HistoryEntry),
      s.ready .vehicle → s.quiet → s.engine.arm = none → s.engine.returnAllowed = true → s.permitsCause .ret = false →
      let r := (decReport speed gear ignition door supply).1
      let clamped := (decReport speed gear ignition door supply).2
      permits true r .ret = true → s.engine.ring = newer ++ h :: older →
      (∀ q ∈ newer, ∀ z ∈ q.entries, z.axis ≠ .slide) → h.cause = .exit → h.result ≠ .aborted → h.entries = [y] →
      y.axis = .slide → s.van.stops[0] = some st → slideFree → demand .slide ≤ budgetOf true r →
      let g := clampInt st.lo st.hi y.from_
      2 < ((s.axis .slide).position - g).natAbs →
      ∃ (t : State) (op : Operation), exec (.vehicleState speed gear ignition door supply) s = .next t ∧
        s.onlyIn t [.ports, .monitor, .axes, .moves, .engine, .table, .model] ∧
        t.monitor = { fresh := true, record := r, freshTimer := some 500, lastIgnition := some r.ignition } ∧
        t.table = { s.table with counter := raised } ∧
        t.engine = { s.engine with active := some op, returnAllowed := false } ∧
        slides t op .ret (.place y.from_) y.from_ g ∧
        s.answersWith t .vehicle (.vehicleState speed gear ignition door supply)
          { code := .ok, clamped := clamped
            fields := enc8 (budgetOf true r) ++ enc16 (permissionMask (permittedOf true r)) }
          (if s.monitor.fresh then noEvents
           else eventAt [.vehicle, .panel] (.vehicleFresh r clamped (budgetOf true r) (permittedOf true r))))

/-- 08, section 8.2: a commit makes its block's storage state PENDING, and no other's. In a busy store an entry of the block
is joined, a free place taken, or, for work of the part's own behind a full queue, the commit held; in an idle store with
nothing waiting the write starts with the image of the RAM copy, and its erase timer. That the snapshot block's image is
marked consumed but while PARKING is the model's reading (log 32). -/
def Obligations.CommitFindsItsPlace : Prop :=
  ∀ (s : State) (b : BlockIx), s.power.state ≠ .park →
    s.onlyIn (s.commit b) [.table, .store] ∧ (s.commit b).store.blocks = s.store.blocks ∧
    (∀ i : SlotIx, (s.commit b).slot i =
      if i.val = b.val then { s.slot i with storage := .pending } else s.slot i) ∧
    (s.commit b).store.dfltState = (if b = 48 then .pending else s.store.dfltState) ∧
    (s.commit b).store.vanState = (if b = 49 then .pending else s.store.vanState) ∧
    (s.commit b).store.snapState = (if b = 50 then .pending else s.store.snapState) ∧
    (s.store.state ≠ .idle →
      (s.commit b).store.write = s.store.write ∧
      (b ∈ s.store.queue → (s.commit b).store.queue = s.store.queue ∧ (s.commit b).store.held = s.store.held) ∧
      (b ∉ s.store.queue → s.store.queue.length < 8 →
        (s.commit b).store.queue = s.store.queue ++ [b] ∧ (s.commit b).store.held = s.store.held) ∧
      (b ∉ s.store.queue → 8 ≤ s.store.queue.length → (s.commit b).store.queue = s.store.queue ∧
        (s.commit b).store.held = if b ∈ s.store.held then s.store.held else s.store.held ++ [b])) ∧
    (s.store.state = .idle → s.store.queue = [] → s.store.held = [] →
      (s.commit b).store.queue = [] ∧ (s.commit b).store.state = .erasing ∧
      (s.commit b).store.eraseTimer = some 60 ∧
      ∃ w, (s.commit b).store.write = some w ∧ w.block = b ∧ w.attempt = 1 ∧ w.lastFailure = none ∧
        (∀ i : SlotIx, i.val = b.val → w.image = .slot i (s.slot i).record ∧
          (w.onSpare = true ↔ s.store.spare = some i)) ∧
        (b = 48 → w.image = .dflt s.table.dflt ∧ w.onSpare = false) ∧
        (b = 49 → w.image = .van s.van ∧ w.onSpare = false) ∧
        (b = 50 → w.image = .snapshot s.snapshotImage ∧ w.onSpare = false))

/-- R116: LOAD_DEFAULT: its two refusals, its one effect, and the driver an assignment after it finds. -/
def Obligations.LoadDefaultReplacesTheDefault : Prop :=
  ∀ (s : State) (v : PositionFields) (exit : Byte), s.ready .fleet →
    ((decProfilePositions v = none ∨ 200 < exit.toNat) →
      exec (.loadDefault v exit) s = .next (s.answered .fleet (.loadDefault v exit) { code := .badField })) ∧
    (∀ positions, decProfilePositions v = some positions → exit.toNat ≤ 200 →
      (s.commitPlace 48 = false →
        exec (.loadDefault v exit) s = .next (s.answered .fleet (.loadDefault v exit) { code := .queueFull })) ∧
      (s.commitPlace 48 = true →
        ∃ t, exec (.loadDefault v exit) s = .next t ∧ s.onlyIn t [.ports, .table, .store] ∧
          t.table = { s.table with dflt := some ⟨positions, exit.toNat⟩ } ∧ s.tookCommit t 48 ∧
          (∀ id : Nat, s.findSlot id = none → s.van.recallDefault = true → t.driverFor id = .dflt id) ∧
          t.store.dfltState = .pending ∧ s.answersWith t .fleet (.loadDefault v exit) { code := .ok } noEvents))

/-- 06, sections 6.7 to 6.9, 02, section 2.3: the checks of ASSIGN_DRIVER, LOAD_PROFILE, WRITE_CALIBRATION and STORE, in
order; a refused request changes nothing. That bits 4 to 7 of WRITE_CALIBRATION's policy byte are not checked is the model's
choice (log 45). -/
def Obligations.TableRequestsRefusedInOrder : Prop :=
  ∀ (s : State),
    (∀ (id : BitVec 32) (flags : Byte), s.ready .fleet → (id = 0 ∨ id = 0xFFFFFFFF) →
      exec (.assignDriver id flags) s = .next (s.answered .fleet (.assignDriver id flags) { code := .badField })) ∧
    (∀ (f : ProfileFields) (force : Byte), s.ready .fleet →
      let refused := fun (c : RespCode) =>
        exec (.loadProfile f force) s = .next (s.answered .fleet (.loadProfile f force) { code := c })
      let valid := f.driver ≠ 0 ∧ f.driver ≠ 0xFFFFFFFF ∧ f.revision ≠ 0 ∧ f.exit.toNat ≤ 200 ∧
        (decProfilePositions f.positions).isSome
      let target := (s.findSlot f.driver.toNat).or s.slotToGive
      (¬valid → refused .badField) ∧
      (valid → target = none → refused .tableFull) ∧
      (valid → ∀ i, target = some i →
        ((s.slot i).record.dirty = true → force.getLsbD 0 = false → refused .conflict) ∧
        (((s.slot i).record.dirty = false ∨ force.getLsbD 0 = true) → s.commitPlace (slotBlock i) = false →
          refused .queueFull))) ∧
    (∀ (y : Byte) (es : List CalEntry), s.ready .fleet → es.length ≤ 10 →
      let refused := fun (c : RespCode) =>
        exec (.writeCalibration y es) s = .next (s.answered .fleet (.writeCalibration y es) { code := c })
      let valid := (∀ e ∈ es, e.valid = true) ∧ (es.map (·.axisNumber)).Nodup ∧ (y.getLsbD 0 = true ∨ es ≠ [])
      let fitted := ∀ e ∈ es, s.effective.getLsbD e.axisNumber = true
      let listed := ∃ e ∈ es, ∃ m ∈ s.moves.entries, m.axis.val = e.axisNumber
      (¬valid → refused .badField) ∧
      (valid → ¬fitted → refused .notFitted) ∧
      (valid → fitted → listed → refused .busy) ∧
      (valid → fitted → ¬listed → s.commitPlace 49 = false → refused .queueFull)) ∧
    (s.ready .panel →
      let refused := fun (c : RespCode) => exec .store s = .next (s.answered .panel .store { code := c })
      let busy := s.moves.entries ≠ [] ∨ s.engine.active ≠ none ∨
        ∃ a, s.isEffective a = true ∧ (s.axis a).motion = .coasting
      (s.van.commissioned = false → refused .notCommissioned) ∧
      (s.van.commissioned = true →
        (s.table.driver = .nobody → refused .noDriver) ∧
        (s.table.driver ≠ .nobody →
          (busy → refused .busy) ∧
          (¬busy →
            (s.slotToEdit = none → refused .tableFull) ∧
            ∀ i, s.slotToEdit = some i → s.commitPlace (slotBlock i) = false → refused .queueFull))))

/-- 06, section 6.9: a LOAD_PROFILE that passes writes its target slot as CLEAN and of the fleet, keeps the pin and stamp
of a slot that held the ID, takes the slot off the dirty list, commits its block, and makes a NEW or DEFAULT driver of
that ID KNOWN. -/
def Obligations.LoadProfileWritesTheSlot : Prop :=
  ∀ (s : State) (f : ProfileFields) (force : Byte) (i : SlotIx), s.ready .fleet →
    f.driver ≠ 0 → f.driver ≠ 0xFFFFFFFF → f.revision ≠ 0 → f.exit.toNat ≤ 200 →
    (s.findSlot f.driver.toNat).or s.slotToGive = some i →
    ((s.slot i).record.dirty = false ∨ force.getLsbD 0 = true) → s.commitPlace (slotBlock i) = true →
    ∀ positions, decProfilePositions f.positions = some positions →
    let id := f.driver.toNat
    let kept := (s.findSlot id).isSome
    let known := decide (s.table.driver = .new id ∨ s.table.driver = .dflt id)
    ∃ t, exec (.loadProfile f force) s = .next t ∧ s.onlyIn t [.ports, .table, .store] ∧
      t.slot i = { storage := .pending, record := {
        inUse := true, driver := id, dirty := false, revision := f.revision.toNat, origin := .fleet
        pinned := if kept then (s.slot i).record.pinned else false
        stamp := if kept then (s.slot i).record.stamp else 0
        profile := ⟨positions, f.exit.toNat⟩ } } ∧
      (∀ j, j ≠ i → t.slot j = s.slot j) ∧ t.table.dirty = s.table.dirty.filter (· ≠ i) ∧
      t.table.dflt = s.table.dflt ∧ t.table.counter = s.table.counter ∧
      t.table.driver = (if known then .known i else s.table.driver) ∧ s.tookCommit t (slotBlock i) ∧
      s.answersWith t .fleet (.loadProfile f force)
        { code := .ok
          fields := [BitVec.ofNat 8 i.val, if (s.slot i).record.dirty then 1 else 0] ++
            encNat32 (if kept then 0 else if (s.slot i).record.inUse then (s.slot i).record.driver else 0) }
        fun _ => if known then [.driverChanged (.known i) id] else []

/-- 06, section 6.10: DELETE_PROFILE: its checks in order, and its effect; the deleted slot is free at once. That the other
fields of the EMPTY slot stay as they were is the model's choice (log 6). -/
def Obligations.DeleteProfileEmptiesTheSlot : Prop :=
  ∀ (s : State) (id : BitVec 32), s.ready .fleet →
    let refused := fun (c : RespCode) =>
      exec (.deleteProfile id) s = .next (s.answered .fleet (.deleteProfile id) { code := c })
    ((id = 0 ∨ id = 0xFFFFFFFF) → refused .badField) ∧
    (id ≠ 0 → id ≠ 0xFFFFFFFF →
      (s.findSlot id.toNat = none → refused .noProfile) ∧
      ∀ i, s.findSlot id.toNat = some i →
        (s.table.driver = .known i → refused .active) ∧
        (s.table.driver ≠ .known i →
          (s.commitPlace (slotBlock i) = false → refused .queueFull) ∧
          (s.commitPlace (slotBlock i) = true →
            ∃ t, exec (.deleteProfile id) s = .next t ∧ s.onlyIn t [.ports, .table, .store] ∧
              t.slot i = { storage := .pending
                           record := { (s.slot i).record with inUse := false, pinned := false, dirty := false } } ∧
              (∃ j, t.emptySlot = some j ∧ j ≤ i) ∧
              (s.store.state ≠ .idle → t.commitPlace (slotBlock i) = true) ∧
              (∀ j, j ≠ i → t.slot j = s.slot j) ∧ t.table.dirty = s.table.dirty.filter (· ≠ i) ∧
              t.table.driver = s.table.driver ∧ t.table.dflt = s.table.dflt ∧ t.table.counter = s.table.counter ∧
              s.tookCommit t (slotBlock i) ∧
              s.answersWith t .fleet (.deleteProfile id)
                { code := .ok, fields := [if (s.slot i).record.dirty then 1 else 0] } noEvents)))

/-- 06, section 6.10: PIN_PROFILE: its refusals, the answer where nothing changes, and its effect; a pinned slot is no victim,
and a table in which every slot is active, pinned, dirty or pending has none. That bit 0 of the pin byte is the value is the
model's choice (log 34). -/
def Obligations.PinProfileSetsThePin : Prop :=
  ∀ (s : State) (id : BitVec 32) (pin : Byte), s.ready .fleet →
    let answer := fun (c : RespCode) =>
      exec (.pinProfile id pin) s = .next (s.answered .fleet (.pinProfile id pin) { code := c })
    (∀ i, (s.slot i).record.pinned = true → s.victim ≠ some i) ∧
    ((∀ i, s.table.driver = .known i ∨ (s.slot i).record.pinned = true ∨ (s.slot i).record.dirty = true ∨
        (s.slot i).storage = .pending) → s.victim = none) ∧
    ((id = 0 ∨ id = 0xFFFFFFFF) → answer .badField) ∧
    (id ≠ 0 → id ≠ 0xFFFFFFFF →
      (s.findSlot id.toNat = none → answer .noProfile) ∧
      ∀ i, s.findSlot id.toNat = some i →
        ((s.slot i).record.pinned = pin.getLsbD 0 → answer .ok) ∧
        ((s.slot i).record.pinned ≠ pin.getLsbD 0 →
          (s.commitPlace (slotBlock i) = false → answer .queueFull) ∧
          (s.commitPlace (slotBlock i) = true →
            ∃ t, exec (.pinProfile id pin) s = .next t ∧ s.onlyIn t [.ports, .table, .store] ∧
              t.slot i = { storage := .pending, record := { (s.slot i).record with pinned := pin.getLsbD 0 } } ∧
              (∀ j, j ≠ i → t.slot j = s.slot j) ∧ t.table.dirty = s.table.dirty ∧
              t.table.driver = s.table.driver ∧ t.table.dflt = s.table.dflt ∧ t.table.counter = s.table.counter ∧
              s.tookCommit t (slotBlock i) ∧
              s.answersWith t .fleet (.pinProfile id pin) { code := .ok } noEvents)))

/-- R120: SYNC_MARK: BAD_FIELD, NO_PROFILE, then the table by sync state and revision. -/
def Obligations.SyncMarkConfirmsTheRevision : Prop :=
  ∀ (s : State) (slot : Byte) (revision : BitVec 16), s.ready .fleet →
    let answer := fun (c : RespCode) =>
      exec (.syncMark slot revision) s = .next (s.answered .fleet (.syncMark slot revision) { code := c })
    ((47 < slot.toNat ∨ revision = 0) → answer .badField) ∧
    ∀ i : SlotIx, i.val = slot.toNat → revision ≠ 0 →
      let r := (s.slot i).record
      (r.inUse = false → answer .noProfile) ∧
      (r.inUse = true →
        (r.revision ≠ revision.toNat → answer .revisionMismatch) ∧
        (r.revision = revision.toNat → r.dirty = false → answer .ok) ∧
        (r.revision = revision.toNat → r.dirty = true →
          (s.commitPlace (slotBlock i) = false → answer .queueFull) ∧
          (s.commitPlace (slotBlock i) = true →
            ∃ t, exec (.syncMark slot revision) s = .next t ∧ s.onlyIn t [.ports, .table, .store] ∧
              t.slot i = { storage := .pending, record := { r with dirty := false, origin := .fleet } } ∧
              (∀ j, j ≠ i → t.slot j = s.slot j) ∧ t.table.dirty = s.table.dirty.filter (· ≠ i) ∧
              t.table.driver = s.table.driver ∧ t.table.dflt = s.table.dflt ∧ t.table.counter = s.table.counter ∧
              s.tookCommit t (slotBlock i) ∧
              s.answersWith t .fleet (.syncMark slot revision) { code := .ok } noEvents)))

/-- R119: READ_PROFILE and READ_DIRTY: what each answers; neither changes any state but its port. -/
def Obligations.ProfileReadsAnswer : Prop :=
  ∀ (s : State) (named : BitVec 32), s.ready .fleet →
    let answer := fun (sel : Byte) (r : Reply) =>
      exec (.readProfile sel named) s = .next (s.answered .fleet (.readProfile sel named) r)
    let profile := fun (p : Profile) => (p.positions.toList.flatMap fun x => match x with
        | some v => encInt v
        | none => [0x80, 0x00]) ++ [BitVec.ofNat 8 p.exit]
    let bytes := fun (i : SlotIx) (x : Slot) =>
      encNat32 x.record.driver ++ encNat16 x.record.revision ++ profile x.record.profile ++
        [BitVec.ofNat 8 i.val, BitVec.ofNat 8 ((if x.record.inUse then 1 else 0) + (if x.record.dirty then 2 else 0) +
          (match x.storage with | .stored => 0 | .pending => 4 | .failed => 8) +
          (if x.record.origin = .fleet then 16 else 0) + (if x.record.pinned then 32 else 0))] ++
        encNat32 x.record.stamp
    ((named = 0 ∨ named = 0xFFFFFFFF) → answer 0 { code := .badField }) ∧
    (named ≠ 0 → named ≠ 0xFFFFFFFF →
      (s.findSlot named.toNat = none → answer 0 { code := .noProfile }) ∧
      ∀ i, s.findSlot named.toNat = some i → answer 0 { code := .ok, fields := bytes i (s.slot i) }) ∧
    (47 < named.toNat → answer 1 { code := .badField }) ∧
    (∀ i : SlotIx, i.val = named.toNat →
      ((s.slot i).record.inUse = false → answer 1 { code := .noProfile }) ∧
      ((s.slot i).record.inUse = true → answer 1 { code := .ok, fields := bytes i (s.slot i) })) ∧
    (∀ sel : Byte, 2 < sel.toNat → answer sel { code := .badField }) ∧
    (s.table.dflt = none → answer 2 { code := .noProfile }) ∧
    (∀ d, s.table.dflt = some d → answer 2 { code := .ok, fields := List.replicate 6 0 ++ profile d ++ [48, 0, 0, 0, 0, 0] }) ∧
    (s.table.dirty = [] →
      exec .readDirty s = .next (s.answered .fleet .readDirty { code := .ok, fields := List.replicate 9 0 })) ∧
    (∀ i rest, s.table.dirty = i :: rest →
      exec .readDirty s = .next (s.answered .fleet .readDirty {
        code := .ok
        fields := [BitVec.ofNat 8 (rest.length + 1), BitVec.ofNat 8 i.val] ++ encNat32 (s.slot i).record.driver ++
          encNat16 (s.slot i).record.revision ++ [if (s.slot i).record.origin = .fleet then 1 else 0] }))

/-- R112: SET_EXIT_DISTANCE: its checks in order, and its effect on the active driver's slot, which is set up first for a
NEW or DEFAULT driver. -/
def Obligations.SetExitDistanceEdits : Prop :=
  ∀ (s : State) (d : Byte), s.ready .panel →
    let refused := fun (c : RespCode) =>
      exec (.setExitDistance d) s = .next (s.answered .panel (.setExitDistance d) { code := c })
    (200 < d.toNat → refused .badField) ∧
    (d.toNat ≤ 200 →
      (s.table.driver = .nobody → refused .noDriver) ∧
      (s.table.driver ≠ .nobody →
        (s.slotToEdit = none → refused .tableFull) ∧
        ∀ i, s.slotToEdit = some i →
          (s.commitPlace (slotBlock i) = false → refused .queueFull) ∧
          (s.commitPlace (slotBlock i) = true →
            let id := s.driverId s.table.driver
            let fresh := s.table.driver.slotless = true
            ∃ t, exec (.setExitDistance d) s = .next t ∧ s.onlyIn t [.ports, .table, .store] ∧
              (¬fresh → t.slot i = { storage := .pending, record := { (s.slot i).record with
                dirty := true, revision := nextRevision (s.slot i).record.revision
                profile := { (s.slot i).record.profile with exit := d.toNat } } }) ∧
              (fresh → t.slot i = { storage := .pending, record := {
                inUse := true, driver := id, dirty := true, revision := 1, origin := .lcl, pinned := false, stamp := 0
                profile := { exit := d.toNat } } }) ∧
              (∀ j, j ≠ i → t.slot j = s.slot j) ∧
              t.table.dirty = (if i ∈ s.table.dirty then s.table.dirty else s.table.dirty ++ [i]) ∧
              t.table.dflt = s.table.dflt ∧ t.table.counter = s.table.counter ∧ t.table.driver = .known i ∧
              s.tookCommit t (slotBlock i) ∧
              s.answersWith t .panel (.setExitDistance d)
                { code := .ok
                  fields := [BitVec.ofNat 8 i.val] ++ encNat16 (t.slot i).record.revision ++
                    encNat32 (if s.table.driver.slotless = true ∧ (s.slot i).record.inUse = true
                      then (s.slot i).record.driver else 0) }
                fun p =>
                  (if p = .fleet then [.profileDirty i id (t.slot i).record.revision] else []) ++
                  (if s.table.driver.slotless then [.driverChanged (.known i) id] else []))))

/-- 06, section 6.8: a STORE writes, axis by axis, the store conversion of every effective axis it trusts and keeps the
other positions, raises the revision, makes the slot DIRTY and commits it. For a NEW or DEFAULT driver a slot is set up
first, with revision 1 and every other position absent: the driver is then KNOWN, and the response tells the evicted ID. -/
def Obligations.StoreTakesTheTrustedPositions : Prop :=
  ∀ (s : State) (i : SlotIx), s.ready .panel → s.van.commissioned = true → s.table.driver ≠ .nobody →
    s.slotToEdit = some i → s.moves.entries = [] → s.engine.active = none →
    (∀ a, s.isEffective a = true → (s.axis a).motion ≠ .coasting) → s.commitPlace (slotBlock i) = true →
    let taken := fun (a : Axis) => s.isEffective a = true ∧ s.isCommissioned a = true ∧
      (a.counted = true → (s.axis a).confidence = .normalised) ∧ (a.mirror = true → (s.axis a).sensorFault = false)
    let old := (s.slot i).record
    let fresh : Bool := match s.table.driver with | .new _ | .dflt _ => true | .known _ | .nobody => false
    let id := match s.table.driver with
      | .new id | .dflt id => id
      | .known k => (s.slot k).record.driver
      | .nobody => 0
    let revision := if fresh then 1 else nextRevision old.revision
    (∀ k, s.table.driver = .known k → i = k) ∧
    ∃ t, exec .store s = .next t ∧ s.onlyIn t [.ports, .table, .store] ∧
      (∃ p : Profile, p.exit = (if fresh then 0 else old.profile.exit) ∧
        (∀ a : Axis, (taken a → p.positions[a] = s.storeConversion a (s.axis a).position) ∧
          (¬taken a → p.positions[a] = if fresh then none else old.profile.positions[a])) ∧
        t.slot i = { storage := .pending, record :=
          if fresh then { inUse := true, driver := id, dirty := true, revision := 1, origin := .lcl, pinned := false
                          stamp := 0, profile := p }
          else { old with dirty := true, revision := revision, profile := p } }) ∧
      (∀ j, j ≠ i → t.slot j = s.slot j) ∧
      t.table.dirty = (if i ∈ s.table.dirty then s.table.dirty else s.table.dirty ++ [i]) ∧
      t.table.driver = .known i ∧ t.table.dflt = s.table.dflt ∧ t.table.counter = s.table.counter ∧
      s.tookCommit t (slotBlock i) ∧
      ∃ mask : BitVec 16, (∀ a : Axis, mask.getLsbD a.val = true ↔ taken a) ∧ mask.toNat < 1024 ∧
        s.answersWith t .panel .store
          { code := .ok
            fields := [BitVec.ofNat 8 i.val] ++ encNat16 revision ++ enc16 mask ++
              encNat32 (if fresh ∧ old.inUse = true then old.driver else 0) }
          fun p =>
            (if p = .fleet then [.profileDirty i id revision] else []) ++
            (if fresh then [.driverChanged (.known i) id] else [])

/-! ## The van record and the reads -/

/-- 02, sections 2.3 and 2.4: a WRITE_CALIBRATION that passes replaces the sets of the axes it names, and the policy flags
where it carries them; the part is then COMMISSIONED, and the van record's commit is queued. That it is taken whatever bits
4 to 7 of the policy byte hold is the model's choice (log 45). -/
def Obligations.WriteCalibrationReplacesTheSets : Prop :=
  ∀ (s : State) (y : Byte) (es : List CalEntry), s.ready .fleet → es.length ≤ 10 → (∀ e ∈ es, e.valid = true) →
    (es.map (·.axisNumber)).Nodup → (y.getLsbD 0 = true ∨ es ≠ []) →
    (∀ e ∈ es, s.effective.getLsbD e.axisNumber = true) →
    (∀ e ∈ es, ∀ m ∈ s.moves.entries, m.axis.val ≠ e.axisNumber) → s.commitPlace 49 = true →
    ∃ t, exec (.writeCalibration y es) s = .next t ∧ s.onlyIn t [.ports, .van, .store] ∧
      (∀ a : Fin 6, (∀ e ∈ es, e.axisNumber = a.val → t.van.counted[a] = some e.countedSet) ∧
        ((∀ e ∈ es, e.axisNumber ≠ a.val) → t.van.counted[a] = s.van.counted[a])) ∧
      (∀ m : Fin 4, (∀ e ∈ es, e.axisNumber = m.val + 6 → t.van.mirror[m] = some e.mirrorSet) ∧
        ((∀ e ∈ es, e.axisNumber ≠ m.val + 6) → t.van.mirror[m] = s.van.mirror[m])) ∧
      t.van.recallDefault = (if y.getLsbD 0 then y.getLsbD 1 else s.van.recallDefault) ∧
      t.van.exitAllowed = (if y.getLsbD 0 then y.getLsbD 2 else s.van.exitAllowed) ∧
      t.van.doorOpenOnly = (if y.getLsbD 0 then y.getLsbD 3 else s.van.doorOpenOnly) ∧
      t.van.commissioned = true ∧ t.van.stops = s.van.stops ∧ t.van.enable = s.van.enable ∧
      t.store.vanState = .pending ∧ s.tookCommit t 49 ∧
      s.answersWith t .fleet (.writeCalibration y es) { code := .ok } noEvents

/-- 02, section 2.6: SET_ENABLE_MASK: refused for want of a commit place; otherwise, where no axis that departs has a move
or an open jog, it replaces the enable mask, commits the van record and answers with the new effective mask. That bits 10
to 15 of the mask are taken and disregarded is the model's reading (log 16); that a superseded entry of a departing axis,
still settling off the list, stays as it is, is the model's choice (log 47). -/
def Obligations.SetEnableMaskReplacesTheMask : Prop :=
  ∀ (s : State) (mask : BitVec 16), s.ready .fleet → s.settled →
    (s.commitPlace 49 = false →
      exec (.setEnableMask mask) s = .next (s.answered .fleet (.setEnableMask mask) { code := .queueFull })) ∧
    (s.commitPlace 49 = true →
      (∀ a, s.isEffective a = true → mask.getLsbD a.val = false → s.entryOf a = none ∧ s.openJog a = none) →
      ∃ t, exec (.setEnableMask mask) s = .next t ∧ s.onlyIn t [.ports, .van, .store] ∧
        t.van = { s.van with enable := mask.setWidth 10 } ∧
        (∀ a, t.isEffective a = (s.isFitted a && mask.getLsbD a.val)) ∧ t.store.vanState = .pending ∧
        s.tookCommit t 49 ∧
        s.answersWith t .fleet (.setEnableMask mask)
          { code := .ok, fields := enc16 ((s.fitted &&& mask.setWidth 10).setWidth 16) } noEvents)

/-- 02, section 2.6: an axis that leaves the effective mask ends its jog's move and releases its record. A WAITING entry,
and a DRIVING mirror's, which is cut, end ABORTED at once: the record closes in the same action, with its JOG record in the
ring. A DRIVING counted axis is cut, and its entry settles to ABORTED; a SETTLING entry's disposition becomes ABORTED,
whatever it was, and no backoff follows. That bits 10 to 15 of the mask are taken and disregarded is the model's reading
(log 16). -/
def Obligations.DepartingAxisEndsItsMove : Prop :=
  ∀ (s : State) (mask : BitVec 16) (e : MoveEntry) (j : JogRecord), s.ready .fleet →
    (s.oneQueued e j ∨ s.oneDrive e j ∨ s.oneSettling e j) → j.backoff = false → s.commitPlace 49 = true →
    s.isEffective e.axis = true → mask.getLsbD e.axis.val = false →
    let x := (s.axis e.axis).position
    ∃ t, exec (.setEnableMask mask) s = .next t ∧ s.onlyIn t [.ports, .van, .store, .axes, .moves, .engine] ∧
      t.van = { s.van with enable := mask.setWidth 10 } ∧ t.store.vanState = .pending ∧ s.tookCommit t 49 ∧
      s.answersWith t .fleet (.setEnableMask mask)
        { code := .ok, fields := enc16 ((s.fitted &&& mask.setWidth 10).setWidth 16) } noEvents ∧
      (∀ a, a ≠ e.axis → t.axis a = s.axis a) ∧
      (e.state = .waiting → t.axis e.axis = s.axis e.axis ∧
        t.moves = {} ∧ t.engine = (s.jogClosed j .aborted x none).engine) ∧
      (e.state = .driving → e.axis.mirror = true → t.axis e.axis = (s.axis e.axis).stopped ∧
        t.moves = {} ∧ t.engine = (s.jogClosed j .aborted x none).engine) ∧
      (e.state = .driving → e.axis.counted = true → t.axis e.axis = (s.axis e.axis).coasting ∧
        t.moves = { entries := [e.settles (.decided .aborted)], jogs := [j.released] } ∧ t.engine = s.engine) ∧
      (e.state = .settling → t.axis e.axis = s.axis e.axis ∧ t.engine = s.engine ∧
        t.moves = { entries := [{ e with disposition := some (.decided .aborted), noBackoff := true }]
                    jogs := [j.released] })

/-- 01, sections 1.2 and 1.9, 03, section 3.4, 11, section 11.2: READ_AXES at any port answers eighty bytes, eight for
each axis in axis order; READ_COUNTERS at the fleet port the travel and then the run-time counter of each; neither
changes anything. -/
def Obligations.AxisReadsAnswer : Prop :=
  ∀ (s : State) (p : Port), s.ready p →
    (∃ fields : List Byte,
      exec (.readAxes p) s = .next (s.answered p .readAxes { code := .ok, fields := fields }) ∧ fields.length = 80 ∧
      ∀ a : Axis,
        let u := s.axis a
        let given := if a.counted then u.confidence ≠ .lost else u.sensorFault = false
        let confidence := if a.counted then u.confidence else if u.sensorFault then .lost else .normalised
        (fields.drop (8 * a.val)).take 8 =
          encInt u.position ++ (match if given then s.storeConversion a u.position else none with
            | some x => encInt x
            | none => [0x80, 0x00]) ++
          [BitVec.ofNat 8 confidence.code, BitVec.ofNat 8 u.motion.code,
            BitVec.ofNat 8 ((if u.halted then 1 else 0) + (if u.hot then 2 else 0) + (if u.sensorFault then 4 else 0)), 0]) ∧
    (p = .fleet → ∃ fields : List Byte,
      exec .readCounters s = .next (s.answered .fleet .readCounters { code := .ok, fields := fields }) ∧
      fields.length = 80 ∧
      ∀ a : Axis, (fields.drop (8 * a.val)).take 8 = enc32 (s.axis a).travel ++ enc32 (s.axis a).runTime)

/-- 02, section 2.5 and 11, section 11.3: READ_VAN_RECORD answers ninety-one bytes of fields: the masks and flags, then
eight bytes for each axis. Absent sets and stops are sent as 0. -/
def Obligations.ReadVanRecordAnswers : Prop :=
  ∀ (s : State), s.ready .fleet → ∃ (fields : List Byte) (calibrated learned : BitVec 16),
    exec .readVanRecord s = .next (s.answered .fleet .readVanRecord { code := .ok, fields := fields }) ∧
    fields.length = 91 ∧
    fields.take 11 = enc16 (s.fitted.setWidth 16) ++ enc16 (s.van.enable.setWidth 16) ++
      enc16 ((s.fitted &&& s.van.enable).setWidth 16) ++ enc16 calibrated ++ enc16 learned ++
      [BitVec.ofNat 8 ((if s.van.recallDefault then 1 else 0) + (if s.van.exitAllowed then 2 else 0) +
        (if s.van.doorOpenOnly then 4 else 0) + (if s.van.commissioned then 8 else 0))] ∧
    (∀ a : Axis, calibrated.getLsbD a.val = s.isCommissioned a ∧ learned.getLsbD a.val = (s.stopsOf a).isSome) ∧
    calibrated.toNat < 1024 ∧ learned.toNat < 64 ∧
    (∀ i : Fin 6,
      let c := (s.van.counted[i]).getD { c0 := 0, k := 0, m := 0, t := 0 }
      let hi := ((s.van.stops[i]).map (·.hi)).getD 0
      (fields.drop (11 + 8 * i.val)).take 8 =
        encInt c.c0 ++ encNat16 c.k ++ [BitVec.ofNat 8 c.m, BitVec.ofNat 8 c.t] ++ encInt hi) ∧
    (∀ m : Fin 4,
      let c := (s.van.mirror[m]).getD { z := 0, kr := 0, rlo := 0, rhi := 0 }
      (fields.drop (59 + 8 * m.val)).take 8 =
        encNat16 c.z ++ encNat16 c.kr ++ encNat16 c.rlo ++ encNat16 c.rhi)

/-- 07, section 7.7, 08, section 8.6, 11, section 11.2: READ_HISTORY refuses an index above 7, answers the count alone
where there is no such record, and otherwise the count and the record. READ_STORE_STATUS answers the store's state, the
write, the queue and the held commits, the spare, the storage states of the three other blocks, and the last result. The
layout of that answer, within the naming order of section 11.2, is the model's choice (log 15). -/
def Obligations.HistoryAndStoreReadsAnswer : Prop :=
  ∀ (s : State) (i : Byte), s.ready .fleet →
    (
      let answer := fun (r : Reply) => exec (.readHistory i) s = .next (s.answered .fleet (.readHistory i) r)
      let n := BitVec.ofNat 8 s.engine.ring.length
      (7 < i.toNat → answer { code := .badField }) ∧
      (i.toNat ≤ 7 → s.engine.ring.length ≤ i.toNat → answer { code := .ok, fields := [n] }) ∧
      (∀ h, i.toNat ≤ 7 → s.engine.ring[i.toNat]? = some h →
        answer { code := .ok, fields := [n] ++ encNat32 h.tag ++
          [BitVec.ofNat 8 h.cause.code, BitVec.ofNat 8 (portCode h.port), BitVec.ofNat 8 h.result.code,
            BitVec.ofNat 8 (abortCode h.abortCause), if h.undone then 1 else 0, BitVec.ofNat 8 h.entries.length] ++
          h.entries.flatMap fun x => [BitVec.ofNat 8 x.axis.val] ++ encInt x.from_ ++ encInt x.to_ ++
            [BitVec.ofNat 8 x.outcome.code] })) ∧
    (
      let st := s.store
      let byte := fun (n : Nat) => BitVec.ofNat 8 n
      exec .readStoreStatus s = .next (s.answered .fleet .readStoreStatus (okWith (
        [byte st.state.code] ++
        (match st.write with
          | some w => [byte w.block.val, byte w.attempt, if w.onSpare then 1 else 0]
          | none => [0, 0, 0]) ++
        [byte st.queue.length] ++ (st.queue ++ st.held).map (fun b => byte b.val) ++
        (match st.spare with
          | some i => [1, byte i.val]
          | none => [0, 0]) ++
        [byte st.dfltState.code, byte st.vanState.code, byte st.snapState.code] ++
        (match st.lastResult with
          | some r => [byte r.block.val, byte r.result.code, byte r.attempts]
          | none => [0, 0, 0])))))

/-! ## Motion requests -/

/-- 02, section 2.7, 04, section 4.7, 07, sections 7.2 and 7.8, 09, section 9.2: the checks of NORMALISE, JOG, JOG_END,
RECALL and UNDO in RUN, in order; a refused request changes nothing. In PARKING, NORMALISE, JOG, RECALL, UNDO and PARK are
refused BUSY before any check of their own, and ASSIGN_DRIVER makes the assignment and starts no recall; the write of each
is a wake cause, but for a transaction whose header byte has been one already. That the header may come as a command of its
own is the model's choice (log 36), and the flag's place and the 0 in place of a tag are logs 34 and 15. -/
def Obligations.MotionRequestsRefusedInOrder : Prop :=
  ∀ (s : State) (p : Port) (x d : Byte),
    let refused := fun (c : Instr) (r : Request) (q : Port) (code : RespCode) =>
      exec c s = .next (s.answered q r { code := code })
    (s.parkingReady p →
      let w := if (s.selected p).header = true then s else s.wakeNoted (.port p)
      let busy := fun (c : Instr) (r : Request) => exec c s = .next (w.answered p r { code := .busy })
      (p ≠ .vehicle → busy (.normalise p x) (.normalise x)) ∧
      (p = .panel → busy (.jog x d) (.jog x d) ∧ busy .recall .recall ∧ busy .undo .undo) ∧
      (p = .vehicle → busy .park .park) ∧
      (∀ (id : BitVec 32) (flags : Byte), p = .fleet → id ≠ 0 → id ≠ 0xFFFFFFFF → s.settled → s.engine.active = none →
        let driver := match s.findSlot id.toNat with
          | some i => ActiveDriver.known i
          | none => if s.van.recallDefault = true ∧ s.table.dflt.isSome then .dflt id.toNat else .new id.toNat
        ∃ t, exec (.assignDriver id flags) s = .next t ∧ w.onlyIn t [.ports, .table, .engine] ∧
          t.table = { s.table with driver := driver } ∧
          t.engine = { s.engine with arm := none, returnAllowed := false } ∧
          w.answersWith t .fleet (.assignDriver id flags)
            { code := .ok, recallNotStarted := flags.getLsbD 0
              fields := [0, 0, 0, 0] ++ driverFields driver id.toNat }
            fun q => (if s.engine.arm.isSome ∧ q ≠ .fleet then [.exitState .disarmed 0 (some .assign) 0] else []) ++
              [.driverChanged driver id.toNat])) ∧
    (s.ready p → p ≠ .vehicle →
      (5 < x.toNat → refused (.normalise p x) (.normalise x) p .badField) ∧
      (∀ a : Axis, a.val = x.toNat → a.counted = true →
        (s.isEffective a = false → refused (.normalise p x) (.normalise x) p .notFitted) ∧
        (s.isEffective a = true →
          (s.engine.active.isSome ∨ (s.entryOf a).isSome → refused (.normalise p x) (.normalise x) p .busy) ∧
          (s.engine.active = none → s.entryOf a = none →
            ((s.axis a).hot = true → refused (.normalise p x) (.normalise x) p .hot) ∧
            ((s.axis a).hot = false → s.permitsCause .normalise = false →
              refused (.normalise p x) (.normalise x) p .interlock)))) ∧
      (p = .panel →
        (9 < x.toNat ∨ 1 < d.toNat → refused (.jog x d) (.jog x d) p .badField) ∧
        (9 < x.toNat → refused (.jogEnd x) (.jogEnd x) p .badField) ∧
        (∀ a : Axis, a.val = x.toNat →
          (s.isEffective a = false → refused (.jogEnd x) (.jogEnd x) p .notFitted ∧
            (d.toNat ≤ 1 → refused (.jog x d) (.jog x d) p .notFitted)) ∧
          (s.isEffective a = true → s.openJog a = none → (s.axis a).hot = true → d.toNat ≤ 1 →
            refused (.jog x d) (.jog x d) p .hot)) ∧
        (s.van.commissioned = false →
          refused .recall .recall p .notCommissioned ∧ refused .undo .undo p .notCommissioned) ∧
        (s.van.commissioned = true →
          (s.table.driver = .nobody → refused .recall .recall p .noDriver) ∧
          (∀ id, s.table.driver = .new id → refused .recall .recall p .noProfile) ∧
          (∀ i, s.table.driver = .known i →
            (s.engine.active.isSome → refused .recall .recall p .busy) ∧
            (s.engine.active = none → s.permitsCause .recall = false → refused .recall .recall p .interlock)) ∧
          (s.engine.active.isSome → refused .undo .undo p .busy) ∧
          (s.engine.active = none →
            ((∀ r ∈ s.engine.ring, r.cause = .recall → r.undone = true) →
              refused .undo .undo p .nothingToUndo) ∧
            ((∃ r ∈ s.engine.ring, r.cause = .recall ∧ r.undone = false) → s.permitsCause .undo = false →
              refused .undo .undo p .interlock)))))

/-- 02, section 2.7: a NORMALISE. Taken on a quiet part with budget for its axis, the operation takes its tag and its leg 1
seek DOWN drives. A leg 1 that ends END_STOP makes the count 0 and starts leg 2, UP; a leg 2 that ends so learns the stops,
makes the axis NORMALISED and not HALTED, commits the van record and starts leg 3, back to where leg 1 began; stops found
less than 64 apart are not kept, the axis is LOST and the result RANGE. A seek leg that ends otherwise, here by TIMEOUT,
gives the axis its starting confidence back. A leg 3 that arrives makes the operation COMPLETE. That the SUSPECT flag of
the OP_DONE follows the confidence that the ending leaves is the model's reading (log 24). -/
def Obligations.NormaliseRunsItsLegs : Prop :=
  ∀ (s : State) (a : Axis),
    let u := s.axis a
    let seekLimit := 1000 + 2 * (match s.stopsOf a with
      | some st => (st.hi - st.lo).natAbs
      | none => 16383) * s.msPerCount a
    (∀ (p : Port) (x : Byte), s.ready p → p ≠ .vehicle → s.quiet → a.val = x.toNat → a.counted = true →
      s.isEffective a = true → u.hot = false → u.motion = .idle → s.permitsCause .normalise = true →
      demand a ≤ s.budget →
      ∃ t, exec (.normalise p x) s = .next t ∧ s.onlyIn t [.ports, .axes, .moves, .engine, .table, .model] ∧
        s.answersWith t p (.normalise x) { code := .accepted, fields := encNat32 s.table.counter } noEvents ∧
        t.table = { s.table with counter := min (s.table.counter + 1) 4294967295 } ∧
        t.axis a = { u with
          motion := .drivingDown, lastDir := .down, drove := true, cutPoint := none, stallTimer := some 200 } ∧
        (∀ b, b ≠ a → t.axis b = s.axis b) ∧
        ∃ id : Nat,
          t.moves = { entries := [{ axis := a, cause := .normalise, kind := .seek .down, tag := s.table.counter
                                    owner := .operation id, state := .driving, timeLimit := some seekLimit }] } ∧
          t.engine = { s.engine with active := some {
            id := id, kind := .normalise, tag := s.table.counter, requester := p, stage := .leg1, source := .axis a
            outcomes := [{ axis := a, planned := true, from_ := u.position }]
            startConfidence := u.confidence, legGranted := true } }) ∧
    (∀ op e d, s.legSettles op e a d → u.hot = false → demand a ≤ s.budget → d = .decided .endStop →
      let granted := { op with progress := op.progress.map fun _ => 5000, legGranted := true, legEnd := none }
      let driving := fun (k : MoveKind) (limit : Nat) =>
        ({ axis := a, cause := .normalise, kind := k, tag := op.tag, owner := .operation op.id, state := .driving
           timeLimit := some limit } : MoveEntry)
      (op.stage = .leg1 →
        ∃ t, exec (.coastEnd a) s = .next t ∧ s.onlyIn t [.axes, .moves, .engine] ∧
          t.axis a = { u.rested with
            position := 0, motion := .drivingUp, lastDir := .up, drove := true, cutPoint := none
            stallTimer := some 200 } ∧
          (∀ b, b ≠ a → t.axis b = s.axis b) ∧
          t.engine = { s.engine with active := some { granted with stage := .leg2, newLow := some 10 } } ∧
          t.moves = { entries := [driving (.seek .up) seekLimit] }) ∧
      (op.stage = .leg2 → op.newLow = some 10 → 84 ≤ u.position → s.commitPlace 49 = true →
        let hi := u.position - 10
        let g := clampInt 10 hi op.d1
        2 < (u.position - g).natAbs →
        ∃ t, exec (.coastEnd a) s = .next t ∧ s.onlyIn t [.axes, .moves, .engine, .van, .store] ∧
          t.axis a = ({ u.rested with confidence := .normalised, halted := false }).drivenTo a g false ∧
          (∀ b, b ≠ a → t.axis b = s.axis b) ∧
          (∀ b : Axis, t.stopsOf b = if b = a then some ⟨10, hi⟩ else s.stopsOf b) ∧
          (∃ v, t.van = { s.van with stops := v }) ∧ t.store.vanState = .pending ∧ s.tookCommit t 49 ∧
          t.engine = { s.engine with active := some { granted with
            stage := .leg3
            outcomes := op.outcomes.map fun y =>
              if y.axis = a then { y with target := some g, clamped := decide (g ≠ op.d1) } else y } } ∧
          t.moves = { entries := [driving (.target g) (1000 + 2 * (g - u.position).natAbs * s.msPerCount a)] })) ∧
    (∀ op e d (o : OutcomeEntry), s.legSettles op e a d → op.outcomes = [o] → o.axis = a → o.planned = true →
      s.engine.arm = none → s.engine.returnAllowed = false →
      let closed := fun (t : State) (r : AxisOutcome) (suspect : Bool) (result : OpResult) =>
        t.moves = {} ∧ (∀ b, b ≠ a → t.axis b = s.axis b) ∧
        t.engine = { s.engine with active := none, ring := ({
          tag := op.tag, cause := .normalise, port := op.requester, result := result, abortCause := none
          entries := [⟨a, o.from_, u.position, r⟩] } :: s.engine.ring).take 8 } ∧
        s.gains t (eventAt (opDonePorts op.requester) (.opDone .normalise op.tag result none
          [{ o with outcome := some r, final := some u.position, suspect := suspect }]))
      (op.stage = .leg2 → op.newLow = some 10 → d = .decided .endStop → u.position < 84 → s.commitPlace 49 = true →
        ∃ t, exec (.coastEnd a) s = .next t ∧ s.onlyIn t [.ports, .axes, .moves, .engine, .van, .store] ∧
          closed t .range false .partly ∧ t.axis a = { u.rested with confidence := .lost } ∧
          (∀ b : Axis, t.stopsOf b = if b = a then none else s.stopsOf b) ∧
          (∃ v, t.van = { s.van with stops := v }) ∧ t.store.vanState = .pending ∧ s.tookCommit t 49) ∧
      (op.stage = .leg1 ∨ op.stage = .leg2 → (∃ y, e.kind = .seek y) → d = .decided .timeout →
        ∃ t, exec (.coastEnd a) s = .next t ∧ s.onlyIn t [.ports, .axes, .moves, .engine] ∧
          closed t .timeout (decide (op.startConfidence = .suspect)) .partly ∧
          t.axis a = { u.rested with confidence := op.startConfidence }) ∧
      (op.stage = .leg3 → d = .judge → (∃ g, e.kind = .target g ∧ (u.position - g).natAbs ≤ 2) →
        ∃ t, exec (.coastEnd a) s = .next t ∧ s.onlyIn t [.ports, .axes, .moves, .engine] ∧
          closed t .reached (decide (u.confidence = .suspect)) .complete ∧ t.axis a = u.rested))

/-- 04, section 4.7 and 01, section 1.7: a new JOG on a quiet part drives at once where the axis is idle, there is budget,
and the end of travel lies beyond the deadband: a TARGET move to the stop, with its cut point the effective lead before it
(`AxisUnit.drivenTo`), or a SEEK, which has none, on a LOST axis. HALTED is cleared. -/
def Obligations.JogDrivesAtOnce : Prop :=
  ∀ (s : State) (x y : Byte) (a : Axis) (d : Dir), s.ready .panel → s.quiet → a.val = x.toNat →
    y = (match d with | .up => 0 | .down => 1) → s.jogFree a d →
    ∃ t, exec (.jog x y) s = .next t ∧ s.onlyIn t [.ports, .axes, .moves, .model] ∧
      s.answersWith t .panel (.jog x y) { code := .ok } noEvents ∧ s.jogDrives t a d

/-- 04, section 4.7: a JOG in the direction of an OPEN record restarts its keep-alive timer and changes nothing else.
JOG_END, and the expiry of the keep-alive timer, release the open jog, whose record becomes CLOSING: the DRIVING entry of a
counted axis is cut and settles to REACHED, and a SETTLING entry settles to REACHED unless its outcome is decided. A DRIVING
mirror is cut, and its entry, like a WAITING one, ends REACHED at once; the record then closes in the same action and writes
its JOG record to the ring, as does one whose entry has ended before. With no open record neither has an effect: for the
expiry that is the model's choice (log 1). -/
def Obligations.OpenJogRefreshedOrReleased : Prop :=
  ∀ (s : State) (x : Byte) (a : Axis), a.val = x.toNat → s.isEffective a = true →
    (∀ (y : Byte) (r : JogRecord), s.ready .panel →
      s.openJog a = some r → y = (match r.dir with | .up => 0 | .down => 1) →
      ∃ t, exec (.jog x y) s = .next t ∧ s.onlyIn t [.ports, .moves] ∧
        t.moves = { s.moves with jogs := s.moves.jogs.map fun q =>
          if q.axis = a ∧ q.closing = false then { q with keepAlive := some 300 } else q } ∧
        s.answersWith t .panel (.jog x y) { code := .ok } noEvents) ∧
    (s.ready .panel → s.openJog a = none →
      exec (.jogEnd x) s = .next (s.answered .panel (.jogEnd x) { code := .ok })) ∧
    (s.powered = true → s.openJog a = none → exec (.keepAliveExpiry a) s = .next s) ∧
    (∀ (j : JogRecord) (c : Instr), j.axis = a → j.backoff = false →
      (c = .jogEnd x ∧ s.ready .panel) ∨
        (c = .keepAliveExpiry a ∧ s.powered = true ∧ s.power.state = .run ∧ j.keepAlive.isSome) →
      let p := (s.axis a).position
      let releases := fun (u : AxisUnit) (m : MoveList) (g : RecallEngine) =>
        ∃ t, exec c s = .next t ∧ s.onlyIn t [.ports, .axes, .moves, .engine] ∧ t.moves = m ∧ t.engine = g ∧
          t.axis a = u ∧ (∀ b, b ≠ a → t.axis b = s.axis b) ∧
          (c = .jogEnd x → s.answersWith t .panel (.jogEnd x) { code := .ok } noEvents) ∧
          (c = .keepAliveExpiry a → t.ports = s.ports)
      let closed := (s.jogClosed j .reached p none).engine
      (∀ e, s.oneDrive e j → a.counted = true → releases (s.axis a).coasting
          { entries := [e.settles (.decided .reached)], jogs := [j.released] } s.engine) ∧
      (∀ e, s.oneDrive e j → a.mirror = true → releases (s.axis a).stopped {} closed) ∧
      (∀ e, s.oneQueued e j → releases (s.axis a) {} closed) ∧
      (∀ e d, s.oneSettling e j → e.disposition = some d →
        releases (s.axis a) {
          entries := [{ e with disposition := some (
            if d = .judge ∨ d = .resume then .decided .reached else d) }]
          jogs := [j.released] } s.engine) ∧
      (∀ o y, s.moves = { jogs := [j] } → s.engine.active = none → s.engine.closing = [] → j.closing = false →
        j.outcome = some o → j.final = some y →
        releases (s.axis a) {}
          (s.jogClosed j o y (if o = .aborted ∧ j.abortSource = some .stopAll then some .stop else none)).engine))

/-- 07, sections 7.2 and 7.3: a RECALL whose plan moves one axis only: the operation takes its tag, plans every axis, passes
the phases with nothing to move, and in the axis's phase drives it towards its target: a mirror, or a column axis that
clears the driver, in PHASE_1, a seat axis in PHASE_2, a column axis otherwise in PHASE_3. -/
def Obligations.RecallDrivesItsOneAxis : Prop :=
  ∀ (s : State) (i : SlotIx) (a : Axis) (g : Int), s.ready .panel → s.quiet → s.van.commissioned = true →
    s.table.driver = .known i → s.permitsCause .recall = true →
    let src := Source.positions (s.slot i).record.profile.positions (some (i, (s.slot i).record.driver))
    s.oneMove src a g →
    ∃ t, exec .recall s = .next t ∧ s.onlyIn t [.ports, .axes, .moves, .engine, .table, .model] ∧
      s.answersWith t .panel .recall { code := .accepted, fields := encNat32 s.table.counter } noEvents ∧
      t.table = { s.table with counter := min (s.table.counter + 1) 4294967295 } ∧
      t.axis a = (s.axis a).drivenTo a g false ∧ (∀ b, b ≠ a → t.axis b = s.axis b) ∧
      ∃ op : Operation, t.engine = { s.engine with active := some op } ∧ op.kind = .recall ∧
        op.tag = s.table.counter ∧ op.requester = .panel ∧ op.stage = firstPhase a (s.axis a).position g ∧
        op.source = src ∧ op.abortCause = none ∧ op.progress = some 5000 ∧
        op.outcomes = allAxes.map (s.planAxis src) ∧
        t.moves = { entries := [{ axis := a, cause := .recall, kind := .target g, tag := s.table.counter
                                  owner := .operation op.id, state := .driving
                                  timeLimit := some (1000 + 2 * (g - (s.axis a).position).natAbs * s.msPerCount a) }] }

/-- 07, sections 7.2 and 7.6: a RECALL that plans no axis is accepted, passes its empty phases and closes in the same
action: OP_DONE at the panel, no history record, the slot's stamp written and committed. -/
def Obligations.RecallOfNothingClosesAtOnce : Prop :=
  ∀ (s : State) (i : SlotIx), s.ready .panel → s.quiet → s.van.commissioned = true → s.table.driver = .known i →
    (s.slot i).record.inUse = true → s.permitsCause .recall = true → s.engine.arm = none →
    s.engine.returnAllowed = false → s.commitPlace (slotBlock i) = true →
    let src := Source.positions (s.slot i).record.profile.positions (some (i, (s.slot i).record.driver))
    (∀ a, ∃ o, s.testAxis src a = .error o) →
    ∃ t, exec .recall s = .next t ∧ s.onlyIn t [.ports, .table, .store, .model] ∧
      t.slot i = { storage := .pending, record := { (s.slot i).record with stamp := s.table.counter } } ∧
      (∀ j, j ≠ i → t.slot j = s.slot j) ∧ t.table.counter = min (s.table.counter + 1) 4294967295 ∧
      t.table.dirty = s.table.dirty ∧ t.table.driver = s.table.driver ∧ t.table.dflt = s.table.dflt ∧
      s.tookCommit t (slotBlock i) ∧
      s.answersWith t .panel .recall { code := .accepted, fields := encNat32 s.table.counter }
        (eventAt [.panel] (.opDone .recall s.table.counter
          (if ∀ a, s.testAxis src a = .error .absent ∨ s.testAxis src a = .error .disabled then .complete else .partly)
          none (allAxes.map (s.planAxis src))))

/-- 07, section 7.8 and 03, section 3.5: an UNDO of a record whose one entry is a mirror's: the record is marked undone,
and the mirror drives back to its "from", clamped into its travel. -/
def Obligations.UndoDrivesBack : Prop :=
  ∀ (s : State) (r : HistoryRecord) (older newer : List HistoryRecord) (h : HistoryEntry), s.ready .panel → s.quiet →
    s.van.commissioned = true → s.permitsCause .undo = true → s.engine.ring = newer ++ r :: older →
    (∀ q ∈ newer, q.cause ≠ .recall ∨ q.undone = true) → r.cause = .recall → r.undone = false → r.entries = [h] →
    h.axis.mirror = true → s.isEffective h.axis = true → (s.axis h.axis).halted = false → (s.axis h.axis).hot = false →
    (s.axis h.axis).sensorFault = false → (s.axis h.axis).motion = .idle → demand h.axis ≤ s.budget →
    let lim := s.mirrorLimits h.axis
    let g := clampInt lim.lo lim.hi h.from_
    3 < ((s.axis h.axis).position - g).natAbs →
    ∃ t, exec .undo s = .next t ∧ s.onlyIn t [.ports, .axes, .moves, .engine, .table, .model] ∧
      s.answersWith t .panel .undo { code := .accepted, fields := encNat32 s.table.counter } noEvents ∧
      t.table = { s.table with counter := min (s.table.counter + 1) 4294967295 } ∧
      t.axis h.axis = (s.axis h.axis).drivenTo h.axis g false ∧ (∀ b, b ≠ h.axis → t.axis b = s.axis b) ∧
      ∃ op : Operation,
        t.engine = { s.engine with active := some op, ring := newer ++ { r with undone := true } :: older } ∧
        op.kind = .undo ∧ op.tag = s.table.counter ∧ op.requester = .panel ∧ op.stage = .phase1 ∧
        op.source = .record r.tag [(h.axis, h.from_)] ∧ op.abortCause = none ∧ op.progress = some 5000 ∧
        op.outcomes = [{ axis := h.axis, planned := true, from_ := (s.axis h.axis).position, target := some g
                         clamped := decide (g ≠ h.from_) }] ∧
        t.moves = { entries := [{ axis := h.axis, cause := .undo, kind := .target g, tag := s.table.counter
                                  owner := .operation op.id, state := .driving
                                  timeLimit := some (1000 + 20 * (g - (s.axis h.axis).position).natAbs) }] }

/-- 10, section 10.8 and 04, section 4.6: STOP_ALL at any port: with nothing in hand it answers zero counts; a driving jog
of a counted axis is cut and settles to ABORTED, and its record is marked and stays OPEN. A second STOP_ALL, at any port
that can take it, finds nothing of what the first has ended. -/
def Obligations.StopAllEndsTheDrive : Prop :=
  ∀ (s : State) (p : Port), s.ready p →
    (s.quiet → exec (.stopAll p) s = .next (s.answered p .stopAll { code := .ok, fields := List.replicate 7 0 })) ∧
    (∀ e j, s.oneDrive e j → e.axis.counted = true →
      ∃ t, exec (.stopAll p) s = .next t ∧ s.onlyIn t [.ports, .axes, .moves] ∧
        s.answersWith t p .stopAll { code := .ok, fields := [1, 0, 0, 0, 0, 0, 1] } noEvents ∧
        t.moves = { entries := [e.stoppedByAll]
                    jogs := [{ j with outcome := some .aborted, abortSource := some .stopAll }] } ∧
        t.axis e.axis = (s.axis e.axis).coasting ∧ (∀ b, b ≠ e.axis → t.axis b = s.axis b) ∧
        ∀ q, t.ready q →
          exec (.stopAll q) t = .next (t.answered q .stopAll { code := .ok, fields := List.replicate 7 0 }))

/-! ## Sensors and axis timers -/

/-- 01, sections 1.3 and 1.7: a Hall pulse on a fitted counted axis in RUN or PARKING, by the motion state: counted and
saturated while driving and while coasting, stray while idle; disregarded on an axis that is not fitted, and in PARK and
WAKING. The counted pulse that brings a driving jog to its cut point cuts the motor, and its entry settles to be judged
at the coast end. -/
def Obligations.HallPulseCounts : Prop :=
  ∀ (s : State), s.powered = true →
    (∀ a : Axis, a.counted = true →
      let u := s.axis a
      let counted := fun (x : Int) (timer : Option Nat) => State.setAxis s a { u with
        position := max (-32768) (min 32767 x), travel := u.travel + 1, stallTimer := timer }
      let sensed := s.isFitted a = true ∧ (s.power.state = .run ∨ s.power.state = .parking)
      (¬sensed → exec (.hallPulse a) s = .next s) ∧
      (sensed → (∀ op, s.engine.active = some op → op.stage ≠ .leg1) →
        (u.motion = .drivingUp → u.cutPoint ≠ some (max (-32768) (min 32767 (u.position + 1))) →
          exec (.hallPulse a) s = .next (counted (u.position + 1) (some 200))) ∧
        (u.motion = .drivingDown → u.cutPoint ≠ some (max (-32768) (min 32767 (u.position - 1))) →
          exec (.hallPulse a) s = .next (counted (u.position - 1) (some 200))) ∧
        (u.motion = .coasting → exec (.hallPulse a) s = .next
          (counted (match u.lastDir with | .up => u.position + 1 | .down => u.position - 1) u.stallTimer))) ∧
      (sensed → u.motion = .idle → ∃ t, exec (.hallPulse a) s = .next t ∧ s.onlyIn t [.ports, .axes] ∧
        t.axis a = { u with confidence := (if u.confidence = .normalised then .suspect else u.confidence)
                            strayRaised := true } ∧
        (∀ b, b ≠ a → t.axis b = s.axis b) ∧
        s.gains t (if u.strayRaised then noEvents else eventAt [.vehicle, .panel] (.axisFault a .stray)))) ∧
    (∀ (e : MoveEntry) (j : JogRecord), s.power.state = .run → s.oneDrive e j →
      e.axis.counted = true → s.isFitted e.axis = true →
      let u := s.axis e.axis
      let x := max (-32768) (min 32767 (if u.motion = .drivingUp then u.position + 1 else u.position - 1))
      u.cutPoint = some x →
      ∃ t, exec (.hallPulse e.axis) s = .next t ∧ s.onlyIn t [.axes, .moves] ∧
        t.moves = { entries := [e.settles .judge], jogs := [j] } ∧
        t.axis e.axis = { u with
          position := x, travel := u.travel + 1, motion := .coasting, coastTimer := some 150, countAtCut := x
          cutAtPoint := true, cutPoint := none, stallTimer := none } ∧
        ∀ b, b ≠ e.axis → t.axis b = s.axis b)

/-- 01, sections 1.5, 1.6 and 1.7: a sample of a fitted mirror. Where it does not drive: an in-range value replaces the raw
value and clears SENSOR_FAULT; an out-of-range one sets it, with AXIS_FAULT where it was clear; the first sample after a cut
adds its difference to the travel. Where a jog drives it: every sample adds to the travel; one at or beyond the target cuts
the motor, and the move ends REACHED within the deadband, has its one correction granted beyond it, or ends OFF_TARGET; one
short of it, 2 or more from the stall reference, is the new reference and restarts the stall timer; one out of range sets
SENSOR_FAULT and ends the move SENSOR, and that it does so at or beyond the target too is the model's reading (log 17). No
sample is taken in PARK and WAKING. 07, sections 7.3 and 7.6: where the active operation drives it and the move ends so,
REACHED or OFF_TARGET, the outcome enters the outcome list; with no axis left to move the operation closes, with OP_DONE,
its history record and a RECALL's stamp; where one axis is left to a later phase, that phase begins. -/
def Obligations.MirrorSampleJudged : Prop :=
  ∀ (s : State) (a : Axis) (raw : BitVec 10), s.powered = true → a.mirror = true →
    let u := s.axis a
    let sensed := s.isFitted a = true ∧ (s.power.state = .run ∨ s.power.state = .parking)
    let good := 8 ≤ raw.toNat ∧ raw.toNat ≤ 1015
    let x : Int := raw.toNat
    let moved := BitVec.ofNat 32 (x - u.position).natAbs
    (¬sensed → exec (.mirrorSample a raw) s = .next s) ∧
    (sensed → u.driving = false → ∃ t, exec (.mirrorSample a raw) s = .next t ∧ s.onlyIn t [.ports, .axes] ∧
      (∀ b, b ≠ a → t.axis b = s.axis b) ∧
      t.axis a = { u with
        position := x, cutSampleDue := false, sensorFault := decide (¬good)
        travel := if u.cutSampleDue then u.travel + moved else u.travel } ∧
      s.gains t (if ¬good ∧ u.sensorFault = false then eventAt [.vehicle, .panel] (.axisFault a .sensor)
                 else noEvents)) ∧
    (∀ e j g, s.oneDrive e j → e.axis = a → e.kind = .target g → s.isFitted a = true → s.power.state = .run →
      u.sensorFault = false → u.lastDir = (if u.motion = .drivingUp then Dir.up else .down) →
      let v := { u with position := x, travel := u.travel + moved, cutSampleDue := false }
      let arrived := if u.motion = .drivingUp then g ≤ x else x ≤ g
      (¬good → ∃ t, exec (.mirrorSample a raw) s = .next t ∧ s.onlyIn t [.ports, .axes, .moves] ∧
        t.axis a = { v.stopped with sensorFault := true } ∧ (∀ b, b ≠ a → t.axis b = s.axis b) ∧
        t.moves = { jogs := [j.ended .sensor x] } ∧
        s.gains t (eventAt [.vehicle, .panel] (.axisFault a .sensor))) ∧
      (good → ¬arrived → exec (.mirrorSample a raw) s = .next (s.setAxis a
        (if 2 ≤ (x - u.stallRef).natAbs then { v with stallRef := x, stallTimer := some 300 } else v))) ∧
      (good → arrived →
        ((x - g).natAbs ≤ 3 → exec (.mirrorSample a raw) s =
          .next { (s.setAxis a v.stopped) with moves := { jogs := [j.ended .reached x] } }) ∧
        (3 < (x - g).natAbs → e.correctionUsed = true → exec (.mirrorSample a raw) s =
          .next { (s.setAxis a v.stopped) with moves := { jogs := [j.ended .offTarget x] } }) ∧
        (3 < (x - g).natAbs → e.correctionUsed = false → u.hot = false → demand a ≤ s.budget →
          exec (.mirrorSample a raw) s = .next { (s.setAxis a (v.stopped.drivenTo a g true)) with
            moves := {
              entries := [{ e with
                correctionUsed := true, passCount := 0, disposition := none
                timeLimit := some (1000 + 20 * (g - x).natAbs) }]
              jogs := [j] } }))) ∧
    (∀ op e g, s.oneEntry op e → e.cause = op.kind.cause → e.axis = a → e.kind = .target g → e.state = .driving →
      u.driving = true → s.isFitted a = true → s.power.state = .run → u.sensorFault = false →
      u.lastDir = (if u.motion = .drivingUp then Dir.up else .down) → good →
      (if u.motion = .drivingUp then g ≤ x else x ≤ g) →
      let v := { u with position := x, travel := u.travel + moved, cutSampleDue := false }
      ((x - g).natAbs ≤ 3 → s.operationGoesOn (.mirrorSample a raw) op e v.stopped .reached x) ∧
      (3 < (x - g).natAbs → e.correctionUsed = true →
        s.operationGoesOn (.mirrorSample a raw) op e v.stopped .offTarget x))

/-- 01, sections 1.2, 1.6 and 1.7, 04, sections 4.6 and 4.7: the coast end of a counted axis: IDLE, a new IDLE period, the
lead of the driven direction learned after a cut at a cut point; and the entry that settles there is resolved by its
disposition. It leaves the list and reports to its jog: REACHED, OFF_TARGET or as decided; TIMEOUT makes a NORMALISED axis
SUSPECT; the re-referencing END_STOP makes the count 0 and a LOST axis SUSPECT; OBSTRUCTED sets HALTED, and a backoff by 20
counts is admitted unless it is withheld. An OPEN record keeps the outcome; a CLOSING one closes and writes its JOG record to
the ring, ABORTED by STOP where STOP_ALL has marked it. Or the entry returns to WAITING, for its one correction or after a
revocation, and is granted where there is budget. 09, section 9.3: in PARKING, where the snapshot waits for the coast ends,
the last one raises its commit (a superseded jog's entry, which settles off the list, ends there and its record closes: the
model's reading, log 41). 07, sections 7.3 and 7.6: where the entry, or the backoff that followed it, is the active
operation's, its end enters the outcome list, with the SUSPECT flag as the ending's own change of confidence leaves the
axis (a TIMEOUT of a NORMALISED axis sets it: the model's reading, log 24); with no axis left to move the operation closes, with OP_DONE, its history
record, a RECALL's stamp and an EXIT's return allowance; where one axis is left to a later phase, it is re-tested and that
phase begins. A stopped timer's expiry changes nothing (the model's choice, log 1). -/
def Obligations.CoastEndResolves : Prop :=
  ∀ (s : State) (a : Axis), s.powered = true →
    let u := s.axis a
    let x := u.position
    (u.coastTimer = none → exec (.coastEnd a) s = .next s) ∧
    (u.coastTimer.isSome → u.motion = .coasting → s.power.state = .parking → s.power.coastWait = true → a.counted = true →
      let goesOn := fun (b : State) =>
        ((∃ c : Axis, c ≠ a ∧ c.counted = true ∧ (s.axis c).motion = .coasting) → exec (.coastEnd a) s = .next b) ∧
        ((∀ c : Axis, c ≠ a → c.counted = true → (s.axis c).motion ≠ .coasting) →
          ∃ t, exec (.coastEnd a) s = .next t ∧ b.onlyIn t [.store, .power] ∧
            t.power = { s.power with coastWait := false } ∧ t.store.snapState = .pending ∧
            t.snapshotImage.consumed = false ∧ (s.commitPlace 50 = true → s.tookCommit t 50) ∧
            (s.commitPlace 50 = false → s.store.state ≠ .idle →
              t.store = { s.store with
                snapState := .pending, held := if 50 ∈ s.store.held then s.store.held else s.store.held ++ [50] }))
      (s.quiet → goesOn (s.setAxis a u.rested)) ∧
        ∀ e j, s.oneOffList e j → e.axis = a → goesOn ((s.setAxis a u.rested).jogClosed j .superseded x none)) ∧
    (u.coastTimer.isSome → u.motion = .coasting → s.power.state = .run → s.power.coastWait = false → a.counted = true →
      let leaves := fun (v : AxisUnit) (es : List MoveEntry) (j : JogRecord) =>
        exec (.coastEnd a) s = .next { (s.setAxis a v) with moves := { entries := es, jogs := [j] } }
      let limit := fun (g : Int) => some (1000 + 2 * (g - x).natAbs * s.msPerCount a)
      let ends := fun (e : MoveEntry) (o : AxisOutcome) (v : AxisUnit) (y : Int) =>
        (e.disposition = some (.decided o) ∧ o ≠ .obstructed ∧ o ≠ .timeout ∧ v = u.rested ∧ y = x) ∨
        (e.disposition = some .judge ∧ o = .reached ∧ (∃ g, e.kind = .target g ∧ (x - g).natAbs ≤ 2) ∧
          v = u.rested ∧ y = x) ∨
        (e.disposition = some .judge ∧ o = .offTarget ∧ e.correctionUsed = true ∧
          (∃ g, e.kind = .target g ∧ 2 < (x - g).natAbs) ∧ v = u.rested ∧ y = x) ∨
        (e.disposition = some (.decided .timeout) ∧ o = .timeout ∧ y = x ∧
          v = { u.rested with confidence := if u.confidence = .normalised then .suspect else u.confidence }) ∨
        (e.disposition = some .rereference ∧ o = .endStop ∧ y = 0 ∧ v = { u.rested with
          position := 0, confidence := if u.confidence = .lost then .suspect else u.confidence }) ∨
        (e.disposition = some (.decided .obstructed) ∧ e.noBackoff = true ∧ o = .obstructed ∧ y = x ∧
          v = { u.rested with halted := true })
      (s.quiet → exec (.coastEnd a) s = .next (s.setAxis a u.rested)) ∧
      (∀ e j o v y, e.axis = a → ends e o v y →
        (s.oneSettling e j →
          leaves v [] { j.ended o y with abortSource := if o = .aborted then some .maskDeparture else none }) ∧
        (s.oneClosing e j → j.abortSource = none →
          exec (.coastEnd a) s = .next ((s.setAxis a v).jogClosed j o y none)) ∧
        (s.oneClosing e j → j.abortSource = some .stopAll → j.outcome = some .aborted →
          exec (.coastEnd a) s = .next ((s.setAxis a v).jogClosed j .aborted y (some .stop)))) ∧
      (∀ op e o v y, s.oneEntry op e → e.cause = op.kind.cause ∨ e.cause = .backoff → e.axis = a → e.state = .settling →
        ends e o v y → s.operationGoesOn (.coastEnd a) op e v o y) ∧
      ∀ e j, s.oneSettling e j ∨ (s.oneClosing e j ∧ j.abortSource = none) → e.axis = a →
        (e.disposition = some (.decided .obstructed) → e.noBackoff = false → u.hot = false →
          let v := { u.rested with halted := true }
          let raw := match u.lastDir with | .up => x - 20 | .down => x + 20
          let g := match s.stopsOf a with | some st => clampInt st.lo st.hi raw | none => raw
          let b : MoveEntry :=
            { axis := a, cause := .backoff, kind := .target g, tag := e.tag, owner := .jog j.id }
          let r := { j.ended .obstructed x with backoff := true }
          (s.budget < demand a → leaves v [b] r) ∧
          (demand a ≤ s.budget → 2 < (x - g).natAbs →
            leaves (v.drivenTo a g false) [{ b with state := .driving, timeLimit := limit g }] r)) ∧
        (∀ g c, e.kind = .target g →
          (e.disposition = some .resume ∧ c = e.correctionUsed) ∨
            (e.disposition = some .judge ∧ e.correctionUsed = false ∧ 2 < (x - g).natAbs ∧ c = true) →
          u.hot = false →
          let w := { e with state := .waiting, timeLimit := none, disposition := none, correctionUsed := c }
          (s.budget < demand a → leaves u.rested [w] j) ∧
          (demand a ≤ s.budget → 2 < (x - g).natAbs →
            leaves (u.rested.drivenTo a g c) [{ w with state := .driving, passCount := 0, timeLimit := limit g }] j)))

/-- 01, section 1.6 and 04, section 4.6: the stall and the time limit of a driving jog, and of the active operation's one
driving entry. At a stall a counted axis is cut
and its entry settles to END_STOP near its stops, OBSTRUCTED elsewhere, STALLED on a LOST axis's SEEK UP, and to the
re-referencing END_STOP on a LOST axis's SEEK DOWN with learned stops; a mirror's ends at the cut. At the time limit a
counted axis's entry settles to TIMEOUT, a mirror's ends so. An operation goes on from the end of a mirror's move as from
its arrival. A stopped timer's expiry changes nothing (log 1). -/
def Obligations.StallAndTimeLimitEndTheDrive : Prop :=
  ∀ (s : State) (a : Axis), s.powered = true →
    let u := s.axis a
    let lim := s.mirrorLimits a
    let settlesTo := fun (e : MoveEntry) (d : Disposition) =>
      (u.confidence ≠ .lost ∧ (∃ st, s.stopsOf a = some st ∧ (u.position ≤ st.lo + 16 ∨ st.hi - 16 ≤ u.position)) ∧
          d = .decided .endStop) ∨
        (u.confidence ≠ .lost ∧ (∃ st, s.stopsOf a = some st ∧ st.lo + 16 < u.position ∧ u.position < st.hi - 16) ∧
          d = .decided .obstructed) ∨
        (u.confidence = .lost ∧ e.kind = .seek .up ∧ d = .decided .stalled) ∨
        (u.confidence = .lost ∧ e.kind = .seek .down ∧ s.stopsOf a = none ∧ d = .decided .stalled) ∨
        (u.confidence = .lost ∧ e.kind = .seek .down ∧ (s.stopsOf a).isSome ∧ d = .rereference)
    let mirrorStall : AxisOutcome :=
      if u.position ≤ lim.lo + 8 ∨ lim.hi - 8 ≤ u.position then .endStop else .obstructed
    let stalledMirror := { u.stopped with
      stallPos := u.position, halted := u.halted || mirrorStall == .obstructed }
    let opDrives := fun (op : Operation) (e : MoveEntry) =>
      s.oneEntry op e ∧ e.cause = op.kind.cause ∧ e.axis = a ∧ e.state = .driving ∧ u.driving = true ∧
        s.power.state = .run
    ((u.stallTimer = none → exec (.stall a) s = .next s) ∧
      (∀ e j, s.oneDrive e j → e.axis = a → u.stallTimer.isSome → s.power.state = .run →
        (a.counted = true → ∀ d, settlesTo e d →
          exec (.stall a) s = .next { (s.setAxis a { u.coasting with stallPos := u.position }) with
            moves := { entries := [e.settles d], jogs := [j] } }) ∧
        (a.mirror = true → exec (.stall a) s = .next { (s.setAxis a stalledMirror) with
            moves := { jogs := [j.ended mirrorStall u.position] } })) ∧
      (∀ op e, opDrives op e → u.stallTimer.isSome →
        (a.counted = true → ∀ d, settlesTo e d →
          exec (.stall a) s = .next { (s.setAxis a { u.coasting with stallPos := u.position }) with
            moves := { entries := [e.settles d] } }) ∧
        (a.mirror = true → s.operationGoesOn (.stall a) op e stalledMirror mirrorStall u.position))) ∧
    (((∀ e, s.entryOf a = some e → e.state ≠ .driving) → exec (.timeLimitExpiry a) s = .next s) ∧
      (∀ e j, s.oneDrive e j → e.axis = a → e.timeLimit.isSome → s.power.state = .run →
        (a.counted = true → exec (.timeLimitExpiry a) s = .next { (s.setAxis a u.coasting) with
            moves := { entries := [e.settles (.decided .timeout)], jogs := [j] } }) ∧
        (a.mirror = true → exec (.timeLimitExpiry a) s = .next { (s.setAxis a u.stopped) with
            moves := { jogs := [j.ended .timeout u.position] } })) ∧
      (∀ op e, opDrives op e → e.timeLimit.isSome →
        (a.counted = true → exec (.timeLimitExpiry a) s = .next { (s.setAxis a u.coasting) with
            moves := { entries := [e.settles (.decided .timeout)] } }) ∧
        (a.mirror = true → s.operationGoesOn (.timeLimitExpiry a) op e u.stopped .timeout u.position)))

/-- 01, sections 1.8 and 1.9: the 100 ms interval of a fitted axis outside PARK: the run time of an axis that drove, the
heat score of a counted one up by four to 600 or down by one to 0, HOT set at 600 and cleared below 360; a driving entry of
a jog, or of the active operation, whose axis becomes HOT is cut and ends HOT, and the operation goes on from there. -/
def Obligations.IntervalsCountAndHeat : Prop :=
  ∀ (s : State) (a : Axis), s.powered = true → s.isFitted a = true → (s.axis a).intervalTimer.isSome →
    s.power.state ≠ .park →
    let u := s.axis a
    let ran := u.drove = true ∨ u.driving = true
    let base := { u with
      runTime := if ran then u.runTime + 1 else u.runTime, intervalTimer := some 100, drove := u.driving }
    (a.mirror = true → exec (.runTimeInterval a) s = .next (s.setAxis a base)) ∧
    (a.counted = true →
      let heat := if ran then min (u.heat + 4) 600 else u.heat - 1
      let hot := if 600 ≤ heat then true else if heat < 360 then false else u.hot
      ((u.hot = true ∨ hot = false) →
        exec (.heatInterval a) s = .next (s.setAxis a { base with heat := heat, hot := hot })) ∧
      (∀ e j, s.oneDrive e j → e.axis = a → s.power.state = .run → u.hot = false → hot = true →
        exec (.heatInterval a) s = .next { (s.setAxis a { base.coasting with
            heat := heat, hot := true, drove := false }) with
          moves := { jogs := [j.ended .hot u.position] } }) ∧
      (∀ op e, s.oneEntry op e → e.cause = op.kind.cause → e.axis = a → e.state = .driving → u.driving = true →
        s.power.state = .run → u.hot = false → hot = true →
        s.operationGoesOn (.heatInterval a) op e { base.coasting with heat := heat, hot := true, drove := false } .hot
          u.position))

/-- 07, sections 7.4 to 7.7, 04, sections 4.6 and 4.7, 05, section 5.6, 10, section 10.8: what aborts an operation whose one
entry on the move list waits, whatever its outcome list holds besides, in RUN (outside it no operation is active: O8): the
progress timer's expiry with NO_PROGRESS, a report or the freshness timer's expiry that withdraws its cause with VEHICLE,
STOP_ALL with STOP, a new JOG with USER. The entry's axis ends ABORTED, with every planned axis that has no outcome and a
column axis that waits for PHASE_3; OP_DONE carries the whole list and the cause, the record is written with one entry for
each planned axis, and a RECALL's slot takes the stamp; the command then does what it does besides. With no active operation
the progress timer's expiry changes nothing (the model's choice, log 1). -/
def Obligations.ActiveOperationIsAborted : Prop :=
  ∀ (s : State), s.powered = true →
    (s.engine.active = none → exec .progressTimerExpiry s = .next s) ∧
    ∀ (op : Operation) (e : MoveEntry), s.oneWaiting op e →
      let es := s.abortedList op e.axis
      let done := fun (c : AbortCause) => eventAt (opDonePorts op.requester) (op.doneEvent es (some c))
      (op.progress.isSome → s.power.state = .run →
        ∃ t, exec .progressTimerExpiry s = .next t ∧ s.onlyIn t [.ports, .moves, .engine, .table, .store] ∧
          t.moves = {} ∧ s.opCloses t op es (some .noProgress) ∧ s.gains t (done .noProgress)) ∧
      (∀ (speed gear ignition door supply : Byte), s.ready .vehicle → s.engine.arm = none →
        s.engine.returnAllowed = false → s.permitsCause op.kind.cause = true →
        let r := (decReport speed gear ignition door supply).1
        let clamped := (decReport speed gear ignition door supply).2
        permits true r op.kind.cause = false →
        ∃ t, exec (.vehicleState speed gear ignition door supply) s = .next t ∧
          s.onlyIn t [.ports, .monitor, .moves, .engine, .table, .store] ∧
          t.monitor = { fresh := true, record := r, freshTimer := some 500, lastIgnition := some r.ignition } ∧
          t.moves = {} ∧ s.opCloses t op es (some .vehicle) ∧
          s.answersWith t .vehicle (.vehicleState speed gear ignition door supply)
            { code := .ok, clamped := clamped
              fields := enc8 (budgetOf true r) ++ enc16 (permissionMask (permittedOf true r)) } (done .vehicle)) ∧
      (s.monitor.freshTimer.isSome → s.power.state = .run → s.permitsCause op.kind.cause = true →
        ∃ t, exec .freshnessExpiry s = .next t ∧ s.onlyIn t [.ports, .monitor, .moves, .engine, .table, .store] ∧
          t.monitor = { fresh := false, record := {}, freshTimer := none, lastIgnition := s.monitor.lastIgnition } ∧
          t.moves = {} ∧ s.opCloses t op es (some .vehicle) ∧
          s.gains t fun p => eventAt [.vehicle, .panel] .vehicleStale p ++ done .vehicle p) ∧
      (∀ p, s.ready p →
        ∃ t, exec (.stopAll p) s = .next t ∧ s.onlyIn t [.ports, .moves, .engine, .table, .store] ∧
          t.moves = {} ∧ s.opCloses t op es (some .stop) ∧
          s.answersWith t p .stopAll { code := .ok, fields := [1, 1] ++ encNat32 op.tag ++ [0] } (done .stop)) ∧
      (∀ (x y : Byte) (a : Axis) (d : Dir), s.ready .panel → a.val = x.toNat →
        y = (match d with | .up => 0 | .down => 1) → s.jogFree a d →
        ∃ t, exec (.jog x y) s = .next t ∧
          s.onlyIn t [.ports, .axes, .moves, .engine, .table, .store, .model] ∧
          s.opCloses t op es (some .user) ∧ s.jogDrives t a d ∧
          s.answersWith t .panel (.jog x y) { code := .ok } (done .user))

/-! ## The array -/

/-- 08, sections 8.2 and 8.3: a good erase leaves the target BLANK and starts the program, with its timer; a program that
reads back equal leaves the block VALID with the image and ends the write OK. Where the queue is empty the store is then
IDLE with its last result; otherwise, but in PARK, the write at the head of the queue starts with the RAM copy as it stands,
and the oldest held commit takes the place it frees. The block of a slot, the default profile or the van record is STORED,
or PENDING where a commit of it still waits or is held, and STORE_RESULT is raised (what the end of a snapshot or consume
write changes besides is another statement, O21). A late report, and a timer that is stopped, change nothing (the model's
choices, log 1, log 40). -/
def Obligations.WriteGoesThrough : Prop :=
  ∀ (s : State), s.powered = true →
    (∀ g, exec (.eraseComplete g true) s = .next s ∧ exec (.programComplete g true) s = .next s) ∧
    (s.store.eraseTimer = none → exec .eraseTimerExpiry s = .next s) ∧
    (s.store.programTimer = none → exec .programTimerExpiry s = .next s) ∧
    ∀ w, s.store.write = some w →
      (s.store.state = .erasing → exec (.eraseComplete true false) s = .next { s with store := { s.store with
        blocks := s.store.blocks.set w.target.val .blank, state := .programming, eraseTimer := none
        programTimer := some 12 } }) ∧
      (s.store.state = .programming →
        let after : Storage := if w.block ∈ s.store.queue ∨ w.block ∈ s.store.held then .pending else .stored
        ∃ t, exec (.programComplete true false) s = .next t ∧
          t.store.blocks = s.store.blocks.set w.target.val (.valid w.image) ∧ t.store.spare = s.store.spare ∧
          (s.store.queue = [] → s.store.held = [] → t.store.queue = [] ∧ t.store.held = [] ∧ t.store.state = .idle ∧
            t.store.write = none ∧ t.store.eraseTimer = none ∧ t.store.programTimer = none ∧
            t.store.lastResult = some ⟨w.block, .ok, w.attempt⟩) ∧
          (∀ b rest, s.store.queue = b :: rest → t.power.state ≠ .park →
            t.store.queue = rest ++ s.store.held.take 1 ∧ t.store.held = s.store.held.drop 1 ∧
            t.store.state = .erasing ∧ t.store.eraseTimer = some 60 ∧ t.store.programTimer = none ∧
            t.store.write = some { block := b, image := t.imageOf b, onSpare := t.onSpare b } ∧
            t.store.lastResult = none) ∧
          (∀ i : SlotIx, t.slot i = if i.val = w.block.val then { s.slot i with storage := after } else s.slot i) ∧
          t.store.dfltState = (if w.block = 48 then after else s.store.dfltState) ∧
          t.store.vanState = (if w.block = 49 then after else s.store.vanState) ∧
          t.store.snapState = (if w.block = 50 then after else s.store.snapState) ∧
          ((∀ x, w.image ≠ .snapshot x) → s.onlyIn t [.ports, .table, .store] ∧
            t.table = { s.table with slots := t.table.slots } ∧
            s.gains t (eventAt [.fleet, .panel]
              (.storeResult w.block .ok w.attempt w.lastFailure w.onSpare after))))

/-- 08, sections 8.3 to 8.5: a failed attempt, by the erase timer, a bad erase, the program timer or a bad read-back: a
further attempt while the target has had fewer than three; then the spare, for a slot whose spare is FREE; on the spare
the write ends BAD_BLOCK. A slot whose spare another has taken, the default profile and the van record end
RETRY_EXCEEDED. The storage state is then FAILED, and STORE_RESULT is raised. No block but the target changes. -/
def Obligations.FailedAttemptRetriesThenEnds : Prop :=
  ∀ (s : State) (w : Write) (c : Instr) (k : FailKind), s.powered = true → s.store.write = some w → s.fails c k →
    let failed := { w with lastFailure := some k }
    ∃ t, exec c s = .next t ∧ (∀ b : PhysIx, b ≠ w.target → t.store.blocks[b] = s.store.blocks[b]) ∧
      (w.onTarget < 3 → s.onlyIn t [.store, .model] ∧ t.store.state = .erasing ∧ t.store.eraseTimer = some 60 ∧
        t.store.programTimer = none ∧ t.store.queue = s.store.queue ∧
        t.store.lastResult = some ⟨w.block, k.result, w.attempt⟩ ∧
        t.store.write = some { failed with attempt := w.attempt + 1, onTarget := w.onTarget + 1 }) ∧
      (3 ≤ w.onTarget →
        let ends := fun (r : StoreResult) =>
          t.store.state = .idle ∧ t.store.write = none ∧ t.store.spare = s.store.spare ∧
          t.store.lastResult = some ⟨w.block, r, w.attempt⟩ ∧
          s.gains t (eventAt [.fleet, .panel] (.storeResult w.block r w.attempt (some k) w.onSpare .failed))
        (∀ i : SlotIx, w.block.val = i.val →
          (w.onSpare = false → s.store.spare = none → s.onlyIn t [.store, .model] ∧ t.store.state = .erasing ∧
            t.store.spare = some i ∧ t.store.eraseTimer = some 60 ∧
            t.store.write = some { failed with attempt := w.attempt + 1, onTarget := 1, onSpare := true }) ∧
          (∀ r, w.image = .slot i r → s.store.queue = [] → s.store.held = [] →
            (w.onSpare = true ∨ ∃ j, s.store.spare = some j ∧ j ≠ i) →
            s.onlyIn t [.ports, .table, .store, .model] ∧ t.slot i = { s.slot i with storage := .failed } ∧
            (∀ j, j ≠ i → t.slot j = s.slot j) ∧ ends (if w.onSpare then .badBlock else .retryExceeded))) ∧
        (s.store.queue = [] → s.store.held = [] → w.onSpare = false →
          (∀ p, w.block = 48 → w.image = .dflt p →
            s.onlyIn t [.ports, .store, .model] ∧ t.store.dfltState = .failed ∧ ends .retryExceeded) ∧
          (∀ v, w.block = 49 → w.image = .van v →
            s.onlyIn t [.ports, .store, .model] ∧ t.store.vanState = .failed ∧ ends .retryExceeded)))
end

