-- ==== Sys2Proof/Laws/State.lean ====
section
/-! SUPPORT. The small laws of the state's accessors: what each named update reads as, and what it leaves alone. -/

namespace Sys2Proof.Machine

/-! ## Axis units -/

@[simp] theorem State.axis_setAxis_same (s : State) (a : Axis) (u : AxisUnit) : (s.setAxis a u).axis a = u := by
  simp [State.axis, State.setAxis]

@[simp] theorem State.axis_setAxis_other (s : State) {a b : Axis} (u : AxisUnit) (h : b ≠ a) :
    (s.setAxis a u).axis b = s.axis b := by
  have h' : a.val ≠ b.val := fun e => h (Fin.ext e.symm)
  simp [State.axis, State.setAxis, h']

@[simp] theorem State.axis_modAxis_same (s : State) (a : Axis) (f : AxisUnit → AxisUnit) :
    (s.modAxis a f).axis a = f (s.axis a) := by simp [State.modAxis]

@[simp] theorem State.axis_modAxis_other (s : State) {a b : Axis} (f : AxisUnit → AxisUnit) (h : b ≠ a) :
    (s.modAxis a f).axis b = s.axis b := by simp [State.modAxis, h]

theorem State.axis_modAxis (s : State) (a b : Axis) (f : AxisUnit → AxisUnit) :
    (s.modAxis a f).axis b = if b = a then f (s.axis a) else s.axis b := by
  by_cases h : b = a
  · subst h; simp
  · simp [h]

/-- The axis units are those the accessor reads. -/
theorem State.axes_ext {s t : State} (h : ∀ a, t.axis a = s.axis a) : t.axes = s.axes := by
  apply Vector.ext
  intro i hi
  exact h ⟨i, hi⟩

/-! ## Port units -/

@[simp] theorem Ports.get_set_same (ps : Ports) (p : Port) (u : PortUnit) : (ps.set p u).get p = u := by
  cases p <;> rfl

@[simp] theorem Ports.get_set_other (ps : Ports) {p q : Port} (u : PortUnit) (h : q ≠ p) :
    (ps.set p u).get q = ps.get q := by cases p <;> cases q <;> first | rfl | exact absurd rfl h

theorem Ports.ext_get {ps qs : Ports} (h : ∀ p, ps.get p = qs.get p) : ps = qs := by
  have h1 := h .vehicle; have h2 := h .fleet; have h3 := h .panel
  cases ps; cases qs; simp_all [Ports.get]

@[simp] theorem State.port_setPort_same (s : State) (p : Port) (u : PortUnit) : (s.setPort p u).port p = u := by
  simp [State.port, State.setPort]

@[simp] theorem State.port_setPort_other (s : State) {p q : Port} (u : PortUnit) (h : q ≠ p) :
    (s.setPort p u).port q = s.port q := by simp [State.port, State.setPort, h]

@[simp] theorem State.port_modPort_same (s : State) (p : Port) (f : PortUnit → PortUnit) :
    (s.modPort p f).port p = f (s.port p) := by simp [State.modPort]

@[simp] theorem State.port_modPort_other (s : State) {p q : Port} (f : PortUnit → PortUnit) (h : q ≠ p) :
    (s.modPort p f).port q = s.port q := by simp [State.modPort, h]

theorem State.port_modPort (s : State) (p q : Port) (f : PortUnit → PortUnit) :
    (s.modPort p f).port q = if q = p then f (s.port p) else s.port q := by
  by_cases h : q = p
  · subst h; simp
  · simp [h]

/-! ## Profile slots -/

@[simp] theorem State.slot_setSlot_same (s : State) (i : SlotIx) (x : Slot) : (s.setSlot i x).slot i = x := by
  simp [State.slot, State.setSlot]

@[simp] theorem State.slot_setSlot_other (s : State) {i j : SlotIx} (x : Slot) (h : j ≠ i) :
    (s.setSlot i x).slot j = s.slot j := by
  have h' : i.val ≠ j.val := fun e => h (Fin.ext e.symm)
  simp [State.slot, State.setSlot, h']

@[simp] theorem State.slot_modRecord_same (s : State) (i : SlotIx) (f : SlotRecord → SlotRecord) :
    (s.modRecord i f).slot i = { s.slot i with record := f (s.slot i).record } := by simp [State.modRecord]

@[simp] theorem State.slot_modRecord_other (s : State) {i j : SlotIx} (f : SlotRecord → SlotRecord) (h : j ≠ i) :
    (s.modRecord i f).slot j = s.slot j := by simp [State.modRecord, h]

/-! ## What each update leaves alone, field by field -/

@[simp] theorem State.setAxis_powered (s : State) (a : Axis) (u : AxisUnit) : (s.setAxis a u).powered = s.powered := rfl
@[simp] theorem State.setAxis_ports (s : State) (a : Axis) (u : AxisUnit) : (s.setAxis a u).ports = s.ports := rfl
@[simp] theorem State.setAxis_monitor (s : State) (a : Axis) (u : AxisUnit) : (s.setAxis a u).monitor = s.monitor := rfl
@[simp] theorem State.setAxis_fitted (s : State) (a : Axis) (u : AxisUnit) : (s.setAxis a u).fitted = s.fitted := rfl
@[simp] theorem State.setAxis_van (s : State) (a : Axis) (u : AxisUnit) : (s.setAxis a u).van = s.van := rfl
@[simp] theorem State.setAxis_moves (s : State) (a : Axis) (u : AxisUnit) : (s.setAxis a u).moves = s.moves := rfl
@[simp] theorem State.setAxis_engine (s : State) (a : Axis) (u : AxisUnit) : (s.setAxis a u).engine = s.engine := rfl
@[simp] theorem State.setAxis_table (s : State) (a : Axis) (u : AxisUnit) : (s.setAxis a u).table = s.table := rfl
@[simp] theorem State.setAxis_store (s : State) (a : Axis) (u : AxisUnit) : (s.setAxis a u).store = s.store := rfl
@[simp] theorem State.setAxis_power (s : State) (a : Axis) (u : AxisUnit) : (s.setAxis a u).power = s.power := rfl
@[simp] theorem State.setAxis_model (s : State) (a : Axis) (u : AxisUnit) : (s.setAxis a u).model = s.model := rfl
@[simp] theorem State.setAxis_pending (s : State) (a : Axis) (u : AxisUnit) : (s.setAxis a u).pending = s.pending := rfl

@[simp] theorem State.modAxis_powered (s : State) (a : Axis) (f : AxisUnit → AxisUnit) : (s.modAxis a f).powered = s.powered := rfl
@[simp] theorem State.modAxis_ports (s : State) (a : Axis) (f : AxisUnit → AxisUnit) : (s.modAxis a f).ports = s.ports := rfl
@[simp] theorem State.modAxis_monitor (s : State) (a : Axis) (f : AxisUnit → AxisUnit) : (s.modAxis a f).monitor = s.monitor := rfl
@[simp] theorem State.modAxis_fitted (s : State) (a : Axis) (f : AxisUnit → AxisUnit) : (s.modAxis a f).fitted = s.fitted := rfl
@[simp] theorem State.modAxis_van (s : State) (a : Axis) (f : AxisUnit → AxisUnit) : (s.modAxis a f).van = s.van := rfl
@[simp] theorem State.modAxis_moves (s : State) (a : Axis) (f : AxisUnit → AxisUnit) : (s.modAxis a f).moves = s.moves := rfl
@[simp] theorem State.modAxis_engine (s : State) (a : Axis) (f : AxisUnit → AxisUnit) : (s.modAxis a f).engine = s.engine := rfl
@[simp] theorem State.modAxis_table (s : State) (a : Axis) (f : AxisUnit → AxisUnit) : (s.modAxis a f).table = s.table := rfl
@[simp] theorem State.modAxis_store (s : State) (a : Axis) (f : AxisUnit → AxisUnit) : (s.modAxis a f).store = s.store := rfl
@[simp] theorem State.modAxis_power (s : State) (a : Axis) (f : AxisUnit → AxisUnit) : (s.modAxis a f).power = s.power := rfl
@[simp] theorem State.modAxis_model (s : State) (a : Axis) (f : AxisUnit → AxisUnit) : (s.modAxis a f).model = s.model := rfl
@[simp] theorem State.modAxis_pending (s : State) (a : Axis) (f : AxisUnit → AxisUnit) : (s.modAxis a f).pending = s.pending := rfl

@[simp] theorem State.setPort_powered (s : State) (p : Port) (u : PortUnit) : (s.setPort p u).powered = s.powered := rfl
@[simp] theorem State.setPort_monitor (s : State) (p : Port) (u : PortUnit) : (s.setPort p u).monitor = s.monitor := rfl
@[simp] theorem State.setPort_axes (s : State) (p : Port) (u : PortUnit) : (s.setPort p u).axes = s.axes := rfl
@[simp] theorem State.setPort_fitted (s : State) (p : Port) (u : PortUnit) : (s.setPort p u).fitted = s.fitted := rfl
@[simp] theorem State.setPort_van (s : State) (p : Port) (u : PortUnit) : (s.setPort p u).van = s.van := rfl
@[simp] theorem State.setPort_moves (s : State) (p : Port) (u : PortUnit) : (s.setPort p u).moves = s.moves := rfl
@[simp] theorem State.setPort_engine (s : State) (p : Port) (u : PortUnit) : (s.setPort p u).engine = s.engine := rfl
@[simp] theorem State.setPort_table (s : State) (p : Port) (u : PortUnit) : (s.setPort p u).table = s.table := rfl
@[simp] theorem State.setPort_store (s : State) (p : Port) (u : PortUnit) : (s.setPort p u).store = s.store := rfl
@[simp] theorem State.setPort_power (s : State) (p : Port) (u : PortUnit) : (s.setPort p u).power = s.power := rfl
@[simp] theorem State.setPort_model (s : State) (p : Port) (u : PortUnit) : (s.setPort p u).model = s.model := rfl
@[simp] theorem State.setPort_pending (s : State) (p : Port) (u : PortUnit) : (s.setPort p u).pending = s.pending := rfl

@[simp] theorem State.modPort_powered (s : State) (p : Port) (f : PortUnit → PortUnit) : (s.modPort p f).powered = s.powered := rfl
@[simp] theorem State.modPort_monitor (s : State) (p : Port) (f : PortUnit → PortUnit) : (s.modPort p f).monitor = s.monitor := rfl
@[simp] theorem State.modPort_axes (s : State) (p : Port) (f : PortUnit → PortUnit) : (s.modPort p f).axes = s.axes := rfl
@[simp] theorem State.modPort_fitted (s : State) (p : Port) (f : PortUnit → PortUnit) : (s.modPort p f).fitted = s.fitted := rfl
@[simp] theorem State.modPort_van (s : State) (p : Port) (f : PortUnit → PortUnit) : (s.modPort p f).van = s.van := rfl
@[simp] theorem State.modPort_moves (s : State) (p : Port) (f : PortUnit → PortUnit) : (s.modPort p f).moves = s.moves := rfl
@[simp] theorem State.modPort_engine (s : State) (p : Port) (f : PortUnit → PortUnit) : (s.modPort p f).engine = s.engine := rfl
@[simp] theorem State.modPort_table (s : State) (p : Port) (f : PortUnit → PortUnit) : (s.modPort p f).table = s.table := rfl
@[simp] theorem State.modPort_store (s : State) (p : Port) (f : PortUnit → PortUnit) : (s.modPort p f).store = s.store := rfl
@[simp] theorem State.modPort_power (s : State) (p : Port) (f : PortUnit → PortUnit) : (s.modPort p f).power = s.power := rfl
@[simp] theorem State.modPort_model (s : State) (p : Port) (f : PortUnit → PortUnit) : (s.modPort p f).model = s.model := rfl
@[simp] theorem State.modPort_pending (s : State) (p : Port) (f : PortUnit → PortUnit) : (s.modPort p f).pending = s.pending := rfl

@[simp] theorem State.raise_powered (s : State) (p : Port) (e : Event) : (s.raise p e).powered = s.powered := rfl
@[simp] theorem State.raise_monitor (s : State) (p : Port) (e : Event) : (s.raise p e).monitor = s.monitor := rfl
@[simp] theorem State.raise_axes (s : State) (p : Port) (e : Event) : (s.raise p e).axes = s.axes := rfl
@[simp] theorem State.raise_fitted (s : State) (p : Port) (e : Event) : (s.raise p e).fitted = s.fitted := rfl
@[simp] theorem State.raise_van (s : State) (p : Port) (e : Event) : (s.raise p e).van = s.van := rfl
@[simp] theorem State.raise_moves (s : State) (p : Port) (e : Event) : (s.raise p e).moves = s.moves := rfl
@[simp] theorem State.raise_engine (s : State) (p : Port) (e : Event) : (s.raise p e).engine = s.engine := rfl
@[simp] theorem State.raise_table (s : State) (p : Port) (e : Event) : (s.raise p e).table = s.table := rfl
@[simp] theorem State.raise_store (s : State) (p : Port) (e : Event) : (s.raise p e).store = s.store := rfl
@[simp] theorem State.raise_power (s : State) (p : Port) (e : Event) : (s.raise p e).power = s.power := rfl
@[simp] theorem State.raise_model (s : State) (p : Port) (e : Event) : (s.raise p e).model = s.model := rfl
@[simp] theorem State.raise_pending (s : State) (p : Port) (e : Event) : (s.raise p e).pending = s.pending := rfl

@[simp] theorem State.writeHistory_powered (s : State) (r : HistoryRecord) : (s.writeHistory r).powered = s.powered := rfl
@[simp] theorem State.writeHistory_ports (s : State) (r : HistoryRecord) : (s.writeHistory r).ports = s.ports := rfl
@[simp] theorem State.writeHistory_monitor (s : State) (r : HistoryRecord) : (s.writeHistory r).monitor = s.monitor := rfl
@[simp] theorem State.writeHistory_axes (s : State) (r : HistoryRecord) : (s.writeHistory r).axes = s.axes := rfl
@[simp] theorem State.writeHistory_fitted (s : State) (r : HistoryRecord) : (s.writeHistory r).fitted = s.fitted := rfl
@[simp] theorem State.writeHistory_van (s : State) (r : HistoryRecord) : (s.writeHistory r).van = s.van := rfl
@[simp] theorem State.writeHistory_moves (s : State) (r : HistoryRecord) : (s.writeHistory r).moves = s.moves := rfl
@[simp] theorem State.writeHistory_table (s : State) (r : HistoryRecord) : (s.writeHistory r).table = s.table := rfl
@[simp] theorem State.writeHistory_store (s : State) (r : HistoryRecord) : (s.writeHistory r).store = s.store := rfl
@[simp] theorem State.writeHistory_power (s : State) (r : HistoryRecord) : (s.writeHistory r).power = s.power := rfl
@[simp] theorem State.writeHistory_model (s : State) (r : HistoryRecord) : (s.writeHistory r).model = s.model := rfl
@[simp] theorem State.writeHistory_pending (s : State) (r : HistoryRecord) : (s.writeHistory r).pending = s.pending := rfl

@[simp] theorem State.bumpCounter_powered (s : State) : (s.bumpCounter).powered = s.powered := rfl
@[simp] theorem State.bumpCounter_ports (s : State) : (s.bumpCounter).ports = s.ports := rfl
@[simp] theorem State.bumpCounter_monitor (s : State) : (s.bumpCounter).monitor = s.monitor := rfl
@[simp] theorem State.bumpCounter_axes (s : State) : (s.bumpCounter).axes = s.axes := rfl
@[simp] theorem State.bumpCounter_fitted (s : State) : (s.bumpCounter).fitted = s.fitted := rfl
@[simp] theorem State.bumpCounter_van (s : State) : (s.bumpCounter).van = s.van := rfl
@[simp] theorem State.bumpCounter_moves (s : State) : (s.bumpCounter).moves = s.moves := rfl
@[simp] theorem State.bumpCounter_engine (s : State) : (s.bumpCounter).engine = s.engine := rfl
@[simp] theorem State.bumpCounter_store (s : State) : (s.bumpCounter).store = s.store := rfl
@[simp] theorem State.bumpCounter_power (s : State) : (s.bumpCounter).power = s.power := rfl
@[simp] theorem State.bumpCounter_model (s : State) : (s.bumpCounter).model = s.model := rfl
@[simp] theorem State.bumpCounter_pending (s : State) : (s.bumpCounter).pending = s.pending := rfl

@[simp] theorem State.bumpId_powered (s : State) : (s.bumpId).powered = s.powered := rfl
@[simp] theorem State.bumpId_ports (s : State) : (s.bumpId).ports = s.ports := rfl
@[simp] theorem State.bumpId_monitor (s : State) : (s.bumpId).monitor = s.monitor := rfl
@[simp] theorem State.bumpId_axes (s : State) : (s.bumpId).axes = s.axes := rfl
@[simp] theorem State.bumpId_fitted (s : State) : (s.bumpId).fitted = s.fitted := rfl
@[simp] theorem State.bumpId_van (s : State) : (s.bumpId).van = s.van := rfl
@[simp] theorem State.bumpId_moves (s : State) : (s.bumpId).moves = s.moves := rfl
@[simp] theorem State.bumpId_engine (s : State) : (s.bumpId).engine = s.engine := rfl
@[simp] theorem State.bumpId_table (s : State) : (s.bumpId).table = s.table := rfl
@[simp] theorem State.bumpId_store (s : State) : (s.bumpId).store = s.store := rfl
@[simp] theorem State.bumpId_power (s : State) : (s.bumpId).power = s.power := rfl
@[simp] theorem State.bumpId_pending (s : State) : (s.bumpId).pending = s.pending := rfl

@[simp] theorem State.bumpFree_powered (s : State) : (s.bumpFree).powered = s.powered := rfl
@[simp] theorem State.bumpFree_ports (s : State) : (s.bumpFree).ports = s.ports := rfl
@[simp] theorem State.bumpFree_monitor (s : State) : (s.bumpFree).monitor = s.monitor := rfl
@[simp] theorem State.bumpFree_axes (s : State) : (s.bumpFree).axes = s.axes := rfl
@[simp] theorem State.bumpFree_fitted (s : State) : (s.bumpFree).fitted = s.fitted := rfl
@[simp] theorem State.bumpFree_van (s : State) : (s.bumpFree).van = s.van := rfl
@[simp] theorem State.bumpFree_moves (s : State) : (s.bumpFree).moves = s.moves := rfl
@[simp] theorem State.bumpFree_engine (s : State) : (s.bumpFree).engine = s.engine := rfl
@[simp] theorem State.bumpFree_table (s : State) : (s.bumpFree).table = s.table := rfl
@[simp] theorem State.bumpFree_store (s : State) : (s.bumpFree).store = s.store := rfl
@[simp] theorem State.bumpFree_power (s : State) : (s.bumpFree).power = s.power := rfl
@[simp] theorem State.bumpFree_pending (s : State) : (s.bumpFree).pending = s.pending := rfl

@[simp] theorem State.setSlot_powered (s : State) (i : SlotIx) (x : Slot) : (s.setSlot i x).powered = s.powered := rfl
@[simp] theorem State.setSlot_ports (s : State) (i : SlotIx) (x : Slot) : (s.setSlot i x).ports = s.ports := rfl
@[simp] theorem State.setSlot_monitor (s : State) (i : SlotIx) (x : Slot) : (s.setSlot i x).monitor = s.monitor := rfl
@[simp] theorem State.setSlot_axes (s : State) (i : SlotIx) (x : Slot) : (s.setSlot i x).axes = s.axes := rfl
@[simp] theorem State.setSlot_fitted (s : State) (i : SlotIx) (x : Slot) : (s.setSlot i x).fitted = s.fitted := rfl
@[simp] theorem State.setSlot_van (s : State) (i : SlotIx) (x : Slot) : (s.setSlot i x).van = s.van := rfl
@[simp] theorem State.setSlot_moves (s : State) (i : SlotIx) (x : Slot) : (s.setSlot i x).moves = s.moves := rfl
@[simp] theorem State.setSlot_engine (s : State) (i : SlotIx) (x : Slot) : (s.setSlot i x).engine = s.engine := rfl
@[simp] theorem State.setSlot_store (s : State) (i : SlotIx) (x : Slot) : (s.setSlot i x).store = s.store := rfl
@[simp] theorem State.setSlot_power (s : State) (i : SlotIx) (x : Slot) : (s.setSlot i x).power = s.power := rfl
@[simp] theorem State.setSlot_model (s : State) (i : SlotIx) (x : Slot) : (s.setSlot i x).model = s.model := rfl
@[simp] theorem State.setSlot_pending (s : State) (i : SlotIx) (x : Slot) : (s.setSlot i x).pending = s.pending := rfl

@[simp] theorem State.modRecord_powered (s : State) (i : SlotIx) (f : SlotRecord → SlotRecord) : (s.modRecord i f).powered = s.powered := rfl
@[simp] theorem State.modRecord_ports (s : State) (i : SlotIx) (f : SlotRecord → SlotRecord) : (s.modRecord i f).ports = s.ports := rfl
@[simp] theorem State.modRecord_monitor (s : State) (i : SlotIx) (f : SlotRecord → SlotRecord) : (s.modRecord i f).monitor = s.monitor := rfl
@[simp] theorem State.modRecord_axes (s : State) (i : SlotIx) (f : SlotRecord → SlotRecord) : (s.modRecord i f).axes = s.axes := rfl
@[simp] theorem State.modRecord_fitted (s : State) (i : SlotIx) (f : SlotRecord → SlotRecord) : (s.modRecord i f).fitted = s.fitted := rfl
@[simp] theorem State.modRecord_van (s : State) (i : SlotIx) (f : SlotRecord → SlotRecord) : (s.modRecord i f).van = s.van := rfl
@[simp] theorem State.modRecord_moves (s : State) (i : SlotIx) (f : SlotRecord → SlotRecord) : (s.modRecord i f).moves = s.moves := rfl
@[simp] theorem State.modRecord_engine (s : State) (i : SlotIx) (f : SlotRecord → SlotRecord) : (s.modRecord i f).engine = s.engine := rfl
@[simp] theorem State.modRecord_store (s : State) (i : SlotIx) (f : SlotRecord → SlotRecord) : (s.modRecord i f).store = s.store := rfl
@[simp] theorem State.modRecord_power (s : State) (i : SlotIx) (f : SlotRecord → SlotRecord) : (s.modRecord i f).power = s.power := rfl
@[simp] theorem State.modRecord_model (s : State) (i : SlotIx) (f : SlotRecord → SlotRecord) : (s.modRecord i f).model = s.model := rfl
@[simp] theorem State.modRecord_pending (s : State) (i : SlotIx) (f : SlotRecord → SlotRecord) : (s.modRecord i f).pending = s.pending := rfl

@[simp] theorem State.leaveDirty_powered (s : State) (i : SlotIx) : (s.leaveDirty i).powered = s.powered := rfl
@[simp] theorem State.leaveDirty_ports (s : State) (i : SlotIx) : (s.leaveDirty i).ports = s.ports := rfl
@[simp] theorem State.leaveDirty_monitor (s : State) (i : SlotIx) : (s.leaveDirty i).monitor = s.monitor := rfl
@[simp] theorem State.leaveDirty_axes (s : State) (i : SlotIx) : (s.leaveDirty i).axes = s.axes := rfl
@[simp] theorem State.leaveDirty_fitted (s : State) (i : SlotIx) : (s.leaveDirty i).fitted = s.fitted := rfl
@[simp] theorem State.leaveDirty_van (s : State) (i : SlotIx) : (s.leaveDirty i).van = s.van := rfl
@[simp] theorem State.leaveDirty_moves (s : State) (i : SlotIx) : (s.leaveDirty i).moves = s.moves := rfl
@[simp] theorem State.leaveDirty_engine (s : State) (i : SlotIx) : (s.leaveDirty i).engine = s.engine := rfl
@[simp] theorem State.leaveDirty_store (s : State) (i : SlotIx) : (s.leaveDirty i).store = s.store := rfl
@[simp] theorem State.leaveDirty_power (s : State) (i : SlotIx) : (s.leaveDirty i).power = s.power := rfl
@[simp] theorem State.leaveDirty_model (s : State) (i : SlotIx) : (s.leaveDirty i).model = s.model := rfl
@[simp] theorem State.leaveDirty_pending (s : State) (i : SlotIx) : (s.leaveDirty i).pending = s.pending := rfl

@[simp] theorem State.setDriver_powered (s : State) (d : ActiveDriver) : (s.setDriver d).powered = s.powered := rfl
@[simp] theorem State.setDriver_ports (s : State) (d : ActiveDriver) : (s.setDriver d).ports = s.ports := rfl
@[simp] theorem State.setDriver_monitor (s : State) (d : ActiveDriver) : (s.setDriver d).monitor = s.monitor := rfl
@[simp] theorem State.setDriver_axes (s : State) (d : ActiveDriver) : (s.setDriver d).axes = s.axes := rfl
@[simp] theorem State.setDriver_fitted (s : State) (d : ActiveDriver) : (s.setDriver d).fitted = s.fitted := rfl
@[simp] theorem State.setDriver_van (s : State) (d : ActiveDriver) : (s.setDriver d).van = s.van := rfl
@[simp] theorem State.setDriver_moves (s : State) (d : ActiveDriver) : (s.setDriver d).moves = s.moves := rfl
@[simp] theorem State.setDriver_engine (s : State) (d : ActiveDriver) : (s.setDriver d).engine = s.engine := rfl
@[simp] theorem State.setDriver_store (s : State) (d : ActiveDriver) : (s.setDriver d).store = s.store := rfl
@[simp] theorem State.setDriver_power (s : State) (d : ActiveDriver) : (s.setDriver d).power = s.power := rfl
@[simp] theorem State.setDriver_model (s : State) (d : ActiveDriver) : (s.setDriver d).model = s.model := rfl
@[simp] theorem State.setDriver_pending (s : State) (d : ActiveDriver) : (s.setDriver d).pending = s.pending := rfl

@[simp] theorem State.setSnapshot_powered (s : State) (c : SnapshotCondition) : (s.setSnapshot c).powered = s.powered := rfl
@[simp] theorem State.setSnapshot_ports (s : State) (c : SnapshotCondition) : (s.setSnapshot c).ports = s.ports := rfl
@[simp] theorem State.setSnapshot_monitor (s : State) (c : SnapshotCondition) : (s.setSnapshot c).monitor = s.monitor := rfl
@[simp] theorem State.setSnapshot_axes (s : State) (c : SnapshotCondition) : (s.setSnapshot c).axes = s.axes := rfl
@[simp] theorem State.setSnapshot_fitted (s : State) (c : SnapshotCondition) : (s.setSnapshot c).fitted = s.fitted := rfl
@[simp] theorem State.setSnapshot_van (s : State) (c : SnapshotCondition) : (s.setSnapshot c).van = s.van := rfl
@[simp] theorem State.setSnapshot_moves (s : State) (c : SnapshotCondition) : (s.setSnapshot c).moves = s.moves := rfl
@[simp] theorem State.setSnapshot_engine (s : State) (c : SnapshotCondition) : (s.setSnapshot c).engine = s.engine := rfl
@[simp] theorem State.setSnapshot_table (s : State) (c : SnapshotCondition) : (s.setSnapshot c).table = s.table := rfl
@[simp] theorem State.setSnapshot_store (s : State) (c : SnapshotCondition) : (s.setSnapshot c).store = s.store := rfl
@[simp] theorem State.setSnapshot_model (s : State) (c : SnapshotCondition) : (s.setSnapshot c).model = s.model := rfl
@[simp] theorem State.setSnapshot_pending (s : State) (c : SnapshotCondition) : (s.setSnapshot c).pending = s.pending := rfl

@[simp] theorem State.setBlock_powered (s : State) (i : PhysIx) (b : Block) : (s.setBlock i b).powered = s.powered := rfl
@[simp] theorem State.setBlock_ports (s : State) (i : PhysIx) (b : Block) : (s.setBlock i b).ports = s.ports := rfl
@[simp] theorem State.setBlock_monitor (s : State) (i : PhysIx) (b : Block) : (s.setBlock i b).monitor = s.monitor := rfl
@[simp] theorem State.setBlock_axes (s : State) (i : PhysIx) (b : Block) : (s.setBlock i b).axes = s.axes := rfl
@[simp] theorem State.setBlock_fitted (s : State) (i : PhysIx) (b : Block) : (s.setBlock i b).fitted = s.fitted := rfl
@[simp] theorem State.setBlock_van (s : State) (i : PhysIx) (b : Block) : (s.setBlock i b).van = s.van := rfl
@[simp] theorem State.setBlock_moves (s : State) (i : PhysIx) (b : Block) : (s.setBlock i b).moves = s.moves := rfl
@[simp] theorem State.setBlock_engine (s : State) (i : PhysIx) (b : Block) : (s.setBlock i b).engine = s.engine := rfl
@[simp] theorem State.setBlock_table (s : State) (i : PhysIx) (b : Block) : (s.setBlock i b).table = s.table := rfl
@[simp] theorem State.setBlock_power (s : State) (i : PhysIx) (b : Block) : (s.setBlock i b).power = s.power := rfl
@[simp] theorem State.setBlock_model (s : State) (i : PhysIx) (b : Block) : (s.setBlock i b).model = s.model := rfl
@[simp] theorem State.setBlock_pending (s : State) (i : PhysIx) (b : Block) : (s.setBlock i b).pending = s.pending := rfl

@[simp] theorem State.setEntry_powered (s : State) (e : MoveEntry) : (s.setEntry e).powered = s.powered := rfl
@[simp] theorem State.setEntry_ports (s : State) (e : MoveEntry) : (s.setEntry e).ports = s.ports := rfl
@[simp] theorem State.setEntry_monitor (s : State) (e : MoveEntry) : (s.setEntry e).monitor = s.monitor := rfl
@[simp] theorem State.setEntry_axes (s : State) (e : MoveEntry) : (s.setEntry e).axes = s.axes := rfl
@[simp] theorem State.setEntry_fitted (s : State) (e : MoveEntry) : (s.setEntry e).fitted = s.fitted := rfl
@[simp] theorem State.setEntry_van (s : State) (e : MoveEntry) : (s.setEntry e).van = s.van := rfl
@[simp] theorem State.setEntry_engine (s : State) (e : MoveEntry) : (s.setEntry e).engine = s.engine := rfl
@[simp] theorem State.setEntry_table (s : State) (e : MoveEntry) : (s.setEntry e).table = s.table := rfl
@[simp] theorem State.setEntry_store (s : State) (e : MoveEntry) : (s.setEntry e).store = s.store := rfl
@[simp] theorem State.setEntry_power (s : State) (e : MoveEntry) : (s.setEntry e).power = s.power := rfl
@[simp] theorem State.setEntry_model (s : State) (e : MoveEntry) : (s.setEntry e).model = s.model := rfl
@[simp] theorem State.setEntry_pending (s : State) (e : MoveEntry) : (s.setEntry e).pending = s.pending := rfl

@[simp] theorem State.dropEntry_powered (s : State) (a : Axis) : (s.dropEntry a).powered = s.powered := rfl
@[simp] theorem State.dropEntry_ports (s : State) (a : Axis) : (s.dropEntry a).ports = s.ports := rfl
@[simp] theorem State.dropEntry_monitor (s : State) (a : Axis) : (s.dropEntry a).monitor = s.monitor := rfl
@[simp] theorem State.dropEntry_axes (s : State) (a : Axis) : (s.dropEntry a).axes = s.axes := rfl
@[simp] theorem State.dropEntry_fitted (s : State) (a : Axis) : (s.dropEntry a).fitted = s.fitted := rfl
@[simp] theorem State.dropEntry_van (s : State) (a : Axis) : (s.dropEntry a).van = s.van := rfl
@[simp] theorem State.dropEntry_engine (s : State) (a : Axis) : (s.dropEntry a).engine = s.engine := rfl
@[simp] theorem State.dropEntry_table (s : State) (a : Axis) : (s.dropEntry a).table = s.table := rfl
@[simp] theorem State.dropEntry_store (s : State) (a : Axis) : (s.dropEntry a).store = s.store := rfl
@[simp] theorem State.dropEntry_power (s : State) (a : Axis) : (s.dropEntry a).power = s.power := rfl
@[simp] theorem State.dropEntry_model (s : State) (a : Axis) : (s.dropEntry a).model = s.model := rfl
@[simp] theorem State.dropEntry_pending (s : State) (a : Axis) : (s.dropEntry a).pending = s.pending := rfl

@[simp] theorem State.askWalk_powered (s : State) : (s.askWalk).powered = s.powered := rfl
@[simp] theorem State.askWalk_ports (s : State) : (s.askWalk).ports = s.ports := rfl
@[simp] theorem State.askWalk_monitor (s : State) : (s.askWalk).monitor = s.monitor := rfl
@[simp] theorem State.askWalk_axes (s : State) : (s.askWalk).axes = s.axes := rfl
@[simp] theorem State.askWalk_fitted (s : State) : (s.askWalk).fitted = s.fitted := rfl
@[simp] theorem State.askWalk_van (s : State) : (s.askWalk).van = s.van := rfl
@[simp] theorem State.askWalk_engine (s : State) : (s.askWalk).engine = s.engine := rfl
@[simp] theorem State.askWalk_table (s : State) : (s.askWalk).table = s.table := rfl
@[simp] theorem State.askWalk_store (s : State) : (s.askWalk).store = s.store := rfl
@[simp] theorem State.askWalk_power (s : State) : (s.askWalk).power = s.power := rfl
@[simp] theorem State.askWalk_model (s : State) : (s.askWalk).model = s.model := rfl
@[simp] theorem State.askWalk_pending (s : State) : (s.askWalk).pending = s.pending := rfl
@[simp] theorem State.withDue_powered (s : State) (k : Nat) : (s.withDue k).powered = s.powered := rfl
@[simp] theorem State.withDue_ports (s : State) (k : Nat) : (s.withDue k).ports = s.ports := rfl
@[simp] theorem State.withDue_monitor (s : State) (k : Nat) : (s.withDue k).monitor = s.monitor := rfl
@[simp] theorem State.withDue_axes (s : State) (k : Nat) : (s.withDue k).axes = s.axes := rfl
@[simp] theorem State.withDue_fitted (s : State) (k : Nat) : (s.withDue k).fitted = s.fitted := rfl
@[simp] theorem State.withDue_van (s : State) (k : Nat) : (s.withDue k).van = s.van := rfl
@[simp] theorem State.withDue_engine (s : State) (k : Nat) : (s.withDue k).engine = s.engine := rfl
@[simp] theorem State.withDue_table (s : State) (k : Nat) : (s.withDue k).table = s.table := rfl
@[simp] theorem State.withDue_store (s : State) (k : Nat) : (s.withDue k).store = s.store := rfl
@[simp] theorem State.withDue_power (s : State) (k : Nat) : (s.withDue k).power = s.power := rfl
@[simp] theorem State.withDue_model (s : State) (k : Nat) : (s.withDue k).model = s.model := rfl
@[simp] theorem State.withDue_pending (s : State) (k : Nat) : (s.withDue k).pending = s.pending := rfl

@[simp] theorem State.cutMotor_powered (s : State) (a : Axis) (atPoint : Bool) : (s.cutMotor a atPoint).powered = s.powered := rfl
@[simp] theorem State.cutMotor_ports (s : State) (a : Axis) (atPoint : Bool) : (s.cutMotor a atPoint).ports = s.ports := rfl
@[simp] theorem State.cutMotor_monitor (s : State) (a : Axis) (atPoint : Bool) : (s.cutMotor a atPoint).monitor = s.monitor := rfl
@[simp] theorem State.cutMotor_fitted (s : State) (a : Axis) (atPoint : Bool) : (s.cutMotor a atPoint).fitted = s.fitted := rfl
@[simp] theorem State.cutMotor_van (s : State) (a : Axis) (atPoint : Bool) : (s.cutMotor a atPoint).van = s.van := rfl
@[simp] theorem State.cutMotor_moves (s : State) (a : Axis) (atPoint : Bool) : (s.cutMotor a atPoint).moves = s.moves := rfl
@[simp] theorem State.cutMotor_engine (s : State) (a : Axis) (atPoint : Bool) : (s.cutMotor a atPoint).engine = s.engine := rfl
@[simp] theorem State.cutMotor_table (s : State) (a : Axis) (atPoint : Bool) : (s.cutMotor a atPoint).table = s.table := rfl
@[simp] theorem State.cutMotor_store (s : State) (a : Axis) (atPoint : Bool) : (s.cutMotor a atPoint).store = s.store := rfl
@[simp] theorem State.cutMotor_power (s : State) (a : Axis) (atPoint : Bool) : (s.cutMotor a atPoint).power = s.power := rfl
@[simp] theorem State.cutMotor_model (s : State) (a : Axis) (atPoint : Bool) : (s.cutMotor a atPoint).model = s.model := rfl
@[simp] theorem State.cutMotor_pending (s : State) (a : Axis) (atPoint : Bool) : (s.cutMotor a atPoint).pending = s.pending := rfl

@[simp] theorem State.raisePass_powered (s : State) (l : List Axis) : (s.raisePass l).powered = s.powered := rfl
@[simp] theorem State.raisePass_ports (s : State) (l : List Axis) : (s.raisePass l).ports = s.ports := rfl
@[simp] theorem State.raisePass_monitor (s : State) (l : List Axis) : (s.raisePass l).monitor = s.monitor := rfl
@[simp] theorem State.raisePass_axes (s : State) (l : List Axis) : (s.raisePass l).axes = s.axes := rfl
@[simp] theorem State.raisePass_fitted (s : State) (l : List Axis) : (s.raisePass l).fitted = s.fitted := rfl
@[simp] theorem State.raisePass_van (s : State) (l : List Axis) : (s.raisePass l).van = s.van := rfl
@[simp] theorem State.raisePass_engine (s : State) (l : List Axis) : (s.raisePass l).engine = s.engine := rfl
@[simp] theorem State.raisePass_table (s : State) (l : List Axis) : (s.raisePass l).table = s.table := rfl
@[simp] theorem State.raisePass_store (s : State) (l : List Axis) : (s.raisePass l).store = s.store := rfl
@[simp] theorem State.raisePass_power (s : State) (l : List Axis) : (s.raisePass l).power = s.power := rfl
@[simp] theorem State.raisePass_model (s : State) (l : List Axis) : (s.raisePass l).model = s.model := rfl
@[simp] theorem State.raisePass_pending (s : State) (l : List Axis) : (s.raisePass l).pending = s.pending := rfl

@[simp] theorem State.settleOff_powered (s : State) (e : MoveEntry) (d : Disposition) : (s.settleOff e d).powered = s.powered := rfl
@[simp] theorem State.settleOff_ports (s : State) (e : MoveEntry) (d : Disposition) : (s.settleOff e d).ports = s.ports := rfl
@[simp] theorem State.settleOff_monitor (s : State) (e : MoveEntry) (d : Disposition) : (s.settleOff e d).monitor = s.monitor := rfl
@[simp] theorem State.settleOff_axes (s : State) (e : MoveEntry) (d : Disposition) : (s.settleOff e d).axes = s.axes := rfl
@[simp] theorem State.settleOff_fitted (s : State) (e : MoveEntry) (d : Disposition) : (s.settleOff e d).fitted = s.fitted := rfl
@[simp] theorem State.settleOff_van (s : State) (e : MoveEntry) (d : Disposition) : (s.settleOff e d).van = s.van := rfl
@[simp] theorem State.settleOff_engine (s : State) (e : MoveEntry) (d : Disposition) : (s.settleOff e d).engine = s.engine := rfl
@[simp] theorem State.settleOff_table (s : State) (e : MoveEntry) (d : Disposition) : (s.settleOff e d).table = s.table := rfl
@[simp] theorem State.settleOff_store (s : State) (e : MoveEntry) (d : Disposition) : (s.settleOff e d).store = s.store := rfl
@[simp] theorem State.settleOff_power (s : State) (e : MoveEntry) (d : Disposition) : (s.settleOff e d).power = s.power := rfl
@[simp] theorem State.settleOff_model (s : State) (e : MoveEntry) (d : Disposition) : (s.settleOff e d).model = s.model := rfl
@[simp] theorem State.settleOff_pending (s : State) (e : MoveEntry) (d : Disposition) : (s.settleOff e d).pending = s.pending := rfl

@[simp] theorem State.modActive_powered (s : State) (f : Operation → Operation) : (s.modActive f).powered = s.powered := rfl
@[simp] theorem State.modActive_ports (s : State) (f : Operation → Operation) : (s.modActive f).ports = s.ports := rfl
@[simp] theorem State.modActive_monitor (s : State) (f : Operation → Operation) : (s.modActive f).monitor = s.monitor := rfl
@[simp] theorem State.modActive_axes (s : State) (f : Operation → Operation) : (s.modActive f).axes = s.axes := rfl
@[simp] theorem State.modActive_fitted (s : State) (f : Operation → Operation) : (s.modActive f).fitted = s.fitted := rfl
@[simp] theorem State.modActive_van (s : State) (f : Operation → Operation) : (s.modActive f).van = s.van := rfl
@[simp] theorem State.modActive_moves (s : State) (f : Operation → Operation) : (s.modActive f).moves = s.moves := rfl
@[simp] theorem State.modActive_table (s : State) (f : Operation → Operation) : (s.modActive f).table = s.table := rfl
@[simp] theorem State.modActive_store (s : State) (f : Operation → Operation) : (s.modActive f).store = s.store := rfl
@[simp] theorem State.modActive_power (s : State) (f : Operation → Operation) : (s.modActive f).power = s.power := rfl
@[simp] theorem State.modActive_model (s : State) (f : Operation → Operation) : (s.modActive f).model = s.model := rfl
@[simp] theorem State.modActive_pending (s : State) (f : Operation → Operation) : (s.modActive f).pending = s.pending := rfl

@[simp] theorem State.setArm_powered (s : State) (arm : Option Nat) : (s.setArm arm).powered = s.powered := rfl
@[simp] theorem State.setArm_ports (s : State) (arm : Option Nat) : (s.setArm arm).ports = s.ports := rfl
@[simp] theorem State.setArm_monitor (s : State) (arm : Option Nat) : (s.setArm arm).monitor = s.monitor := rfl
@[simp] theorem State.setArm_axes (s : State) (arm : Option Nat) : (s.setArm arm).axes = s.axes := rfl
@[simp] theorem State.setArm_fitted (s : State) (arm : Option Nat) : (s.setArm arm).fitted = s.fitted := rfl
@[simp] theorem State.setArm_van (s : State) (arm : Option Nat) : (s.setArm arm).van = s.van := rfl
@[simp] theorem State.setArm_moves (s : State) (arm : Option Nat) : (s.setArm arm).moves = s.moves := rfl
@[simp] theorem State.setArm_table (s : State) (arm : Option Nat) : (s.setArm arm).table = s.table := rfl
@[simp] theorem State.setArm_store (s : State) (arm : Option Nat) : (s.setArm arm).store = s.store := rfl
@[simp] theorem State.setArm_power (s : State) (arm : Option Nat) : (s.setArm arm).power = s.power := rfl
@[simp] theorem State.setArm_model (s : State) (arm : Option Nat) : (s.setArm arm).model = s.model := rfl
@[simp] theorem State.setArm_pending (s : State) (arm : Option Nat) : (s.setArm arm).pending = s.pending := rfl

@[simp] theorem State.setAllowance_powered (s : State) (b : Bool) : (s.setAllowance b).powered = s.powered := rfl
@[simp] theorem State.setAllowance_ports (s : State) (b : Bool) : (s.setAllowance b).ports = s.ports := rfl
@[simp] theorem State.setAllowance_monitor (s : State) (b : Bool) : (s.setAllowance b).monitor = s.monitor := rfl
@[simp] theorem State.setAllowance_axes (s : State) (b : Bool) : (s.setAllowance b).axes = s.axes := rfl
@[simp] theorem State.setAllowance_fitted (s : State) (b : Bool) : (s.setAllowance b).fitted = s.fitted := rfl
@[simp] theorem State.setAllowance_van (s : State) (b : Bool) : (s.setAllowance b).van = s.van := rfl
@[simp] theorem State.setAllowance_moves (s : State) (b : Bool) : (s.setAllowance b).moves = s.moves := rfl
@[simp] theorem State.setAllowance_table (s : State) (b : Bool) : (s.setAllowance b).table = s.table := rfl
@[simp] theorem State.setAllowance_store (s : State) (b : Bool) : (s.setAllowance b).store = s.store := rfl
@[simp] theorem State.setAllowance_power (s : State) (b : Bool) : (s.setAllowance b).power = s.power := rfl
@[simp] theorem State.setAllowance_model (s : State) (b : Bool) : (s.setAllowance b).model = s.model := rfl
@[simp] theorem State.setAllowance_pending (s : State) (b : Bool) : (s.setAllowance b).pending = s.pending := rfl

@[simp] theorem State.releaseActive_powered (s : State) : (s.releaseActive).powered = s.powered := rfl
@[simp] theorem State.releaseActive_ports (s : State) : (s.releaseActive).ports = s.ports := rfl
@[simp] theorem State.releaseActive_monitor (s : State) : (s.releaseActive).monitor = s.monitor := rfl
@[simp] theorem State.releaseActive_axes (s : State) : (s.releaseActive).axes = s.axes := rfl
@[simp] theorem State.releaseActive_fitted (s : State) : (s.releaseActive).fitted = s.fitted := rfl
@[simp] theorem State.releaseActive_van (s : State) : (s.releaseActive).van = s.van := rfl
@[simp] theorem State.releaseActive_moves (s : State) : (s.releaseActive).moves = s.moves := rfl
@[simp] theorem State.releaseActive_table (s : State) : (s.releaseActive).table = s.table := rfl
@[simp] theorem State.releaseActive_store (s : State) : (s.releaseActive).store = s.store := rfl
@[simp] theorem State.releaseActive_power (s : State) : (s.releaseActive).power = s.power := rfl
@[simp] theorem State.releaseActive_model (s : State) : (s.releaseActive).model = s.model := rfl
@[simp] theorem State.releaseActive_pending (s : State) : (s.releaseActive).pending = s.pending := rfl

@[simp] theorem State.modJogs_powered (s : State) (pick : JogRecord → Bool) (f : JogRecord → JogRecord) : (s.modJogs pick f).powered = s.powered := rfl
@[simp] theorem State.modJogs_ports (s : State) (pick : JogRecord → Bool) (f : JogRecord → JogRecord) : (s.modJogs pick f).ports = s.ports := rfl
@[simp] theorem State.modJogs_monitor (s : State) (pick : JogRecord → Bool) (f : JogRecord → JogRecord) : (s.modJogs pick f).monitor = s.monitor := rfl
@[simp] theorem State.modJogs_axes (s : State) (pick : JogRecord → Bool) (f : JogRecord → JogRecord) : (s.modJogs pick f).axes = s.axes := rfl
@[simp] theorem State.modJogs_fitted (s : State) (pick : JogRecord → Bool) (f : JogRecord → JogRecord) : (s.modJogs pick f).fitted = s.fitted := rfl
@[simp] theorem State.modJogs_van (s : State) (pick : JogRecord → Bool) (f : JogRecord → JogRecord) : (s.modJogs pick f).van = s.van := rfl
@[simp] theorem State.modJogs_engine (s : State) (pick : JogRecord → Bool) (f : JogRecord → JogRecord) : (s.modJogs pick f).engine = s.engine := rfl
@[simp] theorem State.modJogs_table (s : State) (pick : JogRecord → Bool) (f : JogRecord → JogRecord) : (s.modJogs pick f).table = s.table := rfl
@[simp] theorem State.modJogs_store (s : State) (pick : JogRecord → Bool) (f : JogRecord → JogRecord) : (s.modJogs pick f).store = s.store := rfl
@[simp] theorem State.modJogs_power (s : State) (pick : JogRecord → Bool) (f : JogRecord → JogRecord) : (s.modJogs pick f).power = s.power := rfl
@[simp] theorem State.modJogs_model (s : State) (pick : JogRecord → Bool) (f : JogRecord → JogRecord) : (s.modJogs pick f).model = s.model := rfl
@[simp] theorem State.modJogs_pending (s : State) (pick : JogRecord → Bool) (f : JogRecord → JogRecord) : (s.modJogs pick f).pending = s.pending := rfl

@[simp] theorem State.endTransaction_powered (s : State) (p : Port) (bytes : List Byte) : (s.endTransaction p bytes).powered = s.powered := rfl
@[simp] theorem State.endTransaction_monitor (s : State) (p : Port) (bytes : List Byte) : (s.endTransaction p bytes).monitor = s.monitor := rfl
@[simp] theorem State.endTransaction_axes (s : State) (p : Port) (bytes : List Byte) : (s.endTransaction p bytes).axes = s.axes := rfl
@[simp] theorem State.endTransaction_fitted (s : State) (p : Port) (bytes : List Byte) : (s.endTransaction p bytes).fitted = s.fitted := rfl
@[simp] theorem State.endTransaction_van (s : State) (p : Port) (bytes : List Byte) : (s.endTransaction p bytes).van = s.van := rfl
@[simp] theorem State.endTransaction_moves (s : State) (p : Port) (bytes : List Byte) : (s.endTransaction p bytes).moves = s.moves := rfl
@[simp] theorem State.endTransaction_engine (s : State) (p : Port) (bytes : List Byte) : (s.endTransaction p bytes).engine = s.engine := rfl
@[simp] theorem State.endTransaction_table (s : State) (p : Port) (bytes : List Byte) : (s.endTransaction p bytes).table = s.table := rfl
@[simp] theorem State.endTransaction_store (s : State) (p : Port) (bytes : List Byte) : (s.endTransaction p bytes).store = s.store := rfl
@[simp] theorem State.endTransaction_power (s : State) (p : Port) (bytes : List Byte) : (s.endTransaction p bytes).power = s.power := rfl
@[simp] theorem State.endTransaction_model (s : State) (p : Port) (bytes : List Byte) : (s.endTransaction p bytes).model = s.model := rfl
@[simp] theorem State.endTransaction_pending (s : State) (p : Port) (bytes : List Byte) : (s.endTransaction p bytes).pending = s.pending := rfl

@[simp] theorem State.placeResponse_powered (s : State) (p : Port) (code : Byte) (r : Reply) : (s.placeResponse p code r).powered = s.powered := rfl
@[simp] theorem State.placeResponse_monitor (s : State) (p : Port) (code : Byte) (r : Reply) : (s.placeResponse p code r).monitor = s.monitor := rfl
@[simp] theorem State.placeResponse_axes (s : State) (p : Port) (code : Byte) (r : Reply) : (s.placeResponse p code r).axes = s.axes := rfl
@[simp] theorem State.placeResponse_fitted (s : State) (p : Port) (code : Byte) (r : Reply) : (s.placeResponse p code r).fitted = s.fitted := rfl
@[simp] theorem State.placeResponse_van (s : State) (p : Port) (code : Byte) (r : Reply) : (s.placeResponse p code r).van = s.van := rfl
@[simp] theorem State.placeResponse_moves (s : State) (p : Port) (code : Byte) (r : Reply) : (s.placeResponse p code r).moves = s.moves := rfl
@[simp] theorem State.placeResponse_engine (s : State) (p : Port) (code : Byte) (r : Reply) : (s.placeResponse p code r).engine = s.engine := rfl
@[simp] theorem State.placeResponse_table (s : State) (p : Port) (code : Byte) (r : Reply) : (s.placeResponse p code r).table = s.table := rfl
@[simp] theorem State.placeResponse_store (s : State) (p : Port) (code : Byte) (r : Reply) : (s.placeResponse p code r).store = s.store := rfl
@[simp] theorem State.placeResponse_power (s : State) (p : Port) (code : Byte) (r : Reply) : (s.placeResponse p code r).power = s.power := rfl
@[simp] theorem State.placeResponse_model (s : State) (p : Port) (code : Byte) (r : Reply) : (s.placeResponse p code r).model = s.model := rfl
@[simp] theorem State.placeResponse_pending (s : State) (p : Port) (code : Byte) (r : Reply) : (s.placeResponse p code r).pending = s.pending := rfl

@[simp] theorem State.assertSelect_powered (s : State) (p : Port) : (s.assertSelect p).powered = s.powered := rfl
@[simp] theorem State.assertSelect_monitor (s : State) (p : Port) : (s.assertSelect p).monitor = s.monitor := rfl
@[simp] theorem State.assertSelect_axes (s : State) (p : Port) : (s.assertSelect p).axes = s.axes := rfl
@[simp] theorem State.assertSelect_fitted (s : State) (p : Port) : (s.assertSelect p).fitted = s.fitted := rfl
@[simp] theorem State.assertSelect_van (s : State) (p : Port) : (s.assertSelect p).van = s.van := rfl
@[simp] theorem State.assertSelect_moves (s : State) (p : Port) : (s.assertSelect p).moves = s.moves := rfl
@[simp] theorem State.assertSelect_engine (s : State) (p : Port) : (s.assertSelect p).engine = s.engine := rfl
@[simp] theorem State.assertSelect_table (s : State) (p : Port) : (s.assertSelect p).table = s.table := rfl
@[simp] theorem State.assertSelect_store (s : State) (p : Port) : (s.assertSelect p).store = s.store := rfl
@[simp] theorem State.assertSelect_power (s : State) (p : Port) : (s.assertSelect p).power = s.power := rfl
@[simp] theorem State.assertSelect_model (s : State) (p : Port) : (s.assertSelect p).model = s.model := rfl
@[simp] theorem State.assertSelect_pending (s : State) (p : Port) : (s.assertSelect p).pending = s.pending := rfl

/-! ## What each update leaves alone, reader by reader -/

@[simp] theorem State.port_setAxis (s : State) (a : Axis) (u : AxisUnit) (y : Port) : (s.setAxis a u).port y = s.port y := rfl
@[simp] theorem State.slot_setAxis (s : State) (a : Axis) (u : AxisUnit) (y : SlotIx) : (s.setAxis a u).slot y = s.slot y := rfl
@[simp] theorem State.entryOf_setAxis (s : State) (a : Axis) (u : AxisUnit) (y : Axis) : (s.setAxis a u).entryOf y = s.entryOf y := rfl

@[simp] theorem State.port_modAxis (s : State) (a : Axis) (f : AxisUnit → AxisUnit) (y : Port) : (s.modAxis a f).port y = s.port y := rfl
@[simp] theorem State.slot_modAxis (s : State) (a : Axis) (f : AxisUnit → AxisUnit) (y : SlotIx) : (s.modAxis a f).slot y = s.slot y := rfl
@[simp] theorem State.entryOf_modAxis (s : State) (a : Axis) (f : AxisUnit → AxisUnit) (y : Axis) : (s.modAxis a f).entryOf y = s.entryOf y := rfl

@[simp] theorem State.axis_setPort (s : State) (p : Port) (u : PortUnit) (y : Axis) : (s.setPort p u).axis y = s.axis y := rfl
@[simp] theorem State.slot_setPort (s : State) (p : Port) (u : PortUnit) (y : SlotIx) : (s.setPort p u).slot y = s.slot y := rfl
@[simp] theorem State.entryOf_setPort (s : State) (p : Port) (u : PortUnit) (y : Axis) : (s.setPort p u).entryOf y = s.entryOf y := rfl

@[simp] theorem State.axis_modPort (s : State) (p : Port) (f : PortUnit → PortUnit) (y : Axis) : (s.modPort p f).axis y = s.axis y := rfl
@[simp] theorem State.slot_modPort (s : State) (p : Port) (f : PortUnit → PortUnit) (y : SlotIx) : (s.modPort p f).slot y = s.slot y := rfl
@[simp] theorem State.entryOf_modPort (s : State) (p : Port) (f : PortUnit → PortUnit) (y : Axis) : (s.modPort p f).entryOf y = s.entryOf y := rfl

@[simp] theorem State.axis_raise (s : State) (p : Port) (e : Event) (y : Axis) : (s.raise p e).axis y = s.axis y := rfl
@[simp] theorem State.slot_raise (s : State) (p : Port) (e : Event) (y : SlotIx) : (s.raise p e).slot y = s.slot y := rfl
@[simp] theorem State.entryOf_raise (s : State) (p : Port) (e : Event) (y : Axis) : (s.raise p e).entryOf y = s.entryOf y := rfl

@[simp] theorem State.axis_writeHistory (s : State) (r : HistoryRecord) (y : Axis) : (s.writeHistory r).axis y = s.axis y := rfl
@[simp] theorem State.port_writeHistory (s : State) (r : HistoryRecord) (y : Port) : (s.writeHistory r).port y = s.port y := rfl
@[simp] theorem State.slot_writeHistory (s : State) (r : HistoryRecord) (y : SlotIx) : (s.writeHistory r).slot y = s.slot y := rfl
@[simp] theorem State.entryOf_writeHistory (s : State) (r : HistoryRecord) (y : Axis) : (s.writeHistory r).entryOf y = s.entryOf y := rfl

@[simp] theorem State.axis_bumpCounter (s : State) (y : Axis) : (s.bumpCounter).axis y = s.axis y := rfl
@[simp] theorem State.port_bumpCounter (s : State) (y : Port) : (s.bumpCounter).port y = s.port y := rfl
@[simp] theorem State.slot_bumpCounter (s : State) (y : SlotIx) : (s.bumpCounter).slot y = s.slot y := rfl
@[simp] theorem State.entryOf_bumpCounter (s : State) (y : Axis) : (s.bumpCounter).entryOf y = s.entryOf y := rfl

@[simp] theorem State.axis_bumpId (s : State) (y : Axis) : (s.bumpId).axis y = s.axis y := rfl
@[simp] theorem State.port_bumpId (s : State) (y : Port) : (s.bumpId).port y = s.port y := rfl
@[simp] theorem State.slot_bumpId (s : State) (y : SlotIx) : (s.bumpId).slot y = s.slot y := rfl
@[simp] theorem State.entryOf_bumpId (s : State) (y : Axis) : (s.bumpId).entryOf y = s.entryOf y := rfl

@[simp] theorem State.axis_bumpFree (s : State) (y : Axis) : (s.bumpFree).axis y = s.axis y := rfl
@[simp] theorem State.port_bumpFree (s : State) (y : Port) : (s.bumpFree).port y = s.port y := rfl
@[simp] theorem State.slot_bumpFree (s : State) (y : SlotIx) : (s.bumpFree).slot y = s.slot y := rfl
@[simp] theorem State.entryOf_bumpFree (s : State) (y : Axis) : (s.bumpFree).entryOf y = s.entryOf y := rfl

@[simp] theorem State.axis_setSlot (s : State) (i : SlotIx) (x : Slot) (y : Axis) : (s.setSlot i x).axis y = s.axis y := rfl
@[simp] theorem State.port_setSlot (s : State) (i : SlotIx) (x : Slot) (y : Port) : (s.setSlot i x).port y = s.port y := rfl
@[simp] theorem State.entryOf_setSlot (s : State) (i : SlotIx) (x : Slot) (y : Axis) : (s.setSlot i x).entryOf y = s.entryOf y := rfl

@[simp] theorem State.axis_modRecord (s : State) (i : SlotIx) (f : SlotRecord → SlotRecord) (y : Axis) : (s.modRecord i f).axis y = s.axis y := rfl
@[simp] theorem State.port_modRecord (s : State) (i : SlotIx) (f : SlotRecord → SlotRecord) (y : Port) : (s.modRecord i f).port y = s.port y := rfl
@[simp] theorem State.entryOf_modRecord (s : State) (i : SlotIx) (f : SlotRecord → SlotRecord) (y : Axis) : (s.modRecord i f).entryOf y = s.entryOf y := rfl

@[simp] theorem State.axis_leaveDirty (s : State) (i : SlotIx) (y : Axis) : (s.leaveDirty i).axis y = s.axis y := rfl
@[simp] theorem State.port_leaveDirty (s : State) (i : SlotIx) (y : Port) : (s.leaveDirty i).port y = s.port y := rfl
@[simp] theorem State.slot_leaveDirty (s : State) (i : SlotIx) (y : SlotIx) : (s.leaveDirty i).slot y = s.slot y := rfl
@[simp] theorem State.entryOf_leaveDirty (s : State) (i : SlotIx) (y : Axis) : (s.leaveDirty i).entryOf y = s.entryOf y := rfl

@[simp] theorem State.axis_setDriver (s : State) (d : ActiveDriver) (y : Axis) : (s.setDriver d).axis y = s.axis y := rfl
@[simp] theorem State.port_setDriver (s : State) (d : ActiveDriver) (y : Port) : (s.setDriver d).port y = s.port y := rfl
@[simp] theorem State.slot_setDriver (s : State) (d : ActiveDriver) (y : SlotIx) : (s.setDriver d).slot y = s.slot y := rfl
@[simp] theorem State.entryOf_setDriver (s : State) (d : ActiveDriver) (y : Axis) : (s.setDriver d).entryOf y = s.entryOf y := rfl

@[simp] theorem State.axis_setSnapshot (s : State) (c : SnapshotCondition) (y : Axis) : (s.setSnapshot c).axis y = s.axis y := rfl
@[simp] theorem State.port_setSnapshot (s : State) (c : SnapshotCondition) (y : Port) : (s.setSnapshot c).port y = s.port y := rfl
@[simp] theorem State.slot_setSnapshot (s : State) (c : SnapshotCondition) (y : SlotIx) : (s.setSnapshot c).slot y = s.slot y := rfl
@[simp] theorem State.entryOf_setSnapshot (s : State) (c : SnapshotCondition) (y : Axis) : (s.setSnapshot c).entryOf y = s.entryOf y := rfl

@[simp] theorem State.axis_setBlock (s : State) (i : PhysIx) (b : Block) (y : Axis) : (s.setBlock i b).axis y = s.axis y := rfl
@[simp] theorem State.port_setBlock (s : State) (i : PhysIx) (b : Block) (y : Port) : (s.setBlock i b).port y = s.port y := rfl
@[simp] theorem State.slot_setBlock (s : State) (i : PhysIx) (b : Block) (y : SlotIx) : (s.setBlock i b).slot y = s.slot y := rfl
@[simp] theorem State.entryOf_setBlock (s : State) (i : PhysIx) (b : Block) (y : Axis) : (s.setBlock i b).entryOf y = s.entryOf y := rfl

@[simp] theorem State.axis_setEntry (s : State) (e : MoveEntry) (y : Axis) : (s.setEntry e).axis y = s.axis y := rfl
@[simp] theorem State.port_setEntry (s : State) (e : MoveEntry) (y : Port) : (s.setEntry e).port y = s.port y := rfl
@[simp] theorem State.slot_setEntry (s : State) (e : MoveEntry) (y : SlotIx) : (s.setEntry e).slot y = s.slot y := rfl

@[simp] theorem State.axis_dropEntry (s : State) (a : Axis) (y : Axis) : (s.dropEntry a).axis y = s.axis y := rfl
@[simp] theorem State.port_dropEntry (s : State) (a : Axis) (y : Port) : (s.dropEntry a).port y = s.port y := rfl
@[simp] theorem State.slot_dropEntry (s : State) (a : Axis) (y : SlotIx) : (s.dropEntry a).slot y = s.slot y := rfl

@[simp] theorem State.axis_askWalk (s : State) (y : Axis) : (s.askWalk).axis y = s.axis y := rfl
@[simp] theorem State.axis_withDue (s : State) (k : Nat) (y : Axis) : (s.withDue k).axis y = s.axis y := rfl
@[simp] theorem State.port_askWalk (s : State) (y : Port) : (s.askWalk).port y = s.port y := rfl
@[simp] theorem State.port_withDue (s : State) (k : Nat) (y : Port) : (s.withDue k).port y = s.port y := rfl
@[simp] theorem State.slot_askWalk (s : State) (y : SlotIx) : (s.askWalk).slot y = s.slot y := rfl
@[simp] theorem State.slot_withDue (s : State) (k : Nat) (y : SlotIx) : (s.withDue k).slot y = s.slot y := rfl
@[simp] theorem State.entryOf_askWalk (s : State) (y : Axis) : (s.askWalk).entryOf y = s.entryOf y := rfl
@[simp] theorem State.entryOf_withDue (s : State) (k : Nat) (y : Axis) : (s.withDue k).entryOf y = s.entryOf y := rfl

@[simp] theorem State.port_cutMotor (s : State) (a : Axis) (atPoint : Bool) (y : Port) : (s.cutMotor a atPoint).port y = s.port y := rfl
@[simp] theorem State.slot_cutMotor (s : State) (a : Axis) (atPoint : Bool) (y : SlotIx) : (s.cutMotor a atPoint).slot y = s.slot y := rfl
@[simp] theorem State.entryOf_cutMotor (s : State) (a : Axis) (atPoint : Bool) (y : Axis) : (s.cutMotor a atPoint).entryOf y = s.entryOf y := rfl

@[simp] theorem State.axis_raisePass (s : State) (l : List Axis) (y : Axis) : (s.raisePass l).axis y = s.axis y := rfl
@[simp] theorem State.port_raisePass (s : State) (l : List Axis) (y : Port) : (s.raisePass l).port y = s.port y := rfl
@[simp] theorem State.slot_raisePass (s : State) (l : List Axis) (y : SlotIx) : (s.raisePass l).slot y = s.slot y := rfl

@[simp] theorem State.axis_settleOff (s : State) (e : MoveEntry) (d : Disposition) (y : Axis) : (s.settleOff e d).axis y = s.axis y := rfl
@[simp] theorem State.port_settleOff (s : State) (e : MoveEntry) (d : Disposition) (y : Port) : (s.settleOff e d).port y = s.port y := rfl
@[simp] theorem State.slot_settleOff (s : State) (e : MoveEntry) (d : Disposition) (y : SlotIx) : (s.settleOff e d).slot y = s.slot y := rfl
@[simp] theorem State.entryOf_settleOff (s : State) (e : MoveEntry) (d : Disposition) (y : Axis) : (s.settleOff e d).entryOf y = s.entryOf y := rfl

@[simp] theorem State.axis_modActive (s : State) (f : Operation → Operation) (y : Axis) : (s.modActive f).axis y = s.axis y := rfl
@[simp] theorem State.port_modActive (s : State) (f : Operation → Operation) (y : Port) : (s.modActive f).port y = s.port y := rfl
@[simp] theorem State.slot_modActive (s : State) (f : Operation → Operation) (y : SlotIx) : (s.modActive f).slot y = s.slot y := rfl
@[simp] theorem State.entryOf_modActive (s : State) (f : Operation → Operation) (y : Axis) : (s.modActive f).entryOf y = s.entryOf y := rfl

@[simp] theorem State.axis_setArm (s : State) (arm : Option Nat) (y : Axis) : (s.setArm arm).axis y = s.axis y := rfl
@[simp] theorem State.port_setArm (s : State) (arm : Option Nat) (y : Port) : (s.setArm arm).port y = s.port y := rfl
@[simp] theorem State.slot_setArm (s : State) (arm : Option Nat) (y : SlotIx) : (s.setArm arm).slot y = s.slot y := rfl
@[simp] theorem State.entryOf_setArm (s : State) (arm : Option Nat) (y : Axis) : (s.setArm arm).entryOf y = s.entryOf y := rfl

@[simp] theorem State.axis_setAllowance (s : State) (b : Bool) (y : Axis) : (s.setAllowance b).axis y = s.axis y := rfl
@[simp] theorem State.port_setAllowance (s : State) (b : Bool) (y : Port) : (s.setAllowance b).port y = s.port y := rfl
@[simp] theorem State.slot_setAllowance (s : State) (b : Bool) (y : SlotIx) : (s.setAllowance b).slot y = s.slot y := rfl
@[simp] theorem State.entryOf_setAllowance (s : State) (b : Bool) (y : Axis) : (s.setAllowance b).entryOf y = s.entryOf y := rfl

@[simp] theorem State.axis_releaseActive (s : State) (y : Axis) : (s.releaseActive).axis y = s.axis y := rfl
@[simp] theorem State.port_releaseActive (s : State) (y : Port) : (s.releaseActive).port y = s.port y := rfl
@[simp] theorem State.slot_releaseActive (s : State) (y : SlotIx) : (s.releaseActive).slot y = s.slot y := rfl
@[simp] theorem State.entryOf_releaseActive (s : State) (y : Axis) : (s.releaseActive).entryOf y = s.entryOf y := rfl

@[simp] theorem State.axis_modJogs (s : State) (pick : JogRecord → Bool) (f : JogRecord → JogRecord) (y : Axis) : (s.modJogs pick f).axis y = s.axis y := rfl
@[simp] theorem State.port_modJogs (s : State) (pick : JogRecord → Bool) (f : JogRecord → JogRecord) (y : Port) : (s.modJogs pick f).port y = s.port y := rfl
@[simp] theorem State.slot_modJogs (s : State) (pick : JogRecord → Bool) (f : JogRecord → JogRecord) (y : SlotIx) : (s.modJogs pick f).slot y = s.slot y := rfl
@[simp] theorem State.entryOf_modJogs (s : State) (pick : JogRecord → Bool) (f : JogRecord → JogRecord) (y : Axis) : (s.modJogs pick f).entryOf y = s.entryOf y := rfl

@[simp] theorem State.axis_endTransaction (s : State) (p : Port) (bytes : List Byte) (y : Axis) : (s.endTransaction p bytes).axis y = s.axis y := rfl
@[simp] theorem State.slot_endTransaction (s : State) (p : Port) (bytes : List Byte) (y : SlotIx) : (s.endTransaction p bytes).slot y = s.slot y := rfl
@[simp] theorem State.entryOf_endTransaction (s : State) (p : Port) (bytes : List Byte) (y : Axis) : (s.endTransaction p bytes).entryOf y = s.entryOf y := rfl

@[simp] theorem State.axis_placeResponse (s : State) (p : Port) (code : Byte) (r : Reply) (y : Axis) : (s.placeResponse p code r).axis y = s.axis y := rfl
@[simp] theorem State.slot_placeResponse (s : State) (p : Port) (code : Byte) (r : Reply) (y : SlotIx) : (s.placeResponse p code r).slot y = s.slot y := rfl
@[simp] theorem State.entryOf_placeResponse (s : State) (p : Port) (code : Byte) (r : Reply) (y : Axis) : (s.placeResponse p code r).entryOf y = s.entryOf y := rfl

@[simp] theorem State.axis_assertSelect (s : State) (p : Port) (y : Axis) : (s.assertSelect p).axis y = s.axis y := rfl
@[simp] theorem State.slot_assertSelect (s : State) (p : Port) (y : SlotIx) : (s.assertSelect p).slot y = s.slot y := rfl
@[simp] theorem State.entryOf_assertSelect (s : State) (p : Port) (y : Axis) : (s.assertSelect p).entryOf y = s.entryOf y := rfl

end Sys2Proof.Machine
end

