-- ==== Sys2Proof/Laws/Table.lean ====
section
/-! SUPPORT. What keeps the profile table's laws (06): a change of one slot, of the dirty list and of the active driver,
and the table a power-on rebuilds. -/

namespace Sys2Proof.Machine

/-- A table whose slots have the occupancy, driver and sync state of a sound one, with its list and driver, is sound. -/
theorem ProfileTable.sound_same {t u : ProfileTable} (h : t.sound)
    (hr : ∀ i, (u.record i).inUse = (t.record i).inUse ∧ (u.record i).driver = (t.record i).driver ∧
      (u.record i).dirty = (t.record i).dirty)
    (hl : u.dirty = t.dirty) (hd : u.driver = t.driver) : u.sound where
  unique i j := by rw [(hr i).1, (hr j).1, (hr i).2.1, (hr j).2.1]; exact h.unique i j
  once := hl ▸ h.once
  dirty i := by rw [hl, (hr i).1, (hr i).2.2]; exact h.dirty i
  known i := by rw [hd, (hr i).1]; exact h.known i
  slotless id := by rw [hd]; exact fun k i hi => by rw [(hr i).2.1]; exact h.slotless id k i ((hr i).1 ▸ hi)

/-- R98, R103, R115: a table that differs from a sound one in one slot, in that slot's place on the dirty list and in the
active driver is sound where the slot's record, the list and the driver fit the other slots. -/
theorem ProfileTable.sound_write {t u : ProfileTable} (h : t.sound) {i : SlotIx}
    (ho : ∀ j, j ≠ i → u.record j = t.record j)
    (hu : (u.record i).inUse = true → ∀ j, j ≠ i → (t.record j).inUse = true → (t.record j).driver ≠ (u.record i).driver)
    (hn : u.dirty.Nodup) (hl : ∀ j, j ≠ i → (j ∈ u.dirty ↔ j ∈ t.dirty))
    (hi : i ∈ u.dirty ↔ (u.record i).inUse = true ∧ (u.record i).dirty = true)
    (hk : ∀ j, u.driver = .known j → (u.record j).inUse = true)
    (hs : ∀ id, u.driver = .new id ∨ u.driver = .dflt id → ∀ j, (u.record j).inUse = true → (u.record j).driver ≠ id) :
    u.sound where
  unique a b ha hb e := by
    by_cases x : a = i <;> by_cases y : b = i
    · rw [x, y]
    · subst x; rw [ho b y] at hb e; exact absurd e.symm (hu ha b y hb)
    · subst y; rw [ho a x] at ha e; exact absurd e (hu hb a x ha)
    · rw [ho a x] at ha e; rw [ho b y] at hb e; exact h.unique a b ha hb e
  once := hn
  dirty j := by
    by_cases x : j = i
    · subst x; exact hi
    · rw [hl j x, ho j x]; exact h.dirty j
  known := hk
  slotless := hs

/-- A driver record that fits the slots keeps the laws. -/
theorem ProfileTable.sound_driver {t u : ProfileTable} (h : t.sound) (ho : ∀ j, u.record j = t.record j)
    (hl : u.dirty = t.dirty) (hk : ∀ j, u.driver = .known j → (t.record j).inUse = true)
    (hs : ∀ id, u.driver = .new id ∨ u.driver = .dflt id → ∀ j, (t.record j).inUse = true → (t.record j).driver ≠ id) :
    u.sound where
  unique i j := by rw [ho, ho]; exact h.unique i j
  once := hl ▸ h.once
  dirty i := by rw [hl, ho]; exact h.dirty i
  known i e := by rw [ho]; exact hk i e
  slotless id e i := by rw [ho]; exact hs id e i

/-- The table of a power-on without a valid block, and after a loss of supply. -/
theorem ProfileTable.sound_default : ProfileTable.sound {} := by
  have r : ∀ i : SlotIx, (ProfileTable.record {} i).inUse = false := by
    intro i; simp [ProfileTable.record]
  constructor
  · intro i j hi; rw [r] at hi; cases hi
  · exact List.nodup_nil
  · intro i; rw [r]; simp
  · intro i e; cases e
  · intro id e; rcases e with e | e <;> cases e

/-- R122: the table a power-on rebuilds is sound. -/
theorem rebuildTable_sound (b : Vector Block 52) : (rebuildTable b).sound := by
  have hr : ∀ i : SlotIx, (rebuildTable b).record i = (dedupe (Vector.ofFn (loadedSlot b)))[i.val] := by
    intro i; simp [ProfileTable.record, rebuildTable]
  have hl : (rebuildTable b).dirty = allSlots.filter fun i =>
      (dedupe (Vector.ofFn (loadedSlot b)))[i.val].inUse && (dedupe (Vector.ofFn (loadedSlot b)))[i.val].dirty := by
    simp only [rebuildTable]
  have hn : (rebuildTable b).driver = .nobody := by simp only [rebuildTable]
  generalize Vector.ofFn (loadedSlot b) = v at hr hl
  have hd : ∀ i : SlotIx, (dedupe v)[i.val].inUse = true → shadowed v i = false ∧ (dedupe v)[i.val] = v[i.val] := by
    intro i hi
    simp only [dedupe, Vector.getElem_ofFn] at hi ⊢
    split at hi
    · cases hi
    · rename_i hn
      cases hs : shadowed v i
      · simp
      · simp [hs, hi] at hn
  constructor
  · intro i j hi hj e
    rw [hr] at hi hj
    rw [hr, hr] at e
    obtain ⟨si, ei⟩ := hd i hi
    obtain ⟨sj, ej⟩ := hd j hj
    rw [ei] at hi e
    rw [ej] at hj e
    unfold shadowed at si sj
    rw [List.any_eq_false] at si sj
    have all : ∀ k : SlotIx, k ∈ allSlots := List.mem_finRange
    rcases Nat.lt_trichotomy i.val j.val with k | k | k
    · exact absurd (by simp [hi, e, Fin.lt_def, k]) (sj i (all i))
    · exact Fin.ext k
    · exact absurd (by simp [hj, e, Fin.lt_def, k]) (si j (all j))
  · rw [hl]
    exact (List.nodup_finRange 48).filter _
  · intro i
    rw [hr, hl]
    simp [allSlots]
  · intro i e; rw [hn] at e; cases e
  · intro id e; rw [hn] at e; rcases e with e | e <;> cases e

/-! ## The updates of the table -/

@[simp] theorem State.record_modRecord (s : State) (i j : SlotIx) (f : SlotRecord → SlotRecord) :
    (s.modRecord i f).table.record j = if j = i then f (s.table.record i) else s.table.record j := by
  have : (s.modRecord i f).table.record j = ((s.modRecord i f).slot j).record := rfl
  rw [this]
  by_cases h : j = i
  · subst h; simp [State.modRecord]; rfl
  · simp [State.modRecord, h]; rfl

@[simp] theorem State.record_enterDirty (s : State) (i j : SlotIx) :
    (s.enterDirty i).table.record j = s.table.record j := by
  unfold State.enterDirty; split <;> rfl

@[simp] theorem State.record_leaveDirty (s : State) (i j : SlotIx) :
    (s.leaveDirty i).table.record j = s.table.record j := rfl

@[simp] theorem State.record_becomeKnown (s : State) (b : Bool) (i j : SlotIx) :
    (s.becomeKnown b i).table.record j = s.table.record j := by
  unfold State.becomeKnown; split <;> rfl

@[simp] theorem State.dirty_modRecord (s : State) (i : SlotIx) (f : SlotRecord → SlotRecord) :
    (s.modRecord i f).table.dirty = s.table.dirty := rfl

@[simp] theorem State.dirty_enterDirty (s : State) (i : SlotIx) :
    (s.enterDirty i).table.dirty = if i ∈ s.table.dirty then s.table.dirty else s.table.dirty ++ [i] := by
  unfold State.enterDirty
  by_cases h : i ∈ s.table.dirty <;> simp [h]

@[simp] theorem State.dirty_leaveDirty (s : State) (i : SlotIx) :
    (s.leaveDirty i).table.dirty = s.table.dirty.filter (· != i) := rfl

@[simp] theorem State.dirty_becomeKnown (s : State) (b : Bool) (i : SlotIx) :
    (s.becomeKnown b i).table.dirty = s.table.dirty := by
  unfold State.becomeKnown; split <;> rfl

@[simp] theorem State.driver_modRecord (s : State) (i : SlotIx) (f : SlotRecord → SlotRecord) :
    (s.modRecord i f).table.driver = s.table.driver := rfl

@[simp] theorem State.driver_enterDirty (s : State) (i : SlotIx) :
    (s.enterDirty i).table.driver = s.table.driver := by
  unfold State.enterDirty; split <;> rfl

@[simp] theorem State.driver_leaveDirty (s : State) (i : SlotIx) :
    (s.leaveDirty i).table.driver = s.table.driver := rfl

@[simp] theorem State.driver_becomeKnown (s : State) (b : Bool) (i : SlotIx) :
    (s.becomeKnown b i).table.driver = if b then .known i else s.table.driver := by
  unfold State.becomeKnown; split <;> rfl

/-! ## Slots found and given -/

/-- R98: a slot found for an ID is IN_USE and holds it. -/
theorem State.findSlot_some {s : State} {id : Nat} {i : SlotIx} (h : s.findSlot id = some i) :
    (s.table.record i).inUse = true ∧ (s.table.record i).driver = id := by
  have := List.find?_some h
  rw [Bool.and_eq_true, beq_iff_eq] at this
  exact this

/-- R98: no IN_USE slot holds an ID that is not found. -/
theorem State.findSlot_none {s : State} {id : Nat} (h : s.findSlot id = none) (i : SlotIx)
    (hi : (s.table.record i).inUse = true) : (s.table.record i).driver ≠ id := by
  have := List.find?_eq_none.1 h i (List.mem_finRange i)
  intro e
  exact this (by simp only [Bool.and_eq_true, beq_iff_eq]; exact ⟨hi, e⟩)

/-- R102: the victim is a candidate. -/
theorem State.victim_some {s : State} {i : SlotIx} (h : s.victim = some i) : s.evictable i = true := by
  have aux : ∀ (l : List SlotIx) (b : Option SlotIx), (∀ j ∈ l, s.evictable j = true) →
      (∀ j, b = some j → s.evictable j = true) → ∀ j, l.foldl (fun best i =>
        match best with
        | none => some i
        | some j => if (s.slot i).record.stamp < (s.slot j).record.stamp then some i else some j) b = some j →
      s.evictable j = true := by
    intro l
    induction l with
    | nil => intro b _ hb j hj; exact hb j hj
    | cons a l ih =>
      intro b hl hb
      refine ih _ (fun j hj => hl j (List.mem_cons_of_mem _ hj)) ?_
      intro j hj
      have ha := hl a (List.mem_cons_self ..)
      dsimp only at hj
      split at hj
      · cases hj; exact ha
      · split at hj <;> cases hj
        · exact ha
        · exact hb _ rfl
  exact aux _ none (fun j hj => (List.mem_filter.1 hj).2) (fun j hj => by cases hj) i h

/-- R98, R102: a slot given to an ID is EMPTY, or IN_USE, CLEAN and not the active driver's. -/
theorem State.slotToGive_some {s : State} {i : SlotIx} (h : s.slotToGive = some i) :
    (s.table.record i).inUse = false ∨
      ((s.table.record i).inUse = true ∧ (s.table.record i).dirty = false ∧ s.table.driver ≠ .known i) := by
  unfold State.slotToGive at h
  cases e : s.emptySlot with
  | some j =>
    rw [e] at h; cases h
    left
    have := List.find?_some e
    rw [Bool.not_eq_true'] at this
    exact this
  | none =>
    rw [e] at h
    right
    have hv := State.victim_some (s := s) (i := i) (by simpa using h)
    unfold State.evictable at hv
    simp only [Bool.and_eq_true, bne_iff_ne, ne_eq, Bool.not_eq_true'] at hv
    exact ⟨hv.1.1.1.1, hv.1.1.2, hv.2⟩

/-! ## The changes of a slot -/

/-- R110 to R112: the table of an edit of the active driver's slot is sound. -/
theorem State.edit_sound {s : State} (h : s.table.sound) {i : SlotIx} (hi : s.slotToEdit = some i) (f : SlotRecord → SlotRecord)
    (hd : ∀ r, (f r).dirty = true)
    (hf : s.table.driver.slotless = true → ∀ r, (f r).inUse = true ∧ (f r).driver = s.driverId s.table.driver)
    (hk : s.table.driver.slotless = false → ∀ r, (f r).inUse = r.inUse ∧ (f r).driver = r.driver) :
    (((s.modRecord i f).enterDirty i).becomeKnown s.table.driver.slotless i).table.sound := by
  have nodup : (if i ∈ s.table.dirty then s.table.dirty else s.table.dirty ++ [i]).Nodup := by
    split
    · exact h.once
    · rename_i hn
      exact List.nodup_append.2 ⟨h.once, by simp, fun a ha b hb e => hn (by simp at hb; rwa [← hb, ← e])⟩
  have mem : ∀ j, j ≠ i → (j ∈ (if i ∈ s.table.dirty then s.table.dirty else s.table.dirty ++ [i]) ↔ j ∈ s.table.dirty) := by
    intro j hj; split <;> simp [hj]
  have self : i ∈ (if i ∈ s.table.dirty then s.table.dirty else s.table.dirty ++ [i]) := by
    split
    · assumption
    · simp
  refine ProfileTable.sound_write h (i := i) (fun j hj => by simp [hj]) ?_
    (by rw [State.dirty_becomeKnown, State.dirty_enterDirty, State.dirty_modRecord]; exact nodup)
    (by rw [State.dirty_becomeKnown, State.dirty_enterDirty, State.dirty_modRecord]; exact mem) ?_ ?_ ?_
  · intro hu j hj hju
    simp only [State.record_becomeKnown, State.record_enterDirty, State.record_modRecord, if_true]
    cases hs : s.table.driver.slotless
    · rw [(hk hs _).2]
      intro e
      refine hj (h.unique j i hju ?_ e)
      simp only [State.record_becomeKnown, State.record_enterDirty, State.record_modRecord, if_true] at hu
      rwa [(hk hs _).1] at hu
    · rw [(hf hs _).2]
      intro e
      cases hd : s.table.driver with
      | nobody => rw [hd] at hs; cases hs
      | known k => rw [hd] at hs; cases hs
      | new id => rw [hd] at e; exact h.slotless id (.inl hd) j hju e
      | dflt id => rw [hd] at e; exact h.slotless id (.inr hd) j hju e
  · simp only [State.record_becomeKnown, State.record_enterDirty, State.record_modRecord, if_true,
      State.dirty_becomeKnown, State.dirty_enterDirty, State.dirty_modRecord, hd, and_true]
    refine ⟨fun _ => ?_, fun _ => self⟩
    cases hs : s.table.driver.slotless
    · rw [(hk hs _).1]
      cases hd : s.table.driver with
      | known k =>
        have : k = i := by simpa [State.slotToEdit, hd] using hi
        exact this ▸ h.known k hd
      | nobody => simp [State.slotToEdit, hd] at hi
      | new id => rw [hd] at hs; cases hs
      | dflt id => rw [hd] at hs; cases hs
    · exact (hf hs _).1
  · intro j hj
    simp only [State.record_becomeKnown, State.record_enterDirty, State.record_modRecord, State.driver_becomeKnown,
      State.driver_enterDirty, State.driver_modRecord] at hj ⊢
    cases hs : s.table.driver.slotless
    · rw [hs] at hj; simp only [Bool.false_eq_true, if_false] at hj
      have := h.known j hj
      split
      · rename_i e; rw [(hk hs _).1]; exact e ▸ this
      · exact this
    · rw [hs] at hj; simp only [if_true, ActiveDriver.known.injEq] at hj
      subst hj
      rw [if_pos rfl]; exact (hf hs _).1
  · intro id hid j
    simp only [State.driver_becomeKnown, State.driver_enterDirty, State.driver_modRecord] at hid
    cases hs : s.table.driver.slotless
    · rw [hs] at hid; simp only [Bool.false_eq_true, if_false] at hid
      rcases hid with e | e <;> rw [e] at hs <;> cases hs
    · rw [hs] at hid; simp at hid

/-- R113 to R115: the table of a LOAD_PROFILE is sound. -/
theorem State.load_sound {s : State} (h : s.table.sound) {id : Nat} {i : SlotIx}
    (hi : (s.findSlot id).or s.slotToGive = some i) (r : SlotRecord)
    (hr : r.inUse = true ∧ r.driver = id ∧ r.dirty = false) :
    (((s.modRecord i fun _ => r).leaveDirty i).becomeKnown (s.slotlessIs id) i).table.sound := by
  have found : ((s.table.record i).inUse = true ∧ (s.table.record i).driver = id) ∨
      ((∀ j, (s.table.record j).inUse = true → (s.table.record j).driver ≠ id) ∧
        ((s.table.record i).inUse = false ∨ s.table.driver ≠ .known i)) := by
    cases e : s.findSlot id with
    | some k => rw [e] at hi; cases hi; exact .inl (State.findSlot_some e)
    | none =>
      rw [e] at hi
      refine .inr ⟨State.findSlot_none e, ?_⟩
      rcases State.slotToGive_some (s := s) (i := i) (by simpa using hi) with g | g
      · exact .inl g
      · exact .inr g.2.2
  refine ProfileTable.sound_write h (i := i) (fun j hj => by simp [hj]) ?_ ?_ ?_ ?_ ?_ ?_
  · intro _ j hj hju
    simp only [State.record_becomeKnown, State.record_leaveDirty, State.record_modRecord, if_true, hr.2.1]
    rcases found with ⟨f1, f2⟩ | ⟨f, _⟩
    · exact fun e => hj (h.unique j i hju f1 (e.trans f2.symm))
    · exact f j hju
  · simpa using h.once.filter _
  · intro j hj; simp [hj]
  · simp [hr.2.2]
  · intro j hj
    simp only [State.record_becomeKnown, State.record_leaveDirty, State.record_modRecord]
    split
    · exact hr.1
    · rename_i hn
      simp only [State.driver_becomeKnown, State.driver_leaveDirty, State.driver_modRecord] at hj
      split at hj
      · cases hj; exact absurd rfl hn
      · exact h.known j hj
  · intro x hx j
    simp only [State.record_becomeKnown, State.record_leaveDirty, State.record_modRecord]
    simp only [State.driver_becomeKnown, State.driver_leaveDirty, State.driver_modRecord] at hx
    split at hx
    · simp at hx
    · rename_i hn
      split
      · intro _ e
        rw [hr.2.1] at e
        subst e
        refine hn ?_
        unfold State.slotlessIs
        rcases hx with hx | hx <;> simp [hx]
      · exact h.slotless x hx j

/-- R117, R120: the table of a DELETE_PROFILE or a SYNC_MARK is sound. -/
theorem State.clean_sound {s : State} (h : s.table.sound) (i : SlotIx) (f : SlotRecord → SlotRecord)
    (hd : ∀ r, (f r).dirty = false) (hr : ∀ r, (f r).driver = r.driver)
    (hu : ∀ r, (f r).inUse = true → r.inUse = true)
    (hk : s.table.driver = .known i → ∀ r, (f r).inUse = r.inUse) :
    ((s.modRecord i f).leaveDirty i).table.sound := by
  refine ProfileTable.sound_write h (i := i) (fun j hj => by simp [hj]) ?_ ?_ ?_ ?_ ?_ ?_
  · intro ho j hj hju e
    simp only [State.record_leaveDirty, State.record_modRecord, if_true] at ho e
    exact hj (h.unique j i hju (hu _ ho) (e.trans (hr _)))
  · simpa using h.once.filter _
  · intro j hj; simp [hj]
  · simp [hd]
  · intro j hj
    simp only [State.driver_leaveDirty, State.driver_modRecord] at hj
    simp only [State.record_leaveDirty, State.record_modRecord]
    split
    · rename_i e; subst e; rw [hk hj]; exact h.known j hj
    · exact h.known j hj
  · intro x hx j
    simp only [State.driver_leaveDirty, State.driver_modRecord] at hx
    simp only [State.record_leaveDirty, State.record_modRecord]
    split
    · rename_i e; subst e; rw [hr]; exact fun k => h.slotless x hx j (hu _ k)
    · exact h.slotless x hx j

/-- R107: the driver record an assignment makes fits the slots. -/
theorem State.driverFor_sound {s : State} (h : s.table.sound) (id : Nat) :
    ProfileTable.sound { s.table with driver := s.driverFor id } := by
  refine ProfileTable.sound_driver h (fun _ => rfl) rfl ?_ ?_
  · intro j hj
    unfold State.driverFor at hj
    cases e : s.findSlot id with
    | some i =>
      rw [e] at hj; cases hj; exact (State.findSlot_some e).1
    | none => rw [e] at hj; dsimp only at hj; split at hj <;> cases hj
  · intro x hx j hj
    unfold State.driverFor at hx
    cases e : s.findSlot id with
    | some i => rw [e] at hx; simp at hx
    | none =>
      rw [e] at hx
      dsimp only at hx
      have : x = id := by
        split at hx <;> rcases hx with hx | hx <;> cases hx <;> rfl
      exact this ▸ State.findSlot_none e j hj

end Sys2Proof.Machine
end

