-- ==== Sys2Proof/Laws/Frames.lean ====
section
/-! SUPPORT. One induction principle for the shared operations: a relation between states that is reflexive, transitive
and holds over the few elementary updates holds over every operation of the move list, the engine and the requests
(`MoveClosed`, `ActClosed`). What an operation leaves alone (`Moved`) and what it preserves (an invariant `P`, as
`P s → P t`) are both such relations. -/

namespace Sys2Proof.Machine

/-- What no operation of the move list and the engine changes in an axis unit. -/
structure Quiet (u v : AxisUnit) : Prop where
  leadUp : v.leadUp = u.leadUp
  leadDown : v.leadDown = u.leadDown
  heat : v.heat = u.heat
  hot : v.hot = u.hot
  sensorFault : v.sensorFault = u.sensorFault
  travel : v.travel = u.travel
  runTime : v.runTime = u.runTime
  intervalTimer : v.intervalTimer = u.intervalTimer

theorem Quiet.cut (u : AxisUnit) (a : Axis) (b : Bool) : Quiet u (u.cut a b) := by
  unfold AxisUnit.cut; repeat' split
  all_goals exact ⟨rfl, rfl, rfl, rfl, rfl, rfl, rfl, rfl⟩

theorem Quiet.takeOutcome (u : AxisUnit) (e : MoveEntry) (o : AxisOutcome) : Quiet u (u.takeOutcome e o) := by
  unfold AxisUnit.takeOutcome; repeat' split
  all_goals exact ⟨rfl, rfl, rfl, rfl, rfl, rfl, rfl, rfl⟩

/-- A relation that holds over every elementary update of the move list's work. -/
structure MoveClosed (R : State → State → Prop) : Prop where
  refl : ∀ s, R s s
  trans : ∀ {s t u}, R s t → R t u → R s u
  axis : ∀ s a (f : AxisUnit → AxisUnit), (∀ u, Quiet u (f u)) → R s (s.modAxis a f)
  moves : ∀ s m, R s { s with moves := m }
  engine : ∀ s g, (s.engine.ring.length ≤ 8 → g.ring.length ≤ 8) → R s { s with engine := g }

namespace MoveClosed

variable {R : State → State → Prop} (k : MoveClosed R)
include k

/-- A fold of such operations is one. -/
theorem foldl {α : Type} (f : State → α → State) (hf : ∀ s a, R s (f s a)) (l : List α) (s : State) :
    R s (l.foldl f s) := by
  induction l generalizing s with
  | nil => exact k.refl s
  | cons a l ih => exact k.trans (hf s a) (ih (f s a))

theorem setEntry (s : State) (e : MoveEntry) : R s (s.setEntry e) := k.moves s _
theorem dropEntry (s : State) (a : Axis) : R s (s.dropEntry a) := k.moves s _
theorem askWalk (s : State) : R s s.askWalk := k.moves s _
theorem withDue (s : State) (n : Nat) : R s (s.withDue n) := k.moves s _
theorem raisePass (s : State) (l : List Axis) : R s (s.raisePass l) := k.moves s _
theorem settleOff (s : State) (e : MoveEntry) (d : Disposition) : R s (s.settleOff e d) := k.moves s _
theorem modJogs (s : State) (p : JogRecord → Bool) (f : JogRecord → JogRecord) : R s (s.modJogs p f) := k.moves s _
theorem modActive (s : State) (f : Operation → Operation) : R s (s.modActive f) := k.engine s _ id
theorem releaseActive (s : State) : R s s.releaseActive := k.engine s _ id
theorem setArm (s : State) (x : Option Nat) : R s (s.setArm x) := k.engine s _ id
theorem setAllowance (s : State) (b : Bool) : R s (s.setAllowance b) := k.engine s _ id
theorem writeHistory (s : State) (r : HistoryRecord) : R s (s.writeHistory r) :=
  k.engine s _ fun _ => List.length_take_le _ _
theorem cutMotor (s : State) (a : Axis) (b : Bool) : R s (s.cutMotor a b) := k.axis s a _ fun u => .cut u a b
theorem rereference (s : State) (a : Axis) : R s (s.rereference a) :=
  k.axis s a _ fun _ => ⟨rfl, rfl, rfl, rfl, rfl, rfl, rfl, rfl⟩
theorem drive (s : State) (a : Axis) (d : Dir) (c : Option Int) : R s (s.setAxis a ((s.axis a).drive a d c)) :=
  k.axis s a (·.drive a d c) fun _ => ⟨rfl, rfl, rfl, rfl, rfl, rfl, rfl, rfl⟩

theorem report (s : State) (e : MoveEntry) (o : AxisOutcome) (x : Int) : R s (s.report e o x) := by
  unfold State.report
  split
  · exact k.refl s
  · exact k.moves s _
  · exact k.engine s _ id

theorem grantReport (s : State) (e : MoveEntry) : R s (s.grantReport e) := by
  unfold State.grantReport
  split
  · exact k.engine s _ id
  · exact k.refl s
  · exact k.refl s

theorem endEntry (s : State) (e : MoveEntry) (o : AxisOutcome) (x : Int) : R s (s.endEntry e o x) :=
  k.trans (k.axis s _ _ fun u => .takeOutcome u e o) (k.report _ _ _ _)

theorem markBackoff (s : State) (o : Owner) : R s (s.markBackoff o) := by
  unfold State.markBackoff
  split
  · exact k.moves s _
  · exact k.refl s
  · exact k.refl s

theorem offerBackoff (s : State) (e : MoveEntry) (x : Int) : R s (s.offerBackoff e x) := by
  unfold State.offerBackoff
  have h := k.trans (k.markBackoff s (s.backoffOwner e)) (k.askWalk _)
  dsimp only
  split
  · exact k.trans h (k.endEntry _ _ _ _)
  · exact k.trans h (k.moves _ _)

theorem endAndFollow (s : State) (e : MoveEntry) (o : AxisOutcome) (x : Int) : R s (s.endAndFollow e o x) := by
  unfold State.endAndFollow
  dsimp only
  split
  · exact k.trans (k.endEntry s e o x) (k.offerBackoff _ _ _)
  · exact k.endEntry s e o x

theorem finishEntry (s : State) (e : MoveEntry) (o : AxisOutcome) (x : Int) : R s (s.finishEntry e o x) :=
  k.trans (k.trans (k.dropEntry s _) (k.askWalk _)) (k.endAndFollow _ _ _ _)

theorem grantDrive (s : State) (e : MoveEntry) (d : Dir) (c : Option Int) : R s (s.grantDrive e d c) :=
  k.trans (k.trans (k.drive s _ _ _) (k.setEntry _ _)) (k.grantReport _ _)

theorem grant (s : State) (e : MoveEntry) : R s (s.grant e) := by
  unfold State.grant
  dsimp only
  repeat' split
  all_goals first | exact k.finishEntry _ _ _ _ | exact k.grantDrive _ _ _ _

theorem visit (ex : List Axis) (w : Walk) (a : Axis) : R w.state (Walk.visit ex w a).state := by
  unfold Walk.visit
  repeat' split
  all_goals first | exact k.refl _ | exact k.grant _ _

theorem visits (ex l : List Axis) (w : Walk) : R w.state (l.foldl (Walk.visit ex) w).state := by
  induction l generalizing w with
  | nil => exact k.refl _
  | cons a l ih => exact k.trans (k.visit ex w a) (ih _)

theorem walkOnce (s : State) (ex : List Axis) : R s (s.walkOnce ex) := by
  unfold State.walkOnce
  split
  · exact k.trans (k.visits ex _ { state := s }) (k.raisePass _ _)
  · exact k.refl s

theorem walks (n : Nat) (ex : List Axis) (s : State) : R s (State.walks n ex s) := by
  induction n generalizing ex s with
  | zero => exact k.refl s
  | succ n ih =>
    unfold State.walks
    split
    · exact k.refl s
    · exact k.trans (k.trans (k.withDue s _) (k.walkOnce _ ex)) (ih _ _)

theorem arbiter (s : State) (ex : List Axis) : R s (s.arbiter ex) := k.walks _ ex s

theorem supersede (s : State) (a : Axis) : R s (s.supersede a) := by
  unfold State.supersede
  split
  · exact k.refl s
  · have h := k.trans (k.dropEntry s a) (k.askWalk _)
    dsimp only
    split
    · exact k.trans h (k.endEntry _ _ _ _)
    · split
      · exact k.trans (k.trans h (k.cutMotor _ _ _)) (k.settleOff _ _ _)
      · exact k.trans (k.trans h (k.cutMotor _ _ _)) (k.endEntry _ _ _ _)
    · exact k.trans h (k.settleOff _ _ _)

theorem place (s : State) (e : MoveEntry) : R s (s.place e) := by
  unfold State.place
  have h := k.trans (k.supersede s e.axis) (k.askWalk _)
  dsimp only
  split
  · exact k.trans h (k.endEntry _ _ _ _)
  · exact k.trans h (k.moves _ _)

theorem admitEntry (s : State) (e : MoveEntry) : R s (s.admitEntry e) :=
  k.trans (k.place s e) (k.arbiter _ _)

theorem stopEntry (s : State) (e : MoveEntry) (h : StopHow) : R s (s.stopEntry e h) := by
  unfold State.stopEntry
  split
  · exact k.finishEntry _ _ _ _
  · have c := k.trans (k.cutMotor s e.axis false) (k.askWalk _)
    dsimp only
    split
    · exact k.trans c (k.setEntry _ _)
    · exact k.trans c (k.finishEntry _ _ _ _)
  · exact k.setEntry _ _

theorem stopEntries (s : State) (pick : MoveEntry → Bool) (h : StopHow) : R s (s.stopEntries pick h) :=
  k.foldl _ (fun s e => k.stopEntry s e h) _ s

theorem returnToWaiting (s : State) (e : MoveEntry) : R s (s.returnToWaiting e) := by
  unfold State.returnToWaiting
  split
  · exact k.finishEntry _ _ _ _
  · exact k.trans (k.setEntry s _) (k.askWalk _)

theorem judge (s : State) (e : MoveEntry) : R s (s.judge e) := by
  unfold State.judge
  dsimp only
  repeat' split
  all_goals first | exact k.finishEntry _ _ _ _ | exact k.returnToWaiting _ _

theorem resolve (s : State) (e : MoveEntry) : R s (s.resolve e) := by
  unfold State.resolve
  split
  · exact k.judge _ _
  · exact k.returnToWaiting _ _
  · exact k.returnToWaiting _ _
  · exact k.finishEntry _ _ _ _
  · exact k.trans (k.rereference s _) (k.finishEntry _ _ _ _)

theorem resolveOff (s : State) (e : MoveEntry) : R s (s.resolveOff e) := by
  unfold State.resolveOff
  refine k.trans (k.moves s { s.moves with offList := s.moves.offList.filter (·.axis != e.axis) }) ?_
  split
  · exact k.endEntry _ _ _ _
  · exact k.trans (k.rereference _ _) (k.endEntry _ _ _ _)
  · exact k.endEntry _ _ _ _
  · exact k.endEntry _ _ _ _
  · exact k.endEntry _ _ _ _

theorem resolveAxis (s : State) (a : Axis) : R s (s.resolveAxis a) := by
  unfold State.resolveAxis
  repeat' split
  · exact k.resolveOff _ _
  · exact k.resolve _ _
  · exact k.refl s
  · exact k.refl s

theorem revoke (s : State) (e : MoveEntry) : R s (s.revoke e) := by
  unfold State.revoke
  dsimp only
  split
  all_goals exact k.trans (k.cutMotor s e.axis false) (k.setEntry _ _)

theorem revokeWalk (l : List Axis) (s : State) (ex : List Axis) : R s (Machine.revokeWalk l s ex).1 := by
  induction l generalizing s ex with
  | nil => exact k.refl s
  | cons a l ih =>
    unfold Machine.revokeWalk
    split
    · exact k.refl s
    · split
      · split
        · exact k.trans (k.revoke s _) (ih _ _)
        · exact ih _ _
      · exact ih _ _

theorem revokeToFit (s : State) : R s s.revokeToFit.1 := by
  have h := k.revokeWalk (s.moves.entries.map (·.axis)).reverse s []
  unfold State.revokeToFit
  dsimp only
  split
  · exact h
  · exact k.trans h (k.askWalk _)

theorem admitOp (s : State) (a : Axis) (x : MoveKind) : R s (s.admitOp a x) := by
  unfold State.admitOp
  split
  · exact k.refl s
  · exact k.admitEntry _ _

theorem admitPhase (s : State) (f : OutcomeEntry → Option Int) (l : List Axis) : R s (s.admitPhase f l) := by
  refine k.foldl _ (fun t a => ?_) l s
  split
  · exact k.admitOp _ _ _
  · exact k.refl t

theorem enterStage (s : State) (st : Stage) (l : List Axis) : R s (s.enterStage st l) := k.modActive _ _
theorem enterPhase1 (s : State) : R s (s.enterPhase1) := k.admitPhase _ _ _
theorem enterPhase2 (s : State) : R s (s.enterPhase2) :=
  k.trans (k.enterStage _ _ _) (k.admitPhase _ _ _)
theorem enterPhase3 (s : State) : R s (s.enterPhase3) :=
  k.trans (k.enterStage _ _ _) (k.admitPhase _ _ _)

theorem disown (s : State) (op : Operation) : R s (s.disown op) := k.trans (k.modActive _ _) (k.moves _ _)

theorem releaseJog (s : State) (r : JogRecord) : R s (s.releaseJog r) :=
  k.trans (k.modJogs s _ _) (k.stopEntries _ _ _)

theorem enterLeg2 (s : State) (a : Axis) : R s (s.enterLeg2 a) := by
  refine k.trans (k.trans ?_ (k.modActive _ _)) (k.admitOp _ _ _)
  exact k.axis s a _ fun _ => ⟨rfl, rfl, rfl, rfl, rfl, rfl, rfl, rfl⟩

theorem closeJog (s : State) (r : JogRecord) : R s (s.closeJog r) := k.trans (k.moves _ _) (k.writeHistory _ _)

theorem cutInto (s : State) (a : Axis) (b : Bool) (d : Disposition) : R s (s.cutInto a b d) := by
  unfold State.cutInto
  have c := k.trans (k.cutMotor s a b) (k.askWalk _)
  dsimp only
  split
  · split
    · exact k.trans c (k.setEntry _ _)
    · exact c
  · exact c

theorem cutEnding (s : State) (a : Axis) (o : AxisOutcome) : R s (s.cutEnding a o) := by
  unfold State.cutEnding
  have c := k.trans (k.cutMotor s a false) (k.askWalk _)
  dsimp only
  split
  · split
    · exact k.trans c (k.finishEntry _ _ _ _)
    · exact c
  · exact c

theorem depart (s : State) (a : Axis) : R s (s.depart a) := by
  unfold State.depart
  dsimp only
  split
  · exact k.trans (k.modJogs s _ _) (k.stopEntry _ _ _)
  · exact k.modJogs s _ _

theorem mapAxes (s : State) (f : Axis → AxisUnit → AxisUnit) (hf : ∀ a u, Quiet u (f a u)) : R s (s.mapAxes f) :=
  k.foldl _ (fun t a => k.axis t a _ (hf a)) _ s

theorem openNewJogMoves (s : State) (m : MoveList) (e : MoveEntry) : R s ({ s with moves := m }.place e) :=
  k.trans (k.moves s m) (k.place _ e)

end MoveClosed

/-! ## What the move list's work leaves alone -/

/-- Only the axes, the move list and the engine may differ. -/
structure Moved (s t : State) : Prop where
  powered : t.powered = s.powered
  ports : t.ports = s.ports
  monitor : t.monitor = s.monitor
  fitted : t.fitted = s.fitted
  van : t.van = s.van
  table : t.table = s.table
  store : t.store = s.store
  power : t.power = s.power
  model : t.model = s.model
  pending : t.pending = s.pending

theorem moved : MoveClosed Moved where
  refl _ := ⟨rfl, rfl, rfl, rfl, rfl, rfl, rfl, rfl, rfl, rfl⟩
  trans h k := ⟨k.powered.trans h.powered, k.ports.trans h.ports, k.monitor.trans h.monitor, k.fitted.trans h.fitted,
    k.van.trans h.van, k.table.trans h.table, k.store.trans h.store, k.power.trans h.power, k.model.trans h.model,
    k.pending.trans h.pending⟩
  axis _ _ _ _ := ⟨rfl, rfl, rfl, rfl, rfl, rfl, rfl, rfl, rfl, rfl⟩
  moves _ _ := ⟨rfl, rfl, rfl, rfl, rfl, rfl, rfl, rfl, rfl, rfl⟩
  engine _ _ _ := ⟨rfl, rfl, rfl, rfl, rfl, rfl, rfl, rfl, rfl, rfl⟩

/-! ## The engine and the requests -/

/-- A relation that holds, besides, over every elementary update of the engine's and the requests' work. -/
structure ActClosed (R : State → State → Prop) : Prop extends MoveClosed R where
  raise : ∀ s p e, R s (s.raise p e)
  commit : ∀ s b, R s (s.commit b)
  table : ∀ s x, (s.table.sound → ProfileTable.sound x) → R s { s with table := x }
  van : ∀ s x, R s { s with van := x }
  model : ∀ s x, R s { s with model := x }

theorem length_markUndone (l : List HistoryRecord) : (markUndone l).length = l.length := by
  induction l with
  | nil => rfl
  | cons r l ih => unfold markUndone; split <;> simp [ih]

namespace ActClosed

variable {R : State → State → Prop} (k : ActClosed R)
include k

theorem raiseAt (s : State) (ps : List Port) (e : Event) : R s (s.raiseAt ps e) :=
  k.foldl _ (fun t p => k.raise t p e) ps s

/-- A change of the table alone that keeps the table's laws. -/
theorem tableOnly (s t : State) (e : t = { s with table := t.table }) (h : s.table.sound → t.table.sound) : R s t :=
  e ▸ k.table s t.table h

/-- A change of a slot's record that leaves its occupancy, driver and sync state. -/
theorem modRecord (s : State) (i : SlotIx) (f : SlotRecord → SlotRecord)
    (hf : ∀ r, (f r).inUse = r.inUse ∧ (f r).driver = r.driver ∧ (f r).dirty = r.dirty) : R s (s.modRecord i f) := by
  refine k.tableOnly s _ rfl fun h => ProfileTable.sound_same h (fun j => ?_) rfl rfl
  rw [State.record_modRecord]; split
  · rename_i e; subst e; exact hf _
  · exact ⟨rfl, rfl, rfl⟩

theorem setNobody (s : State) : R s (s.setDriver .nobody) :=
  k.table s _ fun h => ProfileTable.sound_driver h (fun _ => rfl) rfl (fun _ e => by cases e)
    (fun _ e => by rcases e with e | e <;> cases e)
theorem bumpCounter (s : State) : R s s.bumpCounter :=
  k.table s _ fun h => ProfileTable.sound_same h (fun _ => ⟨rfl, rfl, rfl⟩) rfl rfl
theorem bumpId (s : State) : R s s.bumpId := k.model s _
theorem bumpFree (s : State) : R s s.bumpFree := k.model s _

theorem setStops (s : State) (a : Axis) (x : Option Stops) : R s (s.setStops a x) := by
  unfold State.setStops; split
  · exact k.van s _
  · exact k.refl s

theorem startOp (s : State) (o : OpKind) (p : Port) (st : Stage) (x : Source) (es : List OutcomeEntry)
    (c : Confidence) : R s (s.startOp o p st x es c) := by
  refine k.trans (k.trans ?_ (k.bumpCounter _)) (k.bumpId _)
  exact k.engine s _ id

theorem startRecall (s : State) (p : Port) (v : Vector (Option Int) 10) (x : Option (SlotIx × Nat)) :
    R s (s.startRecall p v x) := k.trans (k.startOp _ _ _ _ _ _ _) (k.enterPhase1 _)

theorem startUndo (s : State) (p : Port) (r : HistoryRecord) : R s (s.startUndo p r) := by
  unfold State.startUndo
  dsimp only
  refine k.trans (k.startOp s .undo p .phase1 _ _ .lost) (k.trans (k.engine _ _ fun h => ?_) (k.enterPhase1 _))
  show (markUndone _).length ≤ 8
  rw [length_markUndone]; exact h

theorem startNormalise (s : State) (p : Port) (a : Axis) : R s (s.startNormalise p a) :=
  k.trans (k.startOp _ _ _ _ _ _ _) (k.admitOp _ _ _)

theorem startSlide (s : State) (o : OpKind) (x : Source) : R s (s.startSlide o x) := by
  unfold State.startSlide
  dsimp only
  split
  · exact k.trans (k.startOp _ _ _ _ _ _ _) (k.place _ _)
  · exact k.startOp _ _ _ _ _ _ _

theorem raiseExitState (s : State) (st : ExitState) (d : Nat) (c : Option ExitCause) (n : Nat) :
    R s (s.raiseExitState st d c n) := k.raiseAt _ _ _

theorem disarm (s : State) (c : ExitCause) : R s (s.disarm c) := by
  unfold State.disarm; split
  · exact k.refl s
  · exact k.trans (k.setArm _ _) (k.raiseExitState _ _ _ _ _)

theorem startExit (s : State) (d : Nat) : R s (s.startExit d) :=
  k.trans (k.trans (k.setArm _ _) (k.raiseExitState _ _ _ _ _)) (k.startSlide _ _ _)

theorem offerExit (s : State) : R s s.offerExit := by
  unfold State.offerExit; repeat' split
  · exact k.refl s
  · exact k.startExit _ _
  · exact k.refl s

theorem armExit (s : State) (d : Nat) : R s (s.armExit d) := by
  unfold State.armExit; split
  · exact k.startExit _ _
  · exact k.trans (k.setArm _ _) (k.raiseExitState _ _ _ _ _)

theorem offerReturn (s : State) : R s s.offerReturn := by
  unfold State.offerReturn; repeat' split
  · exact k.setAllowance _ _
  · exact k.trans (k.setAllowance _ _) (k.startSlide _ _ _)
  · exact k.refl s
  · exact k.refl s

theorem handStamp (s : State) (op : Operation) : R s (s.handStamp op) := by
  unfold State.handStamp; repeat' split
  · refine k.trans (k.modRecord s _ (fun r => { r with stamp := op.tag }) fun _ => ?_) (k.commit _ _)
    exact ⟨rfl, rfl, rfl⟩
  · exact k.refl s
  · exact k.refl s

theorem closeOp (s : State) (op : Operation) : R s (s.closeOp op) := by
  unfold State.closeOp
  dsimp only
  have h1 := k.raiseAt s (opDonePorts op.requester) (.opDone op.kind op.tag op.result op.abortCause op.outcomes)
  generalize s.raiseAt _ _ = t1 at h1 ⊢
  have h2 : R s (if op.outcomes.any (·.planned) then t1.writeHistory op.history else t1) := by
    split
    · exact k.trans h1 (k.writeHistory _ _)
    · exact h1
  generalize (if op.outcomes.any (·.planned) then t1.writeHistory op.history else t1) = t2 at h2 ⊢
  have h3 := k.trans h2 (k.handStamp t2 op)
  generalize t2.handStamp op = t3 at h3 ⊢
  repeat' split
  all_goals first
    | exact h3
    | exact k.trans h3 (k.setAllowance _ _)
    | exact k.trans h3 (k.trans (k.offerExit _) (k.offerReturn _))
    | exact k.trans h3 (k.trans (k.setAllowance _ _) (k.trans (k.offerExit _) (k.offerReturn _)))

theorem failSeek (s : State) (op : Operation) : R s (s.failSeek op).1 := by
  refine k.axis s op.normaliseAxis (fun u => { u with confidence := op.startConfidence }) fun _ => ?_
  exact ⟨rfl, rfl, rfl, rfl, rfl, rfl, rfl, rfl⟩

theorem endOp (s : State) (op : Operation) : R s (s.endOp op) := by
  unfold State.endOp; split
  · exact k.trans (k.failSeek s op) (k.closeOp _ _)
  · exact k.closeOp _ _

theorem abortActive (s : State) (c : AbortCause) : R s (s.abortActive c) := by
  unfold State.abortActive
  split
  · exact k.refl s
  · rename_i op0 _
    dsimp only
    have h := k.trans (k.disown s op0) (k.stopEntries _ (fun e => e.owner == .operation op0.id) byAbort)
    split
    · exact h
    · split
      · exact k.trans h (k.trans (k.releaseActive _) (k.engine _ _ id))
      · exact k.trans h (k.trans (k.releaseActive _) (k.endOp _ _))

theorem enterLeg3 (s : State) (a : Axis) (h : Int) (d1 : Nat) : R s (s.enterLeg3 a h d1) := by
  unfold State.enterLeg3
  refine k.trans (k.trans (k.trans (k.trans (k.setStops s a (some ⟨10, h - 10⟩)) ?_) (k.commit _ _))
    (k.modActive _ _)) (k.admitOp _ _ _)
  exact k.axis _ a _ fun _ => ⟨rfl, rfl, rfl, rfl, rfl, rfl, rfl, rfl⟩

theorem failRange (s : State) (op : Operation) (a : Axis) (h : Int) : R s (s.failRange op a h) := by
  unfold State.failRange
  refine k.trans (k.trans (k.trans (k.trans (k.setStops s a none) ?_) (k.commit _ _)) (k.releaseActive _))
    (k.closeOp _ _)
  exact k.axis _ a _ fun _ => ⟨rfl, rfl, rfl, rfl, rfl, rfl, rfl, rfl⟩

theorem advanceLeg (s : State) (op : Operation) : R s (s.advanceLeg op) := by
  unfold State.advanceLeg
  dsimp only
  repeat' split
  · exact k.enterLeg2 _ _
  · exact k.enterLeg3 _ _ _ _
  · exact k.failRange _ _ _ _
  · exact k.trans (k.releaseActive _) (k.endOp _ _)

theorem advance (s : State) (op : Operation) : R s (s.advance op) := by
  unfold State.advance
  split
  · exact k.advanceLeg _ _
  · exact k.enterPhase2 _
  · exact k.enterPhase2 _
  · exact k.enterPhase3 _
  · exact k.enterPhase3 _
  · exact k.trans (k.releaseActive _) (k.closeOp _ _)

theorem nextWork (s : State) {t : State} (h : s.nextWork = some t) : R s t := by
  unfold State.nextWork at h
  split at h
  · cases h; exact k.closeJog _ _
  · split at h
    · cases h; refine k.trans ?_ (k.endOp _ _); exact k.engine _ _ id
    · split at h
      · split at h
        · cases h
        · cases h; exact k.advance _ _
      · cases h

theorem concludeFor (n : Nat) (ex : List Axis) (s : State) : R s (State.concludeFor n ex s) := by
  induction n generalizing ex s with
  | zero => exact k.refl s
  | succ n ih =>
    unfold State.concludeFor
    split
    · rename_i t h
      exact k.trans (k.trans (k.arbiter s ex) (k.nextWork _ h)) (ih _ t)
    · exact k.arbiter s ex

theorem conclude (s : State) (ex : List Axis) : R s (s.conclude ex) := k.concludeFor _ ex s

theorem ite {s t : State} {c : Prop} [Decidable c] {f : State} (h : R s t) (hf : R t f) : R s (if c then f else t) := by
  split
  · exact k.trans h hf
  · exact h

theorem handOn (s t : State) : R t (Machine.handOn s t).1 := by
  have last : ∀ (c : Prop) [Decidable c] (x : State), R t x → R t (if c then x.revokeToFit else (x, [])).1 := by
    intro c _ x h
    split
    · exact k.trans h (k.revokeToFit x)
    · exact h
  refine last _ _ (k.ite (k.ite (k.ite (k.ite ?_ (k.offerExit _)) (k.offerReturn _)) (k.askWalk _)) (k.askWalk _))
  split
  · split
    · exact k.abortActive _ _
    · exact k.refl t
  · exact k.refl t

theorem handOnConclude (s t : State) : R t ((Machine.handOn s t).1.conclude (Machine.handOn s t).2) :=
  k.trans (k.handOn s t) (k.conclude _ _)

theorem raiseKnown (s : State) (b : Bool) : R s (s.raiseKnown b) := by
  unfold State.raiseKnown; split
  · exact k.raiseAt _ _ _
  · exact k.refl s

theorem raiseDriverChanged (s : State) : R s s.raiseDriverChanged := k.raiseAt _ _ _

theorem assign (s : State) (id : Nat) : R s (s.assign id) :=
  k.trans (k.trans (k.trans (k.trans (k.abortActive _ _) (k.arbiter _ _))
    (k.table _ _ fun h => State.driverFor_sound h id)) (k.disarm _ _)) (k.setAllowance _ _)

/-- R110 to R112: an edit of the active driver's slot. -/
theorem edit (s : State) (i : SlotIx) (f : Profile → Profile) (hi : s.slotToEdit = some i) : R s (s.edit i f) := by
  unfold State.edit
  refine k.trans (k.trans (k.trans ?_ (k.commit _ _)) (k.raise _ _ _)) (k.raiseKnown _ _)
  refine k.tableOnly s _ ?_ fun h => State.edit_sound h hi _ (fun _ => rfl) (fun e r => ?_) (fun e r => ?_)
  · unfold State.becomeKnown State.enterDirty; repeat' split
    all_goals rfl
  · simp [e, newRecord]
  · simp [e]

theorem openNewJog (s : State) (a : Axis) (d : Dir) : R s (s.openNewJog a d) := by
  refine k.trans (k.trans ?_ (k.bumpId _)) (k.place _ _)
  exact k.moves s _

theorem newJog (s : State) (a : Axis) (d : Dir) : R s (s.newJog a d) := by
  refine k.trans (k.trans ?_ (k.openNewJog _ _ _)) (k.conclude _ _)
  refine k.trans ?_ (k.axis _ a _ fun _ => ?_)
  · exact k.trans (k.trans (k.abortActive s _) (k.arbiter _ _)) (k.modJogs _ _ _)
  · exact ⟨rfl, rfl, rfl, rfl, rfl, rfl, rfl, rfl⟩

end ActClosed

end Sys2Proof.Machine
end

