-- ==== Sys2Proof/Laws/Steps.lean ====
section
/-! SUPPORT. The induction principle over whole commands: a relation that holds over the elementary updates of every
block holds between a state and the state any command leads to (`StepClosed.exec`). -/

namespace Sys2Proof.Machine

/-- A relation that holds over every elementary update of every block. -/
structure StepClosed (R : State → State → Prop) : Prop extends ActClosed R where
  unit : ∀ s a (f : AxisUnit → AxisUnit),
    (∀ u : AxisUnit, u.leadUp ≤ 6 ∧ u.leadDown ≤ 6 → (f u).leadUp ≤ 6 ∧ (f u).leadDown ≤ 6) → R s (s.modAxis a f)
  monitor : ∀ s m, Monitor.sound m → R s { s with monitor := m }
  power : ∀ s x, R s { s with power := x }
  ports : ∀ s ps, (∀ p, (s.ports.get p).bounded → (ps.get p).bounded) → R s { s with ports := ps }
  store : ∀ s st, (s.store.queueSound → ProfileStore.queueSound st) → R s { s with store := st }
  anew : ∀ s t, State.pending t = s.pending → t.portsBounded → t.store.queueSound → t.ringBounded → t.leadsInRange →
    t.monitor.sound → t.table.sound → R s t

theorem Monitor.sound_default : Monitor.sound {} := ⟨by simp, fun _ => rfl⟩

/-- R150, R153: a write that starts takes the head of the queue, and the oldest held commit enters at the tail. -/
theorem queueSound_shift {b : BlockIx} {rest held : List BlockIx} {st : ProfileStore}
    (h : st.queueSound) (hq : st.queue = b :: rest) (hh : st.held = held) (u : ProfileStore)
    (uq : u.queue = rest ++ held.take 1) (uh : u.held = held.drop 1) : u.queueSound := by
  obtain ⟨h1, h2, h3⟩ := h
  subst hh
  refine ⟨?_, ?_, fun hn => ?_⟩
  · rw [hq] at h1; rw [uq]; simp at h1 ⊢; omega
  · rw [uq, uh, List.append_assoc, List.take_append_drop]
    rw [hq, List.cons_append] at h2
    exact (List.nodup_cons.1 h2).2
  · have hne : st.held ≠ [] := by
      intro h0; rw [uh, h0] at hn; simp at hn
    have := h3 hne
    rw [hq] at this
    have hl : 1 ≤ st.held.length := List.length_pos_of_ne_nil hne
    rw [uq]; simp at this ⊢; omega

theorem State.setStorage_queue (s : State) (b : BlockIx) (x : Storage) :
    (s.setStorage b x).store.queue = s.store.queue ∧ (s.setStorage b x).store.held = s.store.held := by
  unfold State.setStorage; repeat' split
  all_goals exact ⟨rfl, rfl⟩

theorem ProfileStore.queueSound_congr {u v : ProfileStore} (h : v.queue = u.queue ∧ v.held = u.held)
    (k : u.queueSound) : v.queueSound := by
  unfold ProfileStore.queueSound at *; rw [h.1, h.2]; exact k

theorem State.startWrite_queueSound (s : State) (h : s.store.queueSound) : s.startWrite.store.queueSound := by
  unfold State.startWrite
  split
  · exact h
  · rename_i b rest hq
    split
    · exact queueSound_shift h hq rfl _ rfl rfl
    · exact h

theorem State.placeCommit_queueSound (s : State) (b : BlockIx) (h : s.store.queueSound) :
    (s.placeCommit b).store.queueSound := by
  unfold State.placeCommit
  obtain ⟨h1, h2, h3⟩ := h
  split
  · exact ⟨h1, h2, h3⟩
  · rename_i hq
    have hq : b ∉ s.store.queue := by simpa using hq
    split
    · rename_i hl
      have hh : s.store.held = [] := by
        by_contra hn; exact absurd (h3 hn) (by omega)
      refine ⟨by simp; omega, ?_, fun hn => absurd hh hn⟩
      simp only [hh, List.append_nil] at h2 ⊢
      exact List.nodup_append.2 ⟨h2, by simp, fun a ha c hc e => hq (by simp at hc; rwa [← hc, ← e])⟩
    · rename_i hl
      split
      · exact ⟨h1, h2, h3⟩
      · rename_i hh
        have hh : b ∉ s.store.held := by simpa using hh
        refine ⟨h1, ?_, fun _ => by simp at h1 ⊢; omega⟩
        show (s.store.queue ++ (s.store.held ++ [b])).Nodup
        rw [← List.append_assoc]
        refine List.nodup_append.2 ⟨h2, by simp, ?_⟩
        intro a ha c hc e
        simp at hc; subst hc; subst e
        rcases List.mem_append.1 ha with h | h
        · exact hq h
        · exact hh h

/-- R150, R151: a commit keeps the queue's laws. -/
theorem State.commit_queueSound (s : State) (b : BlockIx) (h : s.store.queueSound) : (s.commit b).store.queueSound :=
  State.startWrite_queueSound _ (State.placeCommit_queueSound _ _
    (ProfileStore.queueSound_congr (State.setStorage_queue s b .pending) h))

/-- R182: raising an event keeps the bounds of every port. -/
theorem PortUnit.enqueue_bounded (u : PortUnit) (e : Event) (h : u.bounded) : (u.enqueue e).bounded := by
  obtain ⟨h1, h2, h3⟩ := h
  unfold PortUnit.enqueue; split
  · exact ⟨by simp; omega, h2, h3⟩
  · exact ⟨h1, by simp [bumpCount], h3⟩

theorem Ports.get_set (ps : Ports) (p q : Port) (u : PortUnit) : (ps.set p u).get q = if q = p then u else ps.get q := by
  cases p <;> cases q <;> rfl

theorem loadAxes_lead (van : VanRecord) (x : Option Snapshot) (a : Axis) :
    (loadAxes van x)[a.val].leadUp = 0 ∧ (loadAxes van x)[a.val].leadDown = 0 := by
  have hf : ∀ a : Fin 10, freshAxes[a.val].leadUp = 0 ∧ freshAxes[a.val].leadDown = 0 := by decide
  unfold loadAxes
  split
  · exact hf a
  · simp only [Vector.getElem_ofFn]
    unfold restoreAxis restoreCounted
    split
    · exact hf a
    · exact hf a

theorem loaded_sound (b : Vector Block 52) (f : BitVec 10) (m : ModelFields) (l : List Instr) :
    (loaded b f m l).portsBounded ∧ (loaded b f m l).store.queueSound ∧ (loaded b f m l).ringBounded ∧
      (loaded b f m l).leadsInRange ∧ (loaded b f m l).monitor.sound := by
  refine ⟨?_, ⟨by simp [loaded], by simp [loaded], by simp [loaded]⟩, by simp [State.ringBounded, loaded], ?_,
    Monitor.sound_default⟩
  · intro p
    cases p
    · exact ⟨by simp [loaded, State.port, Ports.get], by simp [loaded, State.port, Ports.get],
        by simp [loaded, State.port, Ports.get]⟩
    · refine ⟨?_, by simp [loaded, State.port, Ports.get], by simp [loaded, State.port, Ports.get]⟩
      show (profileLoss b).length ≤ 16
      unfold profileLoss; dsimp only; split <;> simp
    · exact ⟨by simp [loaded, State.port, Ports.get], by simp [loaded, State.port, Ports.get],
        by simp [loaded, State.port, Ports.get]⟩
  · intro a
    have h := loadAxes_lead ((loadVan b).getD (uncommissioned f)) (loadSnapshot b) a
    exact ⟨by show (loadAxes _ _)[a.val].leadUp ≤ 6; rw [h.1]; omega,
      by show (loadAxes _ _)[a.val].leadDown ≤ 6; rw [h.2]; omega⟩

/-- A request command is the submission of its request at its port. -/
theorem exec_request {c : Instr} {p : Port} {r : Request} (h : c.request = some (p, r)) (s : State) :
    exec c s = live (·.submit p r) s := by
  cases c <;> simp only [Instr.request, Option.some.injEq, Prod.mk.injEq, reduceCtorEq] at h <;>
    (obtain ⟨rfl, rfl⟩ := h; rfl)

namespace StepClosed

variable {R : State → State → Prop} (k : StepClosed R)
include k

theorem port (s : State) (p : Port) (f : PortUnit → PortUnit) (hf : ∀ u, u.bounded → (f u).bounded) :
    R s (s.modPort p f) :=
  k.ports s _ fun q h => by
    rw [Ports.get_set]; split
    · rename_i e; subst e; exact hf _ h
    · exact h

theorem units (s : State) (f : Axis → AxisUnit → AxisUnit)
    (hf : ∀ a u, (f a u).leadUp = u.leadUp ∧ (f a u).leadDown = u.leadDown) : R s (s.mapAxes f) :=
  k.foldl _ (fun t a => k.unit t a _ fun u h => by rw [(hf a u).1, (hf a u).2]; exact h) _ s

/-! ### The profile store and power control -/

theorem setStorage (s : State) (b : BlockIx) (x : Storage) : R s (s.setStorage b x) := by
  unfold State.setStorage
  repeat' split
  · rename_i i _
    refine k.tableOnly s _ rfl fun h => ProfileTable.sound_same h (fun j => ?_) rfl rfl
    have : ((s.setSlot i { s.slot i with storage := x }).slot j).record = (s.slot j).record := by
      by_cases e : j = i
      · rw [e, State.slot_setSlot_same]
      · rw [State.slot_setSlot_other _ _ e]
    exact ⟨congrArg _ this, congrArg _ this, congrArg _ this⟩
  · exact k.store s _ (ProfileStore.queueSound_congr ⟨rfl, rfl⟩)
  · exact k.store s _ (ProfileStore.queueSound_congr ⟨rfl, rfl⟩)
  · exact k.store s _ (ProfileStore.queueSound_congr ⟨rfl, rfl⟩)

theorem startWrite (s : State) : R s s.startWrite := by
  have h := s.startWrite_queueSound
  unfold State.startWrite at h ⊢
  split
  · exact k.refl s
  · split
    · rename_i hq hc
      exact k.store s _ (queueSound_shift · hq rfl _ rfl rfl)
    · exact k.refl s

theorem enterPark (s : State) : R s s.enterPark := by
  refine k.trans (k.units s (fun _ u => { u with intervalTimer := none, drove := false }) fun _ _ => ⟨rfl, rfl⟩) ?_
  unfold State.enterPark
  generalize s.mapAxes _ = t
  exact k.trans (k.monitor t {} Monitor.sound_default) (k.power { t with monitor := {} } _)

theorem enterWaking (s : State) : R s s.enterWaking := by
  refine k.trans (k.units s (fun _ u => { u with intervalTimer := some 100, drove := false }) fun _ _ => ⟨rfl, rfl⟩) ?_
  unfold State.enterWaking
  generalize s.mapAxes _ = t
  exact k.trans (k.monitor t {} Monitor.sound_default) (k.power { t with monitor := {} } _)

theorem wake (s : State) (c : WakeCause) : R s (s.wake c) := by
  unfold State.wake
  dsimp only
  split
  · exact k.trans (k.power s _) (k.enterWaking _)
  · exact k.power s _
  · exact k.refl s
  · exact k.refl s

theorem raisePowerState (s : State) (st : PowerState) (c : PowerCause) (u : Bool) : R s (s.raisePowerState st c u) :=
  k.raise _ _ _

theorem snapshotEnd (s : State) (ok : Bool) : R s (s.snapshotEnd ok) := by
  unfold State.snapshotEnd
  repeat' split
  · exact k.trans (k.power s _) (k.enterWaking _)
  · exact k.trans (k.trans (k.power s _) (k.enterPark _)) (k.raise _ _ _)
  · exact k.trans (k.power s _) (k.raise _ _ _)

theorem consumeEnd (s : State) (ok : Bool) : R s (s.consumeEnd ok) := by
  unfold State.consumeEnd; split
  · exact k.trans (k.power s _) (k.raise _ _ _)
  · exact k.trans (k.power s _) (k.raise _ _ _)

theorem handResult (s : State) (w : Write) (ok : Bool) : R s (s.handResult w ok) := by
  have h := k.setStorage s w.block (storageAfter ok (s.commitWaits w.block))
  unfold State.handResult
  dsimp only
  repeat' split
  · exact k.trans h (k.consumeEnd _ _)
  · exact k.trans h (k.snapshotEnd _ _)
  all_goals exact h

theorem storeIdle (s : State) : R s s.storeIdle := by
  refine k.trans ?_ (k.startWrite _)
  exact k.store s _ (ProfileStore.queueSound_congr ⟨rfl, rfl⟩)

theorem endWrite (s : State) (w : Write) (r : StoreResult) : R s (s.endWrite w r) := by
  refine k.trans ?_ (k.storeIdle _)
  refine k.trans ?_ (k.raiseAt _ _ _)
  refine k.trans ?_ (k.handResult _ _ _)
  exact k.store s _ (ProfileStore.queueSound_congr ⟨rfl, rfl⟩)

theorem setBlock (s : State) (i : PhysIx) (b : Block) : R s (s.setBlock i b) :=
  k.store s _ (ProfileStore.queueSound_congr ⟨rfl, rfl⟩)

theorem beginAttempt (s : State) (w : Write) : R s (s.beginAttempt w) :=
  k.store s _ (ProfileStore.queueSound_congr ⟨rfl, rfl⟩)

theorem afterFailure (s : State) (w : Write) : R s (s.afterFailure w) := by
  unfold State.afterFailure
  repeat' split
  · exact k.beginAttempt _ _
  · exact k.endWrite _ _ _
  · refine k.trans ?_ (k.beginAttempt _ _)
    exact k.store s _ (ProfileStore.queueSound_congr ⟨rfl, rfl⟩)
  · exact k.endWrite _ _ _

theorem failAttempt (s : State) (f : Failure) : R s (s.failAttempt f) := by
  unfold State.failAttempt
  split
  · exact k.refl s
  · dsimp only
    refine k.trans ?_ (k.afterFailure _ _)
    generalize hb : State.bumpFree _ = t
    have h : R s t := by rw [← hb]; exact k.trans (k.setBlock s _ _) (k.bumpFree _)
    exact k.trans h (k.store t _ (ProfileStore.queueSound_congr ⟨rfl, rfl⟩))

theorem eraseGood (s : State) : R s s.eraseGood := by
  unfold State.eraseGood
  split
  · exact k.refl s
  · rename_i w _
    have h := k.setBlock s w.target .blank
    dsimp only
    generalize s.setBlock w.target .blank = t at h ⊢
    exact k.trans h (k.store t _ (ProfileStore.queueSound_congr ⟨rfl, rfl⟩))

theorem programGood (s : State) : R s s.programGood := by
  unfold State.programGood
  split
  · exact k.refl s
  · exact k.trans (k.setBlock s _ _) (k.endWrite _ _ _)

/-! ### The requests -/

theorem expireFreshness (s : State) : R s s.expireFreshness := by
  unfold State.expireFreshness
  refine k.trans (k.trans (k.monitor s _ ?_) (k.raiseAt _ _ _)) (k.handOnConclude _ _)
  exact ⟨by simp, fun _ => rfl⟩

theorem applyReport (s : State) (r : VehicleRecord) (c : Bool) : R s (s.applyReport r c) := by
  have h : R s { s with monitor := { fresh := true, record := r, freshTimer := some 500, lastIgnition := some r.ignition } } :=
    k.monitor s _ ⟨by simp, by simp⟩
  unfold State.applyReport
  generalize ({ s with monitor := { fresh := true, record := r, freshTimer := some 500
                                    lastIgnition := some r.ignition } } : State) = t at h ⊢
  dsimp only
  refine k.trans ?_ (k.handOnConclude _ _)
  have h1 := k.ite (c := r.ignition = .run ∧ s.monitor.lastIgnition ≠ some .run) h (k.disarm t .ignition)
  generalize (if r.ignition = .run ∧ s.monitor.lastIgnition ≠ some .run then t.disarm .ignition else t) = t1 at h1 ⊢
  split
  · exact h1
  · exact k.trans h1 (k.raiseAt _ _ _)

theorem reqVehicleState (s : State) (a b c d e : Byte) : R s (s.reqVehicleState a b c d e).1 :=
  k.applyReport s (decReport a b c d e).1 (decReport a b c d e).2

theorem snapshotOrWait (s : State) : R s s.snapshotOrWait := by
  unfold State.snapshotOrWait
  split
  · exact k.power s _
  · exact k.commit s _

theorem reqPark (s : State) : R s s.reqPark.1 := by
  unfold State.reqPark
  split
  · have h := k.power s { s.power with state := .parking, wakePending := false, wakeCause := none }
    generalize ({ s with power := { s.power with state := .parking, wakePending := false, wakeCause := none } } : State)
      = t at h ⊢
    have h1 := k.trans h (k.disarm t .park)
    dsimp only
    generalize t.disarm .park = t1 at h1 ⊢
    refine k.trans (k.trans h1 ?_) (k.snapshotOrWait _)
    exact k.trans (k.modJogs t1 _ _) (k.conclude _ _)
  · exact k.refl s

theorem resetPower (s : State) : R s s.resetPower := by
  unfold State.resetPower; split
  · exact k.wake _ _
  · exact k.refl s

theorem reqDeviceReset (s : State) : R s s.reqDeviceReset.1 := by
  unfold State.reqDeviceReset
  dsimp only
  refine k.trans ?_ (k.resetPower _)
  have h : R s (s.mapAxes AxisUnit.reset) := k.mapAxes s _ fun a u => by
    have c := Quiet.cut u a false
    exact ⟨c.leadUp, c.leadDown, c.heat, c.hot, c.sensorFault, c.travel, c.runTime, c.intervalTimer⟩
  generalize s.mapAxes AxisUnit.reset = t at h ⊢
  refine k.trans h (k.trans (k.ports t { vehicle := t.ports.vehicle.reset false, fleet := t.ports.fleet.reset true
                                         panel := t.ports.panel.reset true } ?_) ?_)
  · intro p _; cases p <;> exact ⟨by simp [PortUnit.reset, Ports.get], by simp [PortUnit.reset, Ports.get],
      by simp [PortUnit.reset, Ports.get]⟩
  · exact k.trans (k.moves _ {}) (k.trans (k.monitor _ {} Monitor.sound_default)
      (k.trans (k.setNobody _) (k.engine _ {} fun _ => by simp)))

theorem reqAssignDriver (s : State) (id : BitVec 32) (f : Byte) : R s (s.reqAssignDriver id f).1 := by
  unfold State.reqAssignDriver
  split
  · dsimp only
    split
    · exact k.trans (k.trans (k.trans (k.assign _ _) (k.startRecall _ _ _ _)) (k.conclude _ _)) (k.raiseDriverChanged _)
    · exact k.trans (k.trans (k.assign _ _) (k.conclude _ _)) (k.raiseDriverChanged _)
  · exact k.refl s

theorem reqReleaseDriver (s : State) : R s s.reqReleaseDriver.1 := by
  unfold State.reqReleaseDriver
  split
  · exact k.refl s
  · dsimp only
    refine k.trans (k.trans ?_ (k.setNobody _)) (k.raiseDriverChanged _)
    split
    · exact k.trans (k.armExit _ _) (k.conclude _ _)
    · exact k.refl s

theorem reqLoadProfile (s : State) (r : ProfileFields) (f : Byte) : R s (s.reqLoadProfile r f).1 := by
  unfold State.reqLoadProfile
  split
  · exact k.refl s
  · split
    · exact k.refl s
    · dsimp only
      split
      · exact k.refl s
      · rename_i i hi
        repeat' split
        · exact k.refl s
        · exact k.refl s
        all_goals
          refine k.trans (k.trans ?_ (k.commit _ _)) (k.raiseKnown _ _)
          refine k.tableOnly s _ ?_ fun h => State.load_sound h hi _ ⟨rfl, rfl, rfl⟩
          unfold State.becomeKnown; split <;> rfl

theorem reqLoadDefault (s : State) (v : PositionFields) (e : Byte) : R s (s.reqLoadDefault v e).1 := by
  unfold State.reqLoadDefault
  repeat' split
  all_goals first
    | exact k.refl s
    | (refine k.trans (k.table s _ fun h => ?_) (k.commit _ _)
       exact ProfileTable.sound_same h (fun _ => ⟨rfl, rfl, rfl⟩) rfl rfl)

theorem reqReadProfile (s : State) (x : Byte) (n : BitVec 32) : R s (s.reqReadProfile x n).1 := by
  unfold State.reqReadProfile
  repeat' split
  all_goals exact k.refl s

theorem reqDeleteProfile (s : State) (id : BitVec 32) : R s (s.reqDeleteProfile id).1 := by
  unfold State.reqDeleteProfile
  split
  · exact k.refl s
  · split
    · exact k.refl s
    · rename_i i _
      repeat' split
      · exact k.refl s
      · exact k.refl s
      · rename_i hk _
        refine k.trans (k.tableOnly s _ rfl fun h => ?_) (k.commit _ _)
        exact State.clean_sound h i _ (fun _ => rfl) (fun _ => rfl) (fun _ e => by cases e) (fun e => absurd e hk)

theorem reqPinProfile (s : State) (id : BitVec 32) (v : Byte) : R s (s.reqPinProfile id v).1 := by
  unfold State.reqPinProfile
  repeat' split
  all_goals first
    | exact k.refl s
    | (refine k.trans (k.modRecord s _ (fun r => { r with pinned := v.getLsbD 0 }) fun _ => ?_) (k.commit _ _)
       exact ⟨rfl, rfl, rfl⟩)

theorem reqSyncMark (s : State) (i : Byte) (r : BitVec 16) : R s (s.reqSyncMark i r).1 := by
  unfold State.reqSyncMark
  dsimp only
  repeat' split
  all_goals first
    | exact k.refl s
    | (refine k.trans (k.tableOnly s _ rfl fun h => ?_) (k.commit _ _)
       exact State.clean_sound h _ (fun r => { r with dirty := false, origin := .fleet }) (fun _ => rfl) (fun _ => rfl)
         (fun _ => id) (fun _ _ => rfl))

theorem reqStore (s : State) : R s s.reqStore.1 := by
  unfold State.reqStore
  repeat' split
  all_goals first | exact k.refl s | exact k.edit _ _ _ ‹_›

theorem reqSetExitDistance (s : State) (d : Byte) : R s (s.reqSetExitDistance d).1 := by
  unfold State.reqSetExitDistance
  split
  · exact k.refl s
  · split
    · exact k.refl s
    · split
      · exact k.refl s
      · split
        · exact k.refl s
        · dsimp only
          exact k.edit s _ _ ‹_›

theorem reqWriteCalibration (s : State) (y : Byte) (es : List CalEntry) : R s (s.reqWriteCalibration y es).1 := by
  unfold State.reqWriteCalibration
  repeat' split
  all_goals first | exact k.refl s | exact k.trans (k.van s _) (k.commit _ _)

theorem reqSetEnableMask (s : State) (m : BitVec 16) : R s (s.reqSetEnableMask m).1 := by
  unfold State.reqSetEnableMask
  split
  · exact k.refl s
  · dsimp only
    refine k.trans (k.trans ?_ (k.commit _ _)) (k.conclude _ _)
    exact k.trans (k.van s _) (k.foldl State.depart (fun t a => k.depart t a) _ _)

theorem reqReadHistory (s : State) (i : Byte) : R s (s.reqReadHistory i).1 := by
  unfold State.reqReadHistory; split <;> exact k.refl s

theorem reqNormalise (s : State) (p : Port) (x : Byte) : R s (s.reqNormalise p x).1 := by
  unfold State.reqNormalise
  repeat' split
  on_goal 8 => dsimp only; exact k.trans (k.startNormalise _ _ _) (k.conclude _ _)
  all_goals exact k.refl s

theorem reqJog (s : State) (x d : Byte) : R s (s.reqJog x d).1 := by
  unfold State.reqJog
  repeat' split
  on_goal 3 => dsimp only; exact k.modJogs _ _ _
  on_goal 4 => dsimp only; exact k.newJog _ _ _
  all_goals exact k.refl s

theorem reqJogEnd (s : State) (x : Byte) : R s (s.reqJogEnd x).1 := by
  unfold State.reqJogEnd
  repeat' split
  on_goal 4 => dsimp only; exact k.trans (k.releaseJog _ _) (k.conclude _ _)
  all_goals exact k.refl s

theorem reqRecall (s : State) : R s s.reqRecall.1 := by
  unfold State.reqRecall
  repeat' split
  on_goal 7 => dsimp only; exact k.trans (k.startRecall _ _ _ _) (k.conclude _ _)
  all_goals exact k.refl s

theorem reqUndo (s : State) : R s s.reqUndo.1 := by
  unfold State.reqUndo
  repeat' split
  on_goal 6 => dsimp only; exact k.trans (k.startUndo _ _ _) (k.conclude _ _)
  all_goals exact k.refl s

theorem reqStopAll (s : State) : R s s.reqStopAll.1 :=
  k.trans (k.trans (k.trans (k.abortActive s .stop) (k.modJogs _ _ _)) (k.stopEntries _ _ _)) (k.conclude _ [])

/-- Every request, as its block handles it. -/
theorem handle (s : State) (p : Port) (r : Request) : R s (s.handle p r).1 := by
  cases r
  · exact k.reqVehicleState s _ _ _ _ _
  · exact k.reqPark s
  · exact k.reqDeviceReset s
  · exact k.reqAssignDriver s _ _
  · exact k.reqReleaseDriver s
  · exact k.reqLoadProfile s _ _
  · exact k.reqLoadDefault s _ _
  · exact k.reqReadProfile s _ _
  · exact k.reqDeleteProfile s _
  · exact k.reqPinProfile s _ _
  · exact k.refl s
  · exact k.reqSyncMark s _ _
  · exact k.reqWriteCalibration s _ _
  · exact k.refl s
  · exact k.reqSetEnableMask s _
  · exact k.reqReadHistory s _
  · exact k.refl s
  · exact k.refl s
  · exact k.reqNormalise s p _
  · exact k.reqJog s _ _
  · exact k.reqJogEnd s _
  · exact k.reqRecall s
  · exact k.reqStore s
  · exact k.reqUndo s
  · exact k.reqSetExitDistance s _
  · exact k.refl s
  · exact k.reqStopAll s

/-! ### The port units -/

theorem placeResponse (s : State) (p : Port) (c : Byte) (r : Reply) : R s (s.placeResponse p c r) :=
  k.port s p _ fun _ h => ⟨h.1, h.2.1, h.2.2⟩

theorem serve (s : State) (p : Port) (r : Request) : R s (s.serve p r) :=
  k.trans (k.handle s p r) (k.placeResponse _ _ _ _)

theorem answerFrame (s : State) (p : Port) (f : Received) : R s (s.answerFrame p f) := by
  unfold State.answerFrame; split
  · exact k.serve _ _ _
  · exact k.placeResponse _ _ _ _
  · exact k.placeResponse _ _ _ _
  · exact k.placeResponse _ _ _ _

theorem takeRequest (s : State) (p : Port) : R s (s.takeRequest p) := by
  unfold State.takeRequest
  repeat' split
  · exact k.refl s
  · refine k.trans ?_ (k.answerFrame _ _ _)
    exact k.port s p _ fun _ h => ⟨h.1, h.2.1, h.2.2⟩
  · exact k.refl s

theorem endTransaction (s : State) (p : Port) (l : List Byte) : R s (s.endTransaction p l) :=
  k.port s p _ fun _ h => ⟨h.1, h.2.1, h.2.2⟩

theorem receive (s : State) (p : Port) (f : List Byte) : R s (s.modPort p (·.receive f)) :=
  k.port s p _ fun u h => by
    unfold PortUnit.receive; split
    · exact ⟨h.1, h.2.1, h.2.2⟩
    · exact ⟨h.1, h.2.1, by simp [bumpCount]⟩

theorem receiveHeader (s : State) (p : Port) : R s (s.receiveHeader p) := by
  refine k.trans ?_ (k.wake _ _)
  exact k.port s p _ fun _ h => ⟨h.1, h.2.1, h.2.2⟩

theorem assertSelect (s : State) (p : Port) : R s (s.assertSelect p) :=
  k.port s p _ fun _ h => ⟨h.1, h.2.1, h.2.2⟩

theorem openWrite (s : State) (p : Port) : R s (s.openWrite p) := by
  unfold State.openWrite; split
  · exact k.refl s
  · exact k.wake _ _

theorem submit (s : State) (p : Port) (r : Request) : R s (s.submit p r) := by
  have h := k.trans (k.openWrite s p) (k.endTransaction _ p (List.replicate r.frame.length 0))
  unfold State.submit
  dsimp only
  repeat' split
  · exact k.trans h (k.serve _ _ _)
  · exact k.trans h (k.placeResponse _ _ _ _)
  · exact k.trans h (k.trans (k.receive _ _ _) (k.takeRequest _ _))

theorem writeFrame (s : State) (p : Port) (f : List Byte) : R s (s.writeFrame p f) :=
  k.trans (k.trans (k.trans (k.openWrite s p) (k.endTransaction _ _ _)) (k.receive _ _ _)) (k.takeRequest _ _)

theorem dropResponse (s : State) (p : Port) : R s (s.dropResponse p) := by
  refine k.trans ?_ (k.takeRequest _ _)
  exact k.port s p _ fun _ h => ⟨h.1, h.2.1, h.2.2⟩

theorem readResponse (s : State) (p : Port) (n : Nat) : R s (s.readResponse p n) := by
  unfold State.readResponse
  dsimp only
  split
  · exact k.trans (k.endTransaction s p _) (k.dropResponse _ _)
  · exact k.endTransaction s p _

theorem readEvent (s : State) (p : Port) (n : Nat) : R s (s.readEvent p n) := by
  unfold State.readEvent
  dsimp only
  split
  · refine k.trans (k.endTransaction s p _) (k.port _ p _ fun u h => ⟨?_, h.2.1, h.2.2⟩)
    have := h.1
    simp; omega
  · exact k.endTransaction s p _

theorem readPortStatus (s : State) (p : Port) (n : Nat) : R s (s.readPortStatus p n) := by
  unfold State.readPortStatus
  dsimp only
  split
  · refine k.trans (k.endTransaction s p _) (k.port _ p _ fun u h => ⟨h.1, ?_, ?_⟩)
    · have := h.2.1; simp; omega
    · have := h.2.2; simp; omega
  · exact k.endTransaction s p _

theorem transact (s : State) (p : Port) (h : Byte) (sent : List Byte) : R s (s.transact p h sent) := by
  unfold State.transact; split
  · exact k.writeFrame s p sent
  · exact k.readResponse s p _
  · exact k.readEvent s p _
  · exact k.readPortStatus s p _
  · exact k.endTransaction s p _

theorem takeHeld (s : State) : R s s.takeHeld := by
  unfold State.takeHeld
  split
  · exact k.refl s
  · exact k.takeRequest _ _
  · exact k.trans (k.bumpFree s) (k.foldl _ (fun t p => k.takeRequest t p) _ _)

/-! ### The sensors and the timers -/

theorem strayPulse (s : State) (a : Axis) : R s (s.strayPulse a) := by
  unfold State.strayPulse
  have h : R s (s.setAxis a { s.axis a with
      confidence := if (s.axis a).confidence = .normalised then .suspect else (s.axis a).confidence
      strayRaised := true }) :=
    k.unit s a (fun u => { u with
      confidence := if (s.axis a).confidence = .normalised then .suspect else (s.axis a).confidence
      strayRaised := true }) fun _ h => h
  dsimp only
  split
  · exact h
  · exact k.trans h (k.raiseAt _ _ _)

theorem hallPulse (s : State) (a : Axis) : R s (s.hallPulse a) := by
  unfold State.hallPulse
  repeat' split
  · exact k.strayPulse _ _
  · rename_i d _
    have h : R s ((s.modAxis a (·.countPulse d)).modActive (·.countLeg1 a)) := by
      refine k.trans ?_ (k.modActive _ _)
      exact k.unit s a _ fun _ h => h
    dsimp only
    split
    · exact k.trans h (k.trans (k.cutInto _ _ _ _) (k.conclude _ _))
    · exact h
  · exact k.refl s

theorem driveSample (s : State) (a : Axis) : R s (s.driveSample a) := by
  have h : R s (s.modAxis a (·.stallProgress)) := k.unit s a _ fun u h => by
    unfold AxisUnit.stallProgress; split <;> exact h
  unfold State.driveSample
  repeat' split
  · exact k.trans (k.trans (k.trans (k.cutMotor s _ _) (k.askWalk _)) (k.judge _ _)) (k.conclude _ _)
  all_goals exact h

theorem setFault (s : State) (a : Axis) : R s (s.setFault a) := by
  unfold State.setFault
  have h : R s ((s.modAxis a fun u => { u with sensorFault := true }).raiseAt [.vehicle, .panel] (.axisFault a .sensor)) := by
    refine k.trans ?_ (k.raiseAt _ _ _)
    exact k.unit s a _ fun _ h => h
  dsimp only
  split
  · exact k.trans h (k.trans (k.cutEnding _ _ _) (k.conclude _ _))
  · exact h

theorem mirrorSample (s : State) (a : Axis) (raw : BitVec 10) : R s (s.mirrorSample a raw) := by
  unfold State.mirrorSample
  have h : R s (s.modAxis a (·.takeSample raw)) := k.unit s a _ fun _ h => h
  dsimp only
  repeat' split
  · exact h
  · exact k.trans h (k.setFault _ _)
  · exact k.trans h (k.driveSample _ _)
  · refine k.trans h ?_
    exact k.unit _ a _ fun _ h => h
  · exact k.refl s

theorem coastWaitOver (s : State) : R s s.coastWaitOver := by
  unfold State.coastWaitOver; split
  · refine k.trans ?_ (k.commit _ _)
    exact k.power s _
  · exact k.refl s

theorem coastEnd (s : State) (a : Axis) : R s (s.coastEnd a) := by
  unfold State.coastEnd
  split
  · refine k.trans (k.trans (k.trans (k.trans ?_ (k.askWalk _)) (k.resolveAxis _ _)) (k.conclude _ _))
      (k.coastWaitOver _)
    refine k.unit s a _ fun u h => ?_
    unfold AxisUnit.endCoast
    dsimp only
    constructor <;> split <;> first | exact h.1 | exact h.2 | exact Nat.min_le_right _ _
  · exact k.refl s

theorem stall (s : State) (a : Axis) : R s (s.stall a) := by
  unfold State.stall
  split
  · have h : R s (s.modAxis a fun u => { u with stallPos := u.position }) := k.unit s a _ fun _ h => h
    dsimp only
    repeat' split
    · exact k.trans h (k.trans (k.cutEnding _ _ _) (k.conclude _ _))
    · exact k.trans h (k.trans (k.cutInto _ _ _ _) (k.conclude _ _))
    · exact k.trans h (k.trans (k.cutEnding _ _ _) (k.conclude _ _))
  · exact k.refl s

theorem becomeHot (s : State) (a : Axis) : R s (s.becomeHot a) := by
  unfold State.becomeHot
  repeat' split
  · refine k.trans (k.trans (k.cutEnding s a .hot) ?_) (k.conclude _ _)
    exact k.unit _ a _ fun _ h => h
  · exact k.trans (k.finishEntry s _ _ _) (k.conclude _ _)
  · exact k.refl s
  · exact k.refl s

theorem heatInterval (s : State) (a : Axis) : R s (s.heatInterval a) := by
  unfold State.heatInterval
  split
  · have h : R s (s.modAxis a (·.stepHeat)) := k.unit s a _ fun _ h => h
    dsimp only
    split
    · exact k.trans h (k.becomeHot _ _)
    · exact h
  · exact k.refl s

theorem runTimeInterval (s : State) (a : Axis) : R s (s.runTimeInterval a) := by
  unfold State.runTimeInterval
  split
  · exact k.unit s a _ fun _ h => h
  · exact k.refl s

theorem timeLimitExpiry (s : State) (a : Axis) : R s (s.timeLimitExpiry a) := by
  unfold State.timeLimitExpiry
  split
  · exact k.refl s
  · split
    · split
      · exact k.trans (k.cutInto _ _ _ _) (k.conclude _ _)
      · exact k.trans (k.cutEnding _ _ _) (k.conclude _ _)
    · exact k.refl s

theorem keepAliveExpiry (s : State) (a : Axis) : R s (s.keepAliveExpiry a) := by
  unfold State.keepAliveExpiry
  repeat' split
  on_goal 2 => exact k.trans (k.releaseJog _ _) (k.conclude _ _)
  all_goals exact k.refl s

theorem settleExpiry (s : State) : R s s.settleExpiry := by
  unfold State.settleExpiry
  split
  · refine k.trans (k.trans (k.trans ?_ (k.commit _ _)) (k.raisePowerState _ _ _ _)) (k.takeHeld _)
    refine k.trans (k.units s (fun _ u => u.newIdle) fun _ _ => ⟨rfl, rfl⟩) ?_
    generalize s.mapAxes _ = t
    exact k.trans (k.monitor t {} Monitor.sound_default) (k.power { t with monitor := {} } _)
  · exact k.refl s

theorem progressExpiry (s : State) : R s s.progressExpiry := by
  unfold State.progressExpiry; split
  · exact k.trans (k.abortActive _ _) (k.conclude _ _)
  · exact k.refl s

theorem freshnessExpiry (s : State) : R s s.freshnessExpiry := by
  unfold State.freshnessExpiry; split
  · exact k.expireFreshness _
  · exact k.refl s

theorem eraseTimerExpiry (s : State) : R s s.eraseTimerExpiry := by
  unfold State.eraseTimerExpiry; split
  · exact k.failAttempt _ _
  · exact k.refl s

theorem eraseComplete (s : State) (g l : Bool) : R s (s.eraseComplete g l) := by
  unfold State.eraseComplete; repeat' split
  · exact k.eraseGood _
  · exact k.failAttempt _ _
  · exact k.refl s

theorem programTimerExpiry (s : State) : R s s.programTimerExpiry := by
  unfold State.programTimerExpiry; split
  · exact k.failAttempt _ _
  · exact k.refl s

theorem programComplete (s : State) (g l : Bool) : R s (s.programComplete g l) := by
  unfold State.programComplete; repeat' split
  · exact k.programGood _
  · exact k.failAttempt _ _
  · exact k.refl s

/-! ### Supply -/

theorem applySupply (s : State) (x : BitVec 10) (l : List PhysIx) : R s (s.applySupply x l) := by
  unfold State.applySupply
  have h : R s (loaded (decay s.store.blocks l) (fittedFrom x) s.model s.pending) := by
    obtain ⟨h1, h2, h3, h4, h5⟩ := loaded_sound (decay s.store.blocks l) (fittedFrom x) s.model s.pending
    exact k.anew s _ rfl h1 h2 h3 h4 h5 (rebuildTable_sound _)
  dsimp only
  split
  · exact k.trans h (k.commit _ _)
  · exact h

theorem loseSupply (s : State) (t : TornAs) : R s (s.loseSupply t) := by
  refine k.anew s _ rfl ?_ ⟨by simp [State.loseSupply], by simp [State.loseSupply], by simp [State.loseSupply]⟩
    (by simp [State.ringBounded, State.loseSupply]) ?_ Monitor.sound_default ProfileTable.sound_default
  · intro p; cases p <;> exact ⟨by simp [State.loseSupply, State.port, Ports.get],
      by simp [State.loseSupply, State.port, Ports.get], by simp [State.loseSupply, State.port, Ports.get]⟩
  · have hf : ∀ a : Fin 10, freshAxes[a.val].leadUp ≤ 6 ∧ freshAxes[a.val].leadDown ≤ 6 := by decide
    exact fun a => hf a

/-! ### The commands -/

theorem live {f : State → State} (h : ∀ s, R s (f s)) {s t : State} (e : Machine.live f s = .next t) : R s t := by
  unfold Machine.live at e
  cases e
  split
  · exact h s
  · exact k.refl s

/-- Every command that is no request. -/
theorem plain (c : Instr) (h : c.request = none) {s t : State} (e : Machine.exec c s = .next t) : R s t := by
  cases c <;> first | (simp only [Instr.request, reduceCtorEq] at h; done) | skip
  · rename_i p f
    exact k.live (k.writeFrame · p f) e
  · rename_i p
    exact k.live (k.receiveHeader · p) e
  · rename_i p n
    exact k.live (k.readResponse · p n) e
  · rename_i p n
    exact k.live (k.readEvent · p n) e
  · rename_i p n
    exact k.live (k.readPortStatus · p n) e
  · rename_i p h n
    exact k.live (k.transact · p _ (List.replicate n 0)) e
  · rename_i a
    exact k.live (k.hallPulse · a) e
  · rename_i a raw
    exact k.live (k.mirrorSample · a raw) e
  · exact k.live (k.wake · .door) e
  · rename_i x l
    cases e
    split
    · exact k.refl s
    · exact k.applySupply _ _ _
  · rename_i t
    exact k.live (k.loseSupply · t) e
  · rename_i a
    exact k.live (k.coastEnd · a) e
  · rename_i a
    exact k.live (k.stall · a) e
  · rename_i a
    exact k.live (k.heatInterval · a) e
  · rename_i a
    exact k.live (k.runTimeInterval · a) e
  · rename_i a
    exact k.live (k.timeLimitExpiry · a) e
  · rename_i a
    exact k.live (k.keepAliveExpiry · a) e
  · exact k.live (fun s => k.progressExpiry s) e
  · exact k.live (fun s => k.freshnessExpiry s) e
  · exact k.live (fun s => k.settleExpiry s) e
  · exact k.live (fun s => k.eraseTimerExpiry s) e
  · rename_i g l
    exact k.live (k.eraseComplete · g l) e
  · exact k.live (fun s => k.programTimerExpiry s) e
  · rename_i g l
    exact k.live (k.programComplete · g l) e
  · rename_i p
    exact k.live (k.assertSelect · p) e

/-- Every command. -/
theorem exec (c : Instr) {s t : State} (e : Machine.exec c s = .next t) : R s t := by
  by_cases h : ∃ p r, c.request = some (p, r)
  · obtain ⟨p, r, h⟩ := h
    exact k.live (k.submit · p r) ((exec_request h s).symm.trans e)
  · exact k.plain c (by cases hc : c.request with | none => rfl | some x => exact absurd ⟨x.1, x.2, hc⟩ h) e

end StepClosed

end Sys2Proof.Machine
end

