-- ==== Sys2Proof/Laws/Commits.lean ====
section
/-! SUPPORT. What a commit of a block can change (08, section 8.2). -/

namespace Sys2Proof.Machine
theorem State.blockSlot_none_or (b : BlockIx) : blockSlot b = none ∨ ∃ i : SlotIx, blockSlot b = some i ∧ i.val = b.val := by
  unfold blockSlot; split
  · exact .inr ⟨_, rfl, rfl⟩
  · exact .inl rfl

/-- What a commit operation can change: the table's slots and the store. -/
structure CommitFrame (s t : State) : Prop where
  powered : t.powered = s.powered
  ports : t.ports = s.ports
  monitor : t.monitor = s.monitor
  axes : t.axes = s.axes
  fitted : t.fitted = s.fitted
  van : t.van = s.van
  moves : t.moves = s.moves
  engine : t.engine = s.engine
  power : t.power = s.power
  model : t.model = s.model
  pending : t.pending = s.pending
  dflt : t.table.dflt = s.table.dflt
  driver : t.table.driver = s.table.driver
  dirty : t.table.dirty = s.table.dirty
  counter : t.table.counter = s.table.counter
  blocks : t.store.blocks = s.store.blocks
  spare : t.store.spare = s.store.spare

theorem CommitFrame.refl (s : State) : CommitFrame s s := by constructor <;> rfl

theorem CommitFrame.trans {s t u : State} (h : CommitFrame s t) (k : CommitFrame t u) : CommitFrame s u :=
  ⟨k.powered.trans h.powered, k.ports.trans h.ports, k.monitor.trans h.monitor, k.axes.trans h.axes,
    k.fitted.trans h.fitted, k.van.trans h.van, k.moves.trans h.moves, k.engine.trans h.engine, k.power.trans h.power,
    k.model.trans h.model, k.pending.trans h.pending, k.dflt.trans h.dflt, k.driver.trans h.driver,
    k.dirty.trans h.dirty, k.counter.trans h.counter, k.blocks.trans h.blocks, k.spare.trans h.spare⟩

theorem State.setStorage_frame (s : State) (b : BlockIx) (x : Storage) : CommitFrame s (s.setStorage b x) := by
  unfold State.setStorage
  split
  · constructor <;> rfl
  · split
    · constructor <;> rfl
    · split <;> constructor <;> rfl

theorem State.placeCommit_frame (s : State) (b : BlockIx) : CommitFrame s (s.placeCommit b) := by
  unfold State.placeCommit
  split
  · exact .refl s
  · split
    · constructor <;> rfl
    · split
      · exact .refl s
      · constructor <;> rfl

theorem State.startWrite_frame (s : State) : CommitFrame s s.startWrite := by
  unfold State.startWrite
  split
  · exact .refl s
  · split
    · constructor <;> rfl
    · exact .refl s

theorem State.commit_frame (s : State) (b : BlockIx) : CommitFrame s (s.commit b) :=
  ((s.setStorage_frame b _).trans (State.placeCommit_frame _ b)).trans (State.startWrite_frame _)
end Sys2Proof.Machine
end

