-- ==== Sys2Proof/Laws/Walks.lean ====
section
/-! SUPPORT. What the motors' cuts and drives come to, and the arbiter where the list is empty or holds one WAITING entry. -/

namespace Sys2Proof.Machine

/-! ## Motors -/

/-- R4: the cut of a driving counted axis. -/
theorem AxisUnit.cut_counted {u : AxisUnit} {a : Axis} (h : u.driving = true) (hc : a.counted = true) :
    u.cut a false = u.coasting := by simp [AxisUnit.cut, AxisUnit.coasting, h, hc]

/-- R4, R10: the cut of a driving mirror. -/
theorem AxisUnit.cut_mirror {u : AxisUnit} {a : Axis} (h : u.driving = true) (hc : a.counted = false) :
    u.cut a false = u.stopped := by simp [AxisUnit.cut, AxisUnit.stopped, h, hc]

/-- R4: the cut of an axis that does not drive. -/
theorem AxisUnit.cut_still {u : AxisUnit} {a : Axis} {p : Bool} (h : u.driving = false) : u.cut a p = u := by
  simp [AxisUnit.cut, h]

/-- R4, R17: the coast end. -/
theorem AxisUnit.endCoast_rested (u : AxisUnit) : u.endCoast = u.rested := by
  simp [AxisUnit.endCoast, AxisUnit.rested]

/-- R16, R19: a grant of a drive towards a target. -/
theorem AxisUnit.drive_drivenTo (u : AxisUnit) (a : Axis) (g : Int) (c : Bool) :
    u.drive a (towards u.position g) (u.cutPointFor a g c) = u.drivenTo a g c := by
  unfold AxisUnit.drive AxisUnit.drivenTo AxisUnit.cutPointFor towards
  by_cases h : u.position < g <;> by_cases k : a.counted = true <;> cases c <;>
    simp [h, k, Dir.motion, AxisUnit.lead]

/-! ## The arbiter -/

/-- A state in which no walk is due any more. -/
abbrev State.walked (s : State) : State := s.withDue 0

@[simp] theorem State.withDue_due (s : State) (k : Nat) : (s.withDue k).moves.walksDue = k := rfl
@[simp] theorem State.withDue_entries (s : State) (k : Nat) : (s.withDue k).moves.entries = s.moves.entries := rfl
@[simp] theorem State.withDue_offList (s : State) (k : Nat) : (s.withDue k).moves.offList = s.moves.offList := rfl
@[simp] theorem State.withDue_jogs (s : State) (k : Nat) : (s.withDue k).moves.jogs = s.moves.jogs := rfl
@[simp] theorem State.withDue_withDue (s : State) (j k : Nat) : (s.withDue j).withDue k = s.withDue k := rfl

theorem State.withDue_self {s : State} {k : Nat} (h : s.moves.walksDue = k) : s.withDue k = s := by subst h; rfl

/-- Where no walk is due, none runs. -/
theorem State.walks_idle {s : State} (h : s.moves.walksDue = 0) (n : Nat) (ex : List Axis) : State.walks n ex s = s := by
  cases n with
  | zero => rfl
  | succ n => unfold State.walks; rw [h]

/-- Where no walk is due, the arbiter does nothing. -/
theorem State.arbiter_idle {s : State} (h : s.moves.walksDue = 0) (ex : List Axis) : s.arbiter ex = s :=
  State.walks_idle h _ ex

/-- R65: a walk that is due, then the others. -/
theorem State.walks_succ {s : State} {k : Nat} (h : s.moves.walksDue = k + 1) (n : Nat) (ex : List Axis) :
    State.walks (n + 1) ex s = State.walks n [] ((s.withDue k).walkOnce ex) := by
  rw [State.walks, h]

/-- R65: the first of the walks that are due, then the others. -/
theorem State.arbiter_succ {s : State} {k : Nat} (h : s.moves.walksDue = k + 1) (ex : List Axis) :
    s.arbiter ex = State.walks (k + s.moves.entries.length) [] ((s.withDue k).walkOnce ex) := by
  unfold State.arbiter
  rw [h, show k + 1 + s.moves.entries.length = (k + s.moves.entries.length) + 1 by omega, State.walks_succ h]

/-- R65: walks that find nothing to do, however many are due. -/
theorem State.walks_still {s : State} {n : Nat} (hn : s.moves.walksDue ≤ n) (ex : List Axis)
    (h0 : ∀ k, (s.withDue k).walkOnce ex = s.withDue k) (h : ∀ k, (s.withDue k).walkOnce [] = s.withDue k) :
    State.walks n ex s = s.walked := by
  induction n generalizing s ex with
  | zero => exact (State.withDue_self (Nat.le_zero.mp hn)).symm
  | succ n ih =>
    cases e : s.moves.walksDue with
    | zero => rw [State.walks_idle e]; exact (State.withDue_self e).symm
    | succ k =>
      rw [State.walks_succ e, h0]
      exact ih (s := s.withDue k) (by simp; omega) [] (fun _ => h _) (fun _ => h _)

/-- R65: an arbiter that finds nothing to do. -/
theorem State.arbiter_still {s : State} (ex : List Axis) (h0 : ∀ k, (s.withDue k).walkOnce ex = s.withDue k)
    (h : ∀ k, (s.withDue k).walkOnce [] = s.withDue k) : s.arbiter ex = s.walked :=
  State.walks_still (Nat.le_add_right _ _) ex h0 h

/-- R67: no entry was passed over. -/
theorem State.raisePass_nil (s : State) : s.raisePass [] = s := by
  have : s.moves.entries.map (·.raisePass []) = s.moves.entries := by
    simp [MoveEntry.raisePass]
  unfold State.raisePass; rw [this]

/-- R66: a walk over one WAITING entry. -/
theorem State.walkOnce_one {s : State} {e : MoveEntry} {ex : List Axis} (hr : s.power.state = .run)
    (he : s.moves.entries = [e]) (hs : e.state = .waiting) (hm : (s.axis e.axis).motion = .idle)
    (hh : (s.axis e.axis).hot = false) (hx : e.axis ∉ ex) :
    s.walkOnce ex = if demand e.axis ≤ s.budget then s.grant e else s := by
  have hd : s.freeBudget = s.budget := by
    simp [State.freeBudget, State.drawn, he, hs]
  have hf : s.entryOf e.axis = some e := by simp [State.entryOf, he]
  have hx' : ex.contains e.axis = false := by simp [hx]
  unfold State.walkOnce
  rw [if_pos hr, he]
  simp only [List.map_cons, List.map_nil, List.foldl_cons, List.foldl_nil]
  unfold Walk.visit
  simp only [hf, hs, hm, hh, hx', hd, ne_eq, not_true_eq_false, Bool.false_eq_true, or_self, ↓reduceIte]
  split
  · rename_i h; simp [raisePass_nil]
  · simp [raisePass_nil]

/-- R66, R67: a walk over one entry that drives or settles. -/
theorem State.walkOnce_busy {s : State} {e : MoveEntry} (he : s.moves.entries = [e]) (hs : e.state ≠ .waiting)
    (ex : List Axis) : s.walkOnce ex = s := by
  have hf : s.entryOf e.axis = some e := by simp [State.entryOf, he]
  unfold State.walkOnce; split
  · rw [he]; simp [Walk.visit, hf, hs, raisePass_nil]
  · rfl

/-- R68: a walk does not grant an entry whose revocation it follows, here the only one. -/
theorem State.walkOnce_revoked {s : State} {e : MoveEntry} {ex : List Axis} (he : s.moves.entries = [e])
    (hs : e.state = .waiting) (hx : e.axis ∈ ex) : s.walkOnce ex = s := by
  have hf : s.entryOf e.axis = some e := by simp [State.entryOf, he]
  unfold State.walkOnce; split
  · rw [he]; simp [Walk.visit, hf, hs, hx, raisePass_nil]
  · rfl

/-- How many walks are due does not bear on a drive. -/
theorem State.grantDrive_withDue (s : State) (e : MoveEntry) (d : Dir) (c : Option Int) (k : Nat) :
    (s.withDue k).grantDrive e d c = (s.grantDrive e d c).withDue k := by
  unfold State.grantDrive State.grantReport
  cases e.owner <;> rfl

/-- R66: the list after a drive of its only entry. -/
theorem State.grantDrive_entries {s : State} {e : MoveEntry} (he : s.moves.entries = [e]) (d : Dir) (c : Option Int) :
    ∃ t, (s.grantDrive e d c).moves.entries = [t] ∧ t.state = .driving := by
  refine ⟨{ e with state := .driving, passCount := 0
                   timeLimit := some (s.timeLimitOf e.axis (s.axis e.axis).position e.kind) }, ?_, rfl⟩
  unfold State.grantDrive State.grantReport State.setEntry
  cases e.owner <;> simp [State.setAxis, he]

/-- R65, R66: the arbiter with one WAITING entry that drives at its grant: the first walk grants it where its demand
fits, and the others that are due find nothing to do. -/
theorem State.arbiter_one {s : State} {e : MoveEntry} {ex : List Axis} {d : Dir} {c : Option Int}
    (hw : s.moves.walksDue ≠ 0) (hr : s.power.state = .run) (he : s.moves.entries = [e]) (hs : e.state = .waiting)
    (hm : (s.axis e.axis).motion = .idle) (hh : (s.axis e.axis).hot = false) (hx : e.axis ∉ ex)
    (hg : ∀ k, (s.withDue k).grant e = (s.withDue k).grantDrive e d c) :
    s.arbiter ex = if demand e.axis ≤ s.budget then s.walked.grantDrive e d c else s.walked := by
  have one : ∀ k ex, e.axis ∉ ex → (s.withDue k).walkOnce ex =
      if demand e.axis ≤ s.budget then (s.withDue k).grantDrive e d c else s.withDue k := by
    intro k ex hx
    rw [State.walkOnce_one (s := s.withDue k) hr he hs hm hh hx, hg k]; rfl
  by_cases hb : demand e.axis ≤ s.budget
  · rw [if_pos hb]
    obtain ⟨k, hk⟩ : ∃ k, s.moves.walksDue = k + 1 := ⟨s.moves.walksDue - 1, by omega⟩
    rw [State.arbiter_succ hk, one k ex hx, if_pos hb, State.grantDrive_withDue s e d c 0, State.grantDrive_withDue s e d c k]
    obtain ⟨t, h1, h2⟩ := State.grantDrive_entries he d c
    have still : ∀ j, ((s.grantDrive e d c).withDue j).walkOnce [] = (s.grantDrive e d c).withDue j := fun j =>
      State.walkOnce_busy (s := (s.grantDrive e d c).withDue j) h1 (by simp [h2]) []
    exact State.walks_still (by simp) [] (fun _ => still _) (fun _ => still _)
  · rw [if_neg hb]
    exact State.arbiter_still ex (fun k => by rw [one k ex hx, if_neg hb])
      (fun k => by rw [one k [] (by simp), if_neg hb])

/-- R68, R65: the walk that follows the revocation of the only entry does not grant it; the others that are due may. -/
theorem State.arbiter_revoked {s : State} {e : MoveEntry} {ex : List Axis} {k : Nat} (hw : s.moves.walksDue = k + 1)
    (he : s.moves.entries = [e]) (hs : e.state = .waiting) (hx : e.axis ∈ ex) :
    s.arbiter ex = (s.withDue k).arbiter [] := by
  rw [State.arbiter_succ hw, State.walkOnce_revoked (s := s.withDue k) he hs hx]; rfl

/-- R65: the arbiter with an empty list. -/
theorem State.arbiter_empty {s : State} (h : s.moves.entries = []) (ex : List Axis) : s.arbiter ex = s.walked := by
  have still : ∀ k ex, (s.withDue k).walkOnce ex = s.withDue k := by
    intro k ex
    unfold State.walkOnce; split
    · rw [State.withDue_entries, h]; simp [raisePass_nil]
    · rfl
  exact State.arbiter_still ex (fun k => still k ex) (fun k => still k [])

/-! ## The number of walks -/

/-- The walks that are due, and those that the entries on the list could occasion by ending at their grant. -/
def State.walkLoad (s : State) : Nat := s.moves.walksDue + s.moves.entries.length

/-- A report to an owner touches no entry and asks for no walk. -/
theorem State.endEntry_load (s : State) (e : MoveEntry) (o : AxisOutcome) (x : Int) :
    (s.endEntry e o x).walkLoad = s.walkLoad := by
  unfold State.endEntry State.report; split <;> rfl

/-- An entry that ends, but for one that backs off, occasions one walk and leaves the list. -/
theorem State.finishEntry_load {s : State} {e : MoveEntry} (h : e ∈ s.moves.entries) (o : AxisOutcome)
    (ho : o ≠ .obstructed) (x : Int) : (s.finishEntry e o x).walkLoad ≤ s.walkLoad := by
  have hl : (s.moves.entries.filter (·.axis != e.axis)).length < s.moves.entries.length :=
    List.length_filter_lt_length_iff_exists.mpr ⟨e, h, by simp⟩
  unfold State.finishEntry State.endAndFollow
  simp only [ho, false_and, if_false, State.endEntry_load]
  simp only [State.walkLoad, State.askWalk, State.dropEntry]
  omega

theorem State.grantDrive_load (s : State) (e : MoveEntry) (d : Dir) (c : Option Int) :
    (s.grantDrive e d c).walkLoad = s.walkLoad := by
  unfold State.grantDrive State.grantReport State.setEntry State.walkLoad
  cases e.owner <;> simp [State.setAxis]

theorem State.grant_load {s : State} {e : MoveEntry} (h : e ∈ s.moves.entries) : (s.grant e).walkLoad ≤ s.walkLoad := by
  unfold State.grant
  dsimp only
  repeat' split
  all_goals first
    | exact State.finishEntry_load h _ (by decide) _
    | exact Nat.le_of_eq (State.grantDrive_load _ _ _ _)

theorem Walk.visit_load (ex : List Axis) (w : Walk) (a : Axis) : (Walk.visit ex w a).state.walkLoad ≤ w.state.walkLoad := by
  unfold Walk.visit
  split
  · exact Nat.le_refl _
  · split
    · exact Nat.le_refl _
    · rename_i e he
      repeat' split
      all_goals first
        | exact Nat.le_refl _
        | exact State.grant_load (List.mem_of_find?_eq_some he)

theorem State.walkOnce_load (s : State) (ex : List Axis) : (s.walkOnce ex).walkLoad ≤ s.walkLoad := by
  unfold State.walkOnce
  split
  · have h : ∀ (l : List Axis) (w : Walk), (l.foldl (Walk.visit ex) w).state.walkLoad ≤ w.state.walkLoad := by
      intro l
      induction l with
      | nil => exact fun w => Nat.le_refl _
      | cons a l ih => exact fun w => Nat.le_trans (ih _) (Walk.visit_load ex w a)
    have := h (s.moves.entries.map (·.axis)) { state := s }
    simpa [State.walkLoad, State.raisePass] using this
  · exact Nat.le_refl _

theorem State.walks_spent {s : State} {n : Nat} (h : s.walkLoad ≤ n) (ex : List Axis) :
    (State.walks n ex s).moves.walksDue = 0 := by
  induction n generalizing s ex with
  | zero => unfold State.walkLoad at h; rw [State.walks]; omega
  | succ n ih =>
    unfold State.walks
    split
    · assumption
    · rename_i k e
      refine ih (Nat.le_trans (State.walkOnce_load _ _) ?_) []
      unfold State.walkLoad at h ⊢
      simp only [State.withDue_due, State.withDue_entries]
      omega

/-- R65: the arbiter leaves no walk due: its bound is never met. -/
theorem State.arbiter_spent (s : State) (ex : List Axis) : (s.arbiter ex).moves.walksDue = 0 :=
  State.walks_spent (Nat.le_refl _) ex

/-- R16, R66: a grant that drives an axis towards its target. -/
theorem State.grant_target {s : State} {e : MoveEntry} {g : Int} (hk : e.kind = .target g)
    (hf : ¬((s.axis e.axis).sensorFault = true ∧ e.axis.mirror = true))
    (hd : deadband e.axis < ((s.axis e.axis).position - g).natAbs) :
    s.grant e = ((s.setAxis e.axis ((s.axis e.axis).drivenTo e.axis g e.correctionUsed)).setEntry
      { e with state := .driving, passCount := 0
               timeLimit := some (s.timeLimitOf e.axis (s.axis e.axis).position e.kind) }).grantReport e := by
  unfold State.grant
  simp only [hf, if_false, hk]
  rw [if_neg (by omega)]
  unfold State.grantDrive
  dsimp only
  rw [AxisUnit.drive_drivenTo, hk]

end Sys2Proof.Machine
end

