-- ==== Sys2Proof/Laws/Actions.lean ====
section
/-! SUPPORT. What the shared operations of an action come to where their case is plain: events raised, a request taken at
once, an action that leaves nothing to do, a commit that finds a place. -/

namespace Sys2Proof.Machine

/-! ## Events -/

/-- An event raised at distinct ports is placed at each of them, and nowhere else. -/
theorem State.port_raiseAt (s : State) (ps : List Port) (e : Event) (h : ps.Nodup) (q : Port) :
    (s.raiseAt ps e).port q = if q ∈ ps then (s.port q).enqueue e else s.port q := by
  induction ps generalizing s with
  | nil => rfl
  | cons p rest ih =>
    have hp := (List.nodup_cons.mp h).1
    show ((s.raise p e).raiseAt rest e).port q = _
    rw [ih _ (List.nodup_cons.mp h).2]
    by_cases hq : q = p
    · subst hq; simp [hp, State.raise, State.modPort]
    · simp [State.raise, State.modPort, hq]

/-- Raising events changes the ports alone. -/
theorem State.raiseAt_only (s : State) (ps : List Port) (e : Event) : s.onlyIn (s.raiseAt ps e) [.ports] := by
  induction ps generalizing s with
  | nil => intro p _; cases p <;> rfl
  | cons p rest ih =>
    intro x hx
    have := ih (s.raise p e) x hx
    cases x <;> first | exact this | exact absurd (by simp) hx

/-! ## Transactions -/

/-- R188: a header byte names the transaction whose header it is. -/
@[simp] theorem decHeader_header (x : Transaction) : decHeader x.header = some x := by cases x <;> decide

/-- R188: a header byte that names a transaction is its header. -/
theorem decHeader_eq {h : Byte} {x : Transaction} (e : decHeader h = some x) : h = x.header := by
  unfold decHeader at e
  repeat' split at e
  all_goals first | (cases e; assumption) | cases e

/-- R188: no header byte but those of the four transactions names one. -/
theorem decHeader_none {h : Byte} (k : ∀ x : Transaction, h ≠ x.header) : decHeader h = none := by
  cases e : decHeader h with
  | none => rfl
  | some x => exact absurd (decHeader_eq e) (k x)

/-- R177, R188: each of the four transactions, and a disregarded one, is the transaction its header byte names. -/
theorem State.transact_header (s : State) (p : Port) (sent : List Byte) (x : Transaction) :
    s.transact p x.header sent = match x with
      | .writeRequest => s.writeFrame p sent
      | .readResponse => s.readResponse p sent.length
      | .readEvent => s.readEvent p sent.length
      | .readPortStatus => s.readPortStatus p sent.length := by
  unfold State.transact; rw [decHeader_header]; cases x <;> rfl

theorem State.transact_none {h : Byte} (k : decHeader h = none) (s : State) (p : Port) (sent : List Byte) :
    s.transact p h sent = s.disregard p sent.length := by
  unfold State.transact; rw [k]

/-! ## Requests -/

theorem State.wake_run {s : State} (h : s.power.state = .run) (c : WakeCause) : s.wake c = s := by
  unfold State.wake; simp [h]

theorem State.openWrite_run {s : State} (h : s.power.state = .run) (p : Port) : s.openWrite p = s := by
  unfold State.openWrite; split
  · rfl
  · exact State.wake_run h _

/-- A request taken at once: the block that owns it acts on the state whose transaction has ended, and its reply is
placed. -/
theorem exec_ready {c : Instr} {p : Port} {r : Request} (h : c.request = some (p, r)) {s : State} (k : s.ready p)
    (hc : codeCarriedAt r.code.toNat p = true) (hl : r.frame.length ≤ 100) :
    exec c s = .next ((s.endTransaction p (List.replicate r.frame.length 0)).serve p r) := by
  obtain ⟨h1, h2, h3, h4⟩ := k
  rw [exec_request h, live, if_pos h1, State.submit, State.openWrite_run h2]
  have : (s.endTransaction p (List.replicate r.frame.length 0)).takesNow p r.frame = true := by
    simp [State.takesNow, State.endTransaction, State.modPort, State.takes, h3, h4, h2, maxFrame, hl]
  rw [if_pos this, if_pos hc]

/-- A request that leaves every part but its port as it is and raises nothing: the answered state. -/
theorem exec_answered {c : Instr} {p : Port} {r : Request} {reply : Reply} (h : c.request = some (p, r)) {s : State}
    (k : s.ready p) (hc : codeCarriedAt r.code.toNat p = true) (hl : r.frame.length ≤ 100)
    (hr : ∀ u, (s.setPort p u).handle p r = (s.setPort p u, reply)) : exec c s = .next (s.answered p r reply) := by
  rw [exec_ready h k hc hl]
  congr 1
  unfold State.serve State.endTransaction State.modPort
  rw [hr]
  unfold State.placeResponse State.modPort State.answered PortUnit.answered Reply.toResponse State.setPort State.port
  cases p <;> rfl

/-! ## Conclusions -/

/-- Where nothing of an action is left to do, a conclusion of any length changes nothing. -/
theorem State.conclude_settled_for {s : State} (n : Nat) (h : s.settled) (ex : List Axis) :
    State.concludeFor (n + 1) ex s = s := by
  obtain ⟨h1, h2, h3, h4⟩ := h
  have ha : s.arbiter ex = s := State.arbiter_idle h1 ex
  have hn : s.nextWork = none := by
    unfold State.nextWork
    rw [h2]; dsimp only; rw [h3]; dsimp only
    cases e : s.engine.active with
    | none => rfl
    | some op =>
      rw [e] at h4
      have : s.owns (.operation op.id) = true := by
        cases o : s.owns (.operation op.id)
        · simp [o] at h4
        · rfl
      simp [this]
  unfold State.concludeFor
  rw [ha, hn]

/-- Where nothing of an action is left to do, its conclusion changes nothing. -/
theorem State.conclude_settled {s : State} (h : s.settled) (ex : List Axis) : s.conclude ex = s :=
  State.conclude_settled_for (s.moves.jogs.length + s.engine.closing.length + 15) h ex

/-- A part with nothing in hand has nothing left to do. -/
theorem State.settled_of_quiet {s : State} (h : s.quiet) : s.settled := by
  obtain ⟨h1, h2, h3⟩ := h
  refine ⟨by rw [h1], by rw [h1]; rfl, by rw [h3]; rfl, by rw [h2]; simp⟩

/-- A step of a conclusion: the walks, then one piece of work, then the rest. -/
theorem State.concludeFor_succ (n : Nat) (ex : List Axis) (s : State) :
    State.concludeFor (n + 1) ex s =
      match (s.arbiter ex).nextWork with
      | some t => State.concludeFor n [] t
      | none => s.arbiter ex := rfl

/-- Where the walks of an action leave nothing to do, its conclusion is the walks. -/
theorem State.conclude_of_arbiter {s : State} {ex : List Axis} (h : (s.arbiter ex).nextWork = none) :
    s.conclude ex = s.arbiter ex := by
  unfold State.conclude; rw [State.concludeFor_succ, h]

/-- R82: where a CLOSING jog record without an entry is all there is in hand, the conclusion closes it. -/
theorem State.conclude_closeJog {s : State} {j : JogRecord} (he : s.moves.entries = []) (ho : s.moves.offList = [])
    (hj : s.moves.jogs = [j]) (hc : j.closing = true) (hb : j.backoff = false) (ha : s.engine.active = none)
    (hl : s.engine.closing = []) (ex : List Axis) : s.conclude ex = s.walked.closeJog j := by
  have hn : (s.arbiter ex).nextWork = some (s.walked.closeJog j) := by
    rw [State.arbiter_empty he]
    have hcl : s.walked.jogCloses j = true := by simp [State.jogCloses, State.owns, hc, hb, he, ho]
    unfold State.nextWork
    rw [show s.walked.moves.jogs = [j] from hj]
    simp [List.find?, hcl]
  unfold State.conclude
  rw [hj, hl]
  show State.concludeFor 17 ex s = _
  rw [State.concludeFor_succ, hn]
  exact State.conclude_settled_for 15 ⟨rfl, by
    show ((s.moves.jogs.filter (·.id != j.id)).find? _) = none
    rw [hj]; simp, by show s.engine.closing.find? _ = none; rw [hl]; rfl, by
    show (s.engine.active.map _) ≠ _; rw [ha]; simp⟩ []

/-! ## Commits -/

/-- A commit's storage state: the block's own becomes PENDING. -/
theorem State.slot_commit (s : State) (b : BlockIx) (i : SlotIx) :
    (s.commit b).slot i = if i.val = b.val then { s.slot i with storage := .pending } else s.slot i := by
  have hp : ∀ t : State, ∀ b, (t.placeCommit b).slot i = t.slot i := by
    intro t b; unfold State.placeCommit; repeat' split
    all_goals rfl
  have hw : ∀ t : State, t.startWrite.slot i = t.slot i := by
    intro t; unfold State.startWrite; repeat' split
    all_goals rfl
  show (((s.setStorage b .pending).placeCommit b).startWrite).slot i = _
  rw [hw, hp]
  unfold State.setStorage
  rcases e : blockSlot b with _ | j
  · have : i.val ≠ b.val := by
      intro h; unfold blockSlot at e; split at e
      · cases e
      · omega
    rw [if_neg this]
    dsimp only; repeat' split
    all_goals rfl
  · have hj : j.val = b.val := by
      unfold blockSlot at e; split at e
      · cases e; rfl
      · cases e
    dsimp only
    by_cases h : i = j
    · subst h; simp [hj]
    · have : i.val ≠ b.val := fun k => h (Fin.ext (k.trans hj.symm))
      simp [h, this]

end Sys2Proof.Machine
end

