-- ==== Sys2Proof/Tests/Slice0.lean ====
section
/-! SUPPORT. The model's own tests: the well-formedness smoke test, frames written out from the tables of 11, the worked
cases of the spec, one or two steps of each command, and for each statement with hypotheses a state that meets them. -/

namespace Sys2Proof.Tests

open Machine

/-! ## Helpers -/

/-- The state a command leaves. -/
def after (c : Instr) (s : State) : State :=
  match exec c s with
  | .next t => t
  | .fault _ | .refused _ => s

/-- The response code and flags at a port. -/
def answer (s : State) (p : Port) : Option RespCode := (s.port p).response.map (·.code)

/-- A commissioned part at rest in a standing van, its buffers empty: SLIDE and LMH calibrated as in 3.8 and 3.9, RECLINE
as in 2.8, driver 7 in slot 2 with a position for LMH alone. -/
def part : State :=
  { State.reset with
    ports := {}
    monitor := { fresh := true, record := ⟨.standstill, .park, .acc, .closed, .normal⟩, freshTimer := some 500
                 lastIgnition := some .acc }
    van := {
      counted := #v[some ⟨400, 896, 12, 4⟩, some ⟨0, 1280, 8, 5⟩, some ⟨100, 192, 8, 5⟩, some ⟨300, 2560, 8, 6⟩,
        some ⟨0, 256, 8, 5⟩, some ⟨0, 256, 8, 5⟩]
      stops := #v[some ⟨20, 1800⟩, some ⟨10, 900⟩, some ⟨10, 700⟩, some ⟨10, 1490⟩, some ⟨10, 900⟩, some ⟨10, 900⟩]
      mirror := Vector.replicate 4 (some ⟨512, 576, 120, 900⟩)
      commissioned := true, exitAllowed := true }
    axes := #v[
      { confidence := .normalised, position := 500 }, { confidence := .normalised, position := 500 },
      { confidence := .normalised, position := 500 }, { confidence := .normalised, position := 500 },
      { confidence := .normalised, position := 500 }, { confidence := .normalised, position := 500 },
      { position := 600 }, { position := 600 }, { position := 600 }, { position := 600 }]
    table := {
      slots := (Vector.replicate 48 {}).set 2 { record := {
        inUse := true, driver := 7, revision := 3, stamp := 4
        profile := ⟨#v[none, none, none, none, none, none, some (-37), none, none, none], 160⟩ } }
      driver := .known 2, counter := 9 } }

/-- The entry of the one jog of `driving`. -/
def driveEntry (a : Axis) (k : MoveKind) : MoveEntry :=
  { axis := a, cause := .jog, kind := k, tag := 0, owner := .jog 1, state := .driving, timeLimit := some 1000 }

/-- The record of the one jog of `driving`. -/
def driveJog (a : Axis) : JogRecord := { id := 1, axis := a, dir := .up, from_ := 480 }

/-- One jog drives an axis UP. -/
def driving (a : Axis) (k : MoveKind) (u : AxisUnit) : State :=
  { part with
    moves := { entries := [driveEntry a k], jogs := [driveJog a] }
    axes := part.axes.set a.val { u with motion := .drivingUp, lastDir := .up, drove := true, stallTimer := some 200 }
    model := { nextId := 2 } }

/-- SLIDE drives UP to 1800. -/
def slideUp : State := driving 0 (.target 1800) { confidence := .normalised, position := 500, cutPoint := some 1800 }

/-- LMH drives UP to 900. -/
def mirrorUp : State := driving 6 (.target 900) { position := 600 }

/-- A busy store with `q` waiting. -/
def busyStore (s : State) (q : List BlockIx) : State :=
  { s with store := { s.store with
      queue := q, state := .erasing, eraseTimer := some 60
      write := some { block := 48, image := .dflt none, onSpare := false } } }

/-- Eight blocks wait: slots 10 to 17. -/
def fullQueue (s : State) : State := busyStore s [10, 11, 12, 13, 14, 15, 16, 17]

/-- A state in another power state. -/
def inPower (s : State) (x : PowerState) : State := { s with power := { s.power with state := x } }

/-! ## Transaction headers: the table of R188 -/

theorem test_headers : decHeader 0x51 = some .writeRequest ∧ decHeader 0x52 = some .readResponse ∧
    decHeader 0x53 = some .readEvent ∧ decHeader 0x54 = some .readPortStatus ∧ decHeader 0x50 = none ∧
    decHeader 0x55 = none ∧ decHeader 0 = none := by decide

/-! ## Well-formedness: an ill-formed command for each check -/

theorem test_wf_header : (Instr.disregardedTransaction .panel 0x51 3).wellFormed = false := by decide
theorem test_wf_calibration :
    (Instr.writeCalibration 1 (List.replicate 11 ⟨0, 0, 64, 1, 0⟩)).wellFormed = false := by decide
theorem test_wf_normalise : (Instr.normalise .vehicle 3).wellFormed = false := by decide
theorem test_wf_pulse : (Instr.hallPulse 6).wellFormed = false := by decide
theorem test_wf_sample : (Instr.mirrorSample 5 0).wellFormed = false := by decide
theorem test_wf_coast : (Instr.coastEnd 6).wellFormed = false := by decide
theorem test_wf_heat : (Instr.heatInterval 6).wellFormed = false := by decide
theorem test_wf_runTime : (Instr.runTimeInterval 5).wellFormed = false := by decide
theorem test_wf_powerOn : (Instr.powerOn 0 [3, 3]).wellFormed = false := by decide
theorem test_wf_accepts : (Instr.normalise .panel 3).wellFormed = true ∧ (Instr.hallPulse 5).wellFormed = true ∧
    (Instr.mirrorSample 6 0).wellFormed = true ∧ (Instr.disregardedTransaction .panel 0 3).wellFormed = true := by decide

/-! ## Frames, written out from R188 to R191 and the catalogue of section 10.5 -/

theorem test_frame_assign : Request.parse .fleet [7, 4, 0, 0, 1, 2, 1] = .request (.assignDriver 0x102 1) := by decide
theorem test_frame_jog : Request.parse .panel [4, 20, 3, 1] = .request (.jog 3 1) := by decide
theorem test_frame_history : Request.parse .fleet [3, 16, 0] = .request (.readHistory 0) := by decide
theorem test_frame_vehicle : Request.parse .vehicle [7, 1, 2, 3, 0, 1, 2] = .request (.vehicleState 2 3 0 1 2) := by decide
theorem test_frame_calibration :
    Request.parse .fleet [13, 13, 1, 0, 2, 0xFF, 0xF0, 3, 0x80, 10, 8, 0, 0] =
      .request (.writeCalibration 0 [⟨2, 0xFFF0, 0x380, 0xA08, 0⟩]) := by decide
theorem test_frame_counted :
    (CalEntry.mk 2 0xFFF0 0x380 0xA08 0).countedSet = ⟨-16, 896, 10, 8⟩ ∧ (CalEntry.mk 2 0xFFF0 0x380 0xA08 0).valid = true :=
  by decide
theorem test_frame_mirror :
    (CalEntry.mk 0x86 512 576 120 900).mirrorSet = ⟨512, 576, 120, 900⟩ ∧ (CalEntry.mk 0x86 512 576 120 900).valid = true ∧
      (CalEntry.mk 6 512 576 120 900).valid = false := by decide
theorem test_frame_short : Request.parse .panel [3, 20, 3] = .badFrame (some 20) := by decide
theorem test_frame_length : Request.parse .panel [5, 20, 3, 1] = .badFrame (some 20) := by decide
/-- R178, R188: more than 100 bytes are no whole frame, whatever the length byte says. -/
theorem test_frame_overlong : Request.parse .panel (100 :: 28 :: List.replicate 98 0) true = .badFrame (some 28) := by decide
theorem test_frame_unknown : Request.parse .panel [2, 28] = .unknown 28 := by decide
theorem test_frame_port : Request.parse .panel [2, 2] = .wrongPort 2 := by decide

/-- Section 11.4: the record of the worked undo, tag 814. -/
theorem test_frame_record :
    (HistoryRecord.bytes { tag := 814, cause := .undo, port := .panel, result := .partly, abortCause := none
                           entries := [⟨0, 1043, 780, .obstructed⟩] }) =
      [0, 0, 3, 0x2E, 2, 2, 1, 0, 0, 1, 0, 4, 0x13, 3, 0x0C, 25] := by decide

theorem test_decode_none : decodeTableWord 8 0x51 = none := by decide

/-! ## The worked arithmetic of 03 -/

theorem test_rounding : roundDiv 163968 256 = 641 ∧ roundDiv (-896) 256 = -4 ∧ roundDiv (-21312) 256 = -83 ∧
    roundDiv 164608 896 = 184 ∧ roundDiv (-21248) 576 = -37 ∧ roundDiv 256 512 = 1 ∧ roundDiv (-256) 512 = -1 := by decide

theorem test_recall_slide : part.recallConversion 0 183 = some (1041, false) ∧
    part.recallConversion 0 (-1) = some (396, false) ∧ part.recallConversion 0 900 = some (1788, true) ∧
    part.recallConversion 0 (-2048) = some (32, true) := by decide

theorem test_store_slide : part.storeConversion 0 1041 = some 183 ∧ part.storeConversion 0 1043 = some 184 ∧
    part.storeConversion 0 396 = some (-1) ∧ part.storeConversion 0 9999 = some 2047 := by decide

theorem test_mirror : part.recallConversion 6 (-37) = some (429, false) ∧ part.recallConversion 6 2 = some (517, false) ∧
    part.recallConversion 6 200 = some (900, true) ∧ part.storeConversion 6 432 = some (-36) ∧
    part.storeConversion 6 1015 = some 224 := by decide

theorem test_exit_target : exitTarget (some ⟨400, 896, 12, 4⟩) (some ⟨20, 1800⟩) 160 1041 = some (481, false) ∧
    exitTarget (some ⟨400, 896, 12, 4⟩) (some ⟨20, 1800⟩) 160 500 = some (32, true) ∧
    exitTarget (some ⟨400, 896, 12, 4⟩) (some ⟨20, 1800⟩) 1 1041 = some (1037, false) := by decide

theorem test_time_limits : part.timeLimitOf 0 500 (.target 1041) = 5328 ∧ part.timeLimitOf 0 0 (.seek .up) = 15240 ∧
    part.timeLimitOf 6 600 (.target 429) = 4420 ∧ part.timeLimitOf 3 0 (.seek .down) = 18760 := by decide

/-! ## A step or two of each command -/

theorem test_writeRequest : answer (after (.writeRequest .panel [4, 20, 3, 1]) part) .panel = some .ok := by decide
theorem test_writeRequestHeader :
    (after (.writeRequestHeader .fleet) (inPower part .park)).power.state = .waking := by decide
theorem test_readResponse :
    ((after (.readResponse .panel 4) (after .undo part)).port .panel).dataOut = [4, 24, 17, 0] := by decide
theorem test_readEvent : ((after (.readEvent .vehicle 6) State.reset).port .vehicle).events = [] := by decide
theorem test_readPortStatus : ((after (.readPortStatus .vehicle 6) State.reset).port .vehicle).dataOut = [0, 1, 0, 0, 0, 0] :=
  by decide
theorem test_disregarded : ((after (.disregardedTransaction .vehicle 0x55 6) State.reset).port .vehicle).dataOut =
      [0, 0, 0, 0, 0, 0] ∧
    ((after (.disregardedTransaction .vehicle 0x54 6) State.reset).port .vehicle).dataOut = [0, 1, 0, 0, 0, 0] := by
  decide
theorem test_chipSelect : ((after (.chipSelectAsserted .vehicle) State.reset).port .vehicle).selected.isSome = true := by
  decide
/-- R85: supply code 3 is unknown: LOW, with CLAMPED; the budget is then 10. -/
theorem test_vehicleState : ((after (.vehicleState 0 0 1 1 3) part).port .vehicle).response =
    some { request := 1, code := .ok, clamped := true, fields := [10, 0, 111] } := by decide
theorem test_park : (after .park part).power.state = .parking := by decide
theorem test_deviceReset : (after .deviceReset slideUp).moves = {} ∧
    ((after .deviceReset slideUp).axis 0).motion = .coasting := by decide
theorem test_assignDriver : (after (.assignDriver 70211 1) part).table.driver = .new 70211 := by decide
theorem test_releaseDriver : (after .releaseDriver part).engine.arm = some 160 := by decide
theorem test_loadDefault : (after (.loadDefault (Vector.replicate 10 0x8000) 200) part).table.dflt =
    some ⟨Vector.replicate 10 none, 200⟩ := by decide
theorem test_readProfile : answer (after (.readProfile 0 7) part) .fleet = some .ok := by decide
theorem test_deleteProfile : answer (after (.deleteProfile 7) part) .fleet = some .active := by decide
theorem test_pinProfile : ((after (.pinProfile 7 1) part).slot 2).record.pinned = true := by decide
theorem test_readDirty : ((after .readDirty part).port .fleet).response.map (·.fields) = some (List.replicate 9 0) := by decide
theorem test_syncMark : answer (after (.syncMark 2 1) part) .fleet = some .revisionMismatch := by decide
theorem test_writeCalibration :
    (after (.writeCalibration 0 [⟨0, 150, 1024, 0x0A04, 0⟩]) part).van.counted[0] = some ⟨150, 1024, 10, 4⟩ := by decide
theorem test_readVanRecord :
    (((after .readVanRecord part).port .fleet).response.map (·.frame.length)) = some 95 := by decide
theorem test_setEnableMask : (after (.setEnableMask 0xFC01) part).van.enable = 1 := by decide
theorem test_readHistory : ((after (.readHistory 0) part).port .fleet).response.map (·.fields) = some [0] := by decide
theorem test_readCounters : (((after .readCounters part).port .fleet).response.map (·.fields.length)) = some 80 := by decide
theorem test_readStoreStatus : answer (after .readStoreStatus part) .fleet = some .ok := by decide
theorem test_normalise : ((after (.normalise .fleet 3) part).axis 3).motion = .drivingDown := by decide
theorem test_jog : ((after (.jog 0 0) part).axis 0).cutPoint = some 1800 := by decide
theorem test_jogEnd : ((after (.jogEnd 0) slideUp).axis 0).motion = .coasting := by decide
/-- Section 3.9: LMH moves from 600 to 429. -/
theorem test_recall : (after .recall part).moves.entries.map (·.timeLimit) = [some 4420] := by decide
theorem test_store : ((after .store part).slot 2).record.profile.positions[3] = some 20 := by decide
theorem test_undo : answer (after .undo part) .panel = some .nothingToUndo := by decide
theorem test_setExitDistance : ((after (.setExitDistance 200) part).slot 2).record.revision = 4 := by decide
theorem test_readAxes : (((after (.readAxes .panel) part).port .panel).response.map fun r => r.fields.take 8) =
    some [1, 0xF4, 0, 29, 0, 0, 0, 0] := by decide
theorem test_stopAll : ((after (.stopAll .vehicle) slideUp).port .vehicle).response.map (·.fields) =
    some [1, 0, 0, 0, 0, 0, 1] := by decide
theorem test_hallPulse : ((after (.hallPulse 0) slideUp).axis 0).position = 501 := by decide
theorem test_mirrorSample : ((after (.mirrorSample 6 900) mirrorUp).axis 6).motion = .idle := by decide
theorem test_doorWakeEdge : (after .doorWakeEdge (inPower part .park)).power.wakeCause = some .door := by decide
theorem test_powerOn : (after (.powerOn 1 []) { part with powered := false }).fitted = 0x3FE := by decide
theorem test_supplyLoss : (after (.supplyLoss .cutShort) (fullQueue part)).store.blocks[48] = .corrupt := by decide
theorem test_coastEnd : ((after (.coastEnd 0) (after (.jogEnd 0) slideUp)).axis 0).motion = .idle := by decide
theorem test_stall : ((after (.stall 0) slideUp).moves.entries.map (·.disposition)) = [some (.decided .obstructed)] := by
  decide
theorem test_heatInterval : ((after (.heatInterval 0) slideUp).axis 0).heat = 4 := by decide
theorem test_runTimeInterval : ((after (.runTimeInterval 6) mirrorUp).axis 6).runTime = 1 := by decide
theorem test_timeLimitExpiry : ((after (.timeLimitExpiry 0) slideUp).axis 0).motion = .coasting := by decide
theorem test_keepAliveExpiry : ((after (.keepAliveExpiry 0) slideUp).moves.jogs.map (·.closing)) = [true] := by decide
theorem test_progressTimerExpiry : after .progressTimerExpiry part = part := by decide
theorem test_freshnessExpiry : (after .freshnessExpiry part).monitor.record = {} := by decide
theorem test_settleExpiry : (after .settleExpiry (after .doorWakeEdge (inPower part .park))).power.state = .run := by decide
theorem test_eraseTimerExpiry : (after .eraseTimerExpiry (fullQueue part)).store.write.map (·.attempt) = some 2 := by decide
theorem test_eraseComplete : (after (.eraseComplete true false) (fullQueue part)).store.state = .programming := by decide
theorem test_programTimerExpiry : after .programTimerExpiry part = part := by decide
theorem test_programComplete :
    (after (.programComplete true false) (after (.eraseComplete true false) (fullQueue part))).store.lastResult = none := by
  decide

/-! ## Witnesses: for each statement with hypotheses, states and operands that meet them -/

theorem witness_RequestFrameRoundTrip :
    codeCarriedAt (Request.writeCalibration 0 (List.replicate 10 ⟨0, 0, 64, 1, 0⟩)).code.toNat .fleet = true ∧
      (List.replicate 10 (CalEntry.mk 0 0 64 1 0)).length ≤ 10 := by decide

theorem witness_RequestCommandIsItsWrite : (Instr.readAxes .fleet).request = some (.fleet, .readAxes) := by decide

/-- A port at its three bounds, and a step from there. -/
def boundedPart : State :=
  { part with
    ports := { vehicle := { events := List.replicate 16 .vehicleStale, lost := 255, overrun := 255 } }
    pending := [.freshnessExpiry] }

theorem witness_PortBoundsKept : boundedPart.portsBounded ∧ ∃ t, step boundedPart = .next t :=
  ⟨fun p => by cases p <;> decide, _, rfl⟩

theorem witness_CommitQueueKept :
    ({ fullQueue part with store := { (fullQueue part).store with held := [2] } }).store.queueSound ∧
      ∃ t, step { fullQueue part with pending := [.eraseComplete true false] } = .next t := ⟨by decide, _, rfl⟩

/-- Slot 2 alone is IN_USE. -/
theorem part_inUse : ∀ i, (part.table.record i).inUse = true → i = 2 := by decide

theorem part_tableSound : part.table.sound where
  unique i j hi hj _ := (part_inUse i hi).trans (part_inUse j hj).symm
  once := List.nodup_nil
  dirty := by decide
  known := by decide
  slotless _ h := by rcases h with h | h <;> cases h

theorem witness_RingLeadsMonitorAndTableKept :
    (part.ringBounded ∧ part.leadsInRange ∧ part.monitor.sound ∧ part.table.sound) ∧
      ∃ t, step { part with pending := [.undo] } = .next t :=
  ⟨⟨by decide, by decide, by decide, part_tableSound⟩, _, rfl⟩

theorem witness_BudgetNeverExceeded : slideUp.currentLaws ∧ slideUp.drawn = 8 ∧
    ∃ t, step { slideUp with pending := [.vehicleState 0 0 3 0 1] } = .next t :=
  ⟨⟨by decide, by decide, by decide, fun _ h => by cases h⟩, by decide, _, rfl⟩

theorem witness_WakeCausesAct : part.powered = true ∧ part.power.state = .run ∧
    (inPower part .waking).power.state = .waking ∧ (inPower part .parking).power.state = .parking ∧
    (inPower part .park).powered = true ∧ (inPower part .park).power.state = .park := by decide

/-- A panel port whose response is unread. -/
def unread : State := part.setPort .panel { response := some { request := 23, code := .ok } }

theorem witness_WriteRequestHeldOrDropped :
    (unread.powered = true ∧ (unread.power.state = .run ∧ (unread.port .panel).response.isSome) ∧
      (unread.port .panel).request = none) ∧
    (inPower part .waking).powered = true ∧
    ((unread.setPort .panel { unread.port .panel with request := some { bytes := [2, 24] }, overrun := 255 }).port .panel).request.isSome ∧
    ((inPower part .waking).port .fleet).request = none := by decide

theorem witness_WriteRequestChecks : part.ready .panel ∧ (3 : Byte).toNat ≠ [3, 22].length ∧
    100 < (100 :: 28 :: List.replicate 99 (0 : Byte)).length ∧ (2 : Byte).toNat = [2, 28].length ∧
    (100 : Byte).toNat = (100 :: 28 :: List.replicate 98 (0 : Byte)).length ∧ 27 < (28 : Byte).toNat ∧ codeCarriedAt 2 .panel = false ∧
    codeCarriedAt 27 .panel = true ∧ codeCarriedAt 20 .panel = true ∧ decBody 20 [3] = none := by decide

/-- A panel port with a response that a running transaction has fixed, and a request waiting behind it. -/
def readingState (e : Option Event) : State :=
  part.setPort .panel { request := some { bytes := [2, 24] }, response := some { request := 23, code := .ok }, events := e.toList
                        selected := some { response := some { request := 23, code := .ok }, event := e
                                           status := ⟨true, true, 0, 0, 255, .run⟩ } }

theorem witness_ReadResponseCompletes : (readingState none).powered = true ∧
    ((readingState none).port .panel).selected.map (fun x => (x.response, x.emptied)) =
      some (some { request := 23, code := .ok }, false) ∧
    (Response.frame { request := 23, code := .ok }).length = 4 ∧
    ((readingState none).port .panel).request = some { bytes := [2, 24] } ∧ (readingState none).power.state = .run ∧
    ((part.assertSelect .panel).port .panel).selected.map (fun x => (x.response, x.emptied)) = some (none, false) := by decide

theorem witness_ReadEventCompletes : (readingState (some .vehicleStale)).powered = true ∧
    ((readingState (some .vehicleStale)).port .panel).selected.map (fun x => (x.event, x.emptied)) =
      some (some .vehicleStale, false) ∧
    ((readingState (some .vehicleStale)).port .panel).events = [.vehicleStale] ∧
    (Event.frame .vehicleStale).length = 2 ∧
    ((part.assertSelect .panel).port .panel).selected.map (fun x => (x.event, x.emptied)) = some (none, false) := by decide

theorem witness_ReadPortStatusReturnsTheStatus : part.powered = true ∧
    ((part.assertSelect .panel).port .panel).selected.map (·.status) = some (part.selection .panel).status := by decide

theorem witness_SelectionFixedAndFillerReturned : part.powered = true := by decide

theorem witness_VehicleState : part.ready .vehicle ∧ part.quiet ∧ part.engine.arm = none ∧
    part.engine.returnAllowed = false := by decide

theorem witness_CrankRevokesTheDrive : (slideUp.ready .vehicle ∧
    slideUp.oneDrive (driveEntry 0 (.target 1800)) (driveJog 0) ∧ slideUp.engine.arm = none ∧
    slideUp.engine.returnAllowed = false ∧ slideUp.monitor.fresh = true ∧ 0 < slideUp.budget ∧
    (driveEntry 0 (.target 1800)).axis.counted = true) ∧
    (mirrorUp.ready .vehicle ∧ mirrorUp.oneDrive (driveEntry 6 (.target 900)) (driveJog 6) ∧
      (driveEntry 6 (.target 900)).axis.mirror = true) := by decide

/-- LIFT, RAKE and LMH drive, 15 units together; other entries wait behind them. -/
def threeDrive (waiting : List MoveEntry) : State :=
  let up : AxisUnit := { confidence := .normalised, position := 500, motion := .drivingUp, stallTimer := some 200 }
  { part with
    moves := { entries := [driveEntry 2 (.target 700), driveEntry 4 (.target 900), driveEntry 6 (.target 900)] ++ waiting }
    axes := ((part.axes.set 2 up).set 4 up).set 6 up }

/-- R68, R65: a fall to 10 revokes LMH and RAKE. The walk that follows does not grant LMH; a further one does: where the
permissions change too, or where the first ends LMV's entry at its grant. -/
theorem test_revoked_granted_later :
    ((after (.vehicleState 0 0 1 1 0) (threeDrive [])).axis 6).motion = .idle ∧
    ((after (.vehicleState 1 0 1 1 0) (threeDrive [])).axis 6).motion = .drivingUp ∧
    ((after (.vehicleState 0 0 1 1 0) (threeDrive [{ driveEntry 7 (.target 600) with
      state := .waiting, timeLimit := none }])).axis 6).motion = .drivingUp := by decide

theorem witness_FreshnessExpiryMakesStale : State.reset.powered = true ∧ State.reset.monitor.freshTimer = none ∧
    part.monitor.freshTimer.isSome ∧ part.quiet ∧ part.engine.arm = none ∧ part.engine.returnAllowed = false := by decide

/-- Supply LOW: a jog of SLIDE and two mirrors of a RECALL draw the 10 units; jogs of LIFT and LMV wait. -/
def walksTwice : State :=
  let up : AxisUnit := { position := 500, motion := .drivingUp, stallTimer := some 200 }
  let ofRecall : Axis → MoveEntry := fun a =>
    { driveEntry a (.target 900) with cause := .recall, tag := 8, owner := .operation 5 }
  { part with
    monitor := { part.monitor with record := { part.monitor.record with supply := .low } }
    moves := { entries := [driveEntry 0 (.target 1800), ofRecall 6, ofRecall 9,
      { driveEntry 2 (.target 700) with state := .waiting, timeLimit := none },
      { driveEntry 7 (.target 900) with state := .waiting, timeLimit := none }] }
    engine := { active := some { id := 5, kind := .recall, requester := .panel, tag := 8, stage := .phase1
                                 source := .positions (Vector.replicate 10 none) none, outcomes := [] } }
    axes := ((part.axes.set 0 { up with confidence := .normalised }).set 6 up).set 9 up }

/-- R65, R67: a JOG of RMH aborts the recall. The walk after the abort grants LMV over LIFT, and the walk after the
admission RMH: two walks each raise LIFT's pass count. -/
theorem test_walk_per_event :
    (after (.jog 8 0) walksTwice).moves.entries.map (fun e => (e.axis, e.state, e.passCount)) =
      [(0, .driving, 0), (2, .waiting, 2), (7, .driving, 0), (8, .driving, 0)] := by decide

/-- An open jog's entry, superseded, settles off the list. -/
def offListJog : State :=
  { part.setAxis 0 { motion := .coasting, coastTimer := some 150 } with
    moves := {
      offList := [{ driveEntry 0 (.target 1800) with
        state := .settling, timeLimit := none, disposition := some (.decided .superseded), noBackoff := true }]
      jogs := [driveJog 0] } }

/-- R76: PARK makes the record CLOSING; it closes at the coast end, and the snapshot follows. -/
theorem test_park_offList :
    (after .park offListJog).moves.jogs.map (·.closing) = [true] ∧
    (after (.coastEnd 0) (after .park offListJog)).moves.jogs = [] ∧
    (after (.coastEnd 0) (after .park offListJog)).store.write.map (·.block) = some 50 := by decide

/-- A part with an armed exit. -/
def armedPart : State := part.setArm (some 160)

theorem witness_ParkEntersParking : slideUp.ready .vehicle ∧ slideUp.moves.entries ≠ [] ∧
    (part.ready .vehicle ∧ part.quiet ∧ part.engine.arm = none ∧ part.store.queue = [] ∧ part.store.held = [] ∧
      part.store.write = none ∧ part.store.state = .idle ∧
      ∀ a : Axis, a.counted = true → (part.axis a).motion ≠ .coasting) ∧
    (armedPart.ready .vehicle ∧ armedPart.quiet ∧ armedPart.engine.arm ≠ none) ∧
    (∃ a : Axis, a.counted = true ∧
      ((part.setAxis 5 { motion := .coasting, coastTimer := some 150 }).axis a).motion = .coasting) ∧
    (offListJog.ready .vehicle ∧ offListJog.moves.entries = [] ∧ offListJog.engine.active = none ∧
      offListJog.engine.closing = [] ∧ offListJog.store.queue = [] ∧ offListJog.store.held = [] ∧
      offListJog.store.write = none ∧ ∃ r ∈ offListJog.moves.jogs, r.closing = false) := by decide

/-- R144, R166: PARK disarms an armed exit and says so. -/
theorem test_park_disarms : (after .park armedPart).engine.arm = none ∧
    ((after .park armedPart).port .panel).events = [.exitState .disarmed 0 (some .park) 0] := by decide

/-- A snapshot image, or a consume image. -/
def snapshotOf (consumed : Bool) : Snapshot :=
  { counts := Vector.replicate 6 (500, .normalised, 0), wear := Vector.replicate 10 (0, 0), consumed := consumed }

/-- The write of a snapshot or consume image programs its block, in its third attempt. -/
def snapshotWrite (x : PowerState) (wake consumed : Bool) : State :=
  { part with
    power := { state := x, wakePending := wake }
    store := { part.store with
      state := .programming, programTimer := some 12
      write := some { block := 50, onSpare := false, image := .snapshot (snapshotOf consumed), attempt := 3, onTarget := 3 } } }

theorem witness_SnapshotAndConsumeWritesEnd (wake consumed : Bool) :
    let s := snapshotWrite (if consumed then .run else .parking) wake consumed
    s.powered = true ∧ s.store.write = some
        { block := 50, onSpare := false, image := .snapshot (snapshotOf consumed), attempt := 3, onTarget := 3 } ∧
      (snapshotOf consumed).consumed = consumed ∧ s.store.queue = [] ∧ s.store.held = [] ∧
      s.power.state = (if consumed then .run else .parking) ∧ s.power.wakePending = wake ∧ s.store.state = .programming ∧
      s.fails .programTimerExpiry .programFail := by cases wake <;> cases consumed <;> decide

theorem witness_SettleExpiryEndsWaking :
    let s := after .doorWakeEdge (inPower part .park)
    s.powered = true ∧ s.power.state = .waking ∧ s.power.settleTimer.isSome ∧ s.store.state = .idle ∧
      s.store.queue = [] ∧ s.store.held = [] ∧ ∀ p : Port, (s.port p).request = none :=
  ⟨by decide, by decide, by decide, by decide, by decide, by decide, fun p => by cases p <;> decide⟩

/-- A part without supply whose snapshot and van blocks are VALID. -/
def stored : State :=
  { part with powered := false, store := { part.store with blocks := ((part.store.blocks.set 50 (.valid (.snapshot {
      counts := Vector.replicate 6 (500, .normalised, 360), wear := Vector.replicate 10 (1, 2), consumed := false }))).set 49
        (.valid (.van part.van))) } }

theorem witness_PowerOnLoadsTheBlocks :
    (State.reset.store.blocks = Vector.replicate 52 .blank ∧ { State.reset with powered := false }.powered = false) ∧
    stored.powered = false ∧ stored.store.blocks[50] = .valid (.snapshot {
      counts := Vector.replicate 6 (500, .normalised, 360), wear := Vector.replicate 10 (1, 2), consumed := false }) ∧
    stored.store.blocks[49] = .valid (.van part.van) ∧ (50 : PhysIx) ∉ [(51 : PhysIx)] ∧ (49 : PhysIx) ∉ [(51 : PhysIx)] := by
  decide

/-- Slots 1 and 3 hold one driver, slot 3 DIRTY with the larger stamp; the spare holds slot 2. -/
def storedSlots : State :=
  let r : SlotRecord := { inUse := true, driver := 7, stamp := 4 }
  { part with powered := false, store := { part.store with
      blocks := (((Vector.replicate 52 .blank).set 1 (.valid (.slot 1 r))).set 3
        (.valid (.slot 3 { r with dirty := true, stamp := 6 }))).set 51
        (.valid (.slot 2 { r with driver := 8, dirty := true, stamp := 5 })) } }

theorem test_powerOn_slots :
    storedSlots.powered = false ∧ ((after (.powerOn 0 []) storedSlots).slot 1).record.inUse = true ∧
      ((after (.powerOn 0 []) storedSlots).slot 3).record.inUse = false ∧
      ((after (.powerOn 0 []) storedSlots).slot 2).record.driver = 8 ∧
      (after (.powerOn 0 []) storedSlots).store.spare = some 2 := by decide

theorem witness_SupplyLossKeepsTheBlocks : part.powered = true ∧ part.store.write = none ∧
    (fullQueue part).powered = true ∧ (fullQueue part).store.write.isSome ∧ (fullQueue part).store.state ≠ .idle := by decide

/-- R163: an erase of block 48 has failed, and left it as it was; the loss falls before the next erase begins. -/
theorem test_supplyLoss_between :
    let s := busyStore part []
    let retried := { s with store := { s.store with
      blocks := s.store.blocks.set 48 (.valid (.dflt none)), write := s.store.write.map fun w => { w with attempt := 2 } } }
    (after (.supplyLoss .betweenAttempts) retried).store.blocks[48] = .valid (.dflt none) ∧
      (after (.supplyLoss .cutShort) retried).store.blocks[48] = .corrupt := by decide

theorem witness_DeviceResetActs : slideUp.ready .vehicle := by decide

/-- Two states of `part` in which a recall of LMH alone may start, and the EXIT. -/
def exitPart : State :=
  { part with monitor := { part.monitor with record := ⟨.standstill, .park, .off, .opened, .normal⟩ } }

/-- The source of a RECALL of `part`. -/
def recallSource : Source := .positions (part.slot 2).record.profile.positions (some (2, 7))

theorem recall_oneMove : part.oneMove recallSource 6 429 :=
  ⟨⟨false, rfl⟩,
    fun b hb => by
      have h : ∀ b : Axis, b ≠ 6 → (match part.testAxis recallSource b with | .ok _ => false | .error _ => true) = true := by
        decide
      specialize h b hb
      split at h
      · cases h
      · exact ⟨_, by assumption⟩,
    by decide⟩

/-- An UNDO of LMH alone. -/
def undoOp : Operation :=
  { id := 1, kind := .undo, tag := 9, requester := .panel, stage := .phase1, source := .record 8 [(6, 120)]
    outcomes := [{ axis := 6, planned := true, from_ := 600, target := some 120 }] }

/-- Its entry. -/
def undoEntry : MoveEntry := { axis := 6, cause := .undo, kind := .target 120, tag := 9, owner := .operation 1 }

/-- The part with an operation active and one entry on the list. -/
def partWith (op : Operation) (e : MoveEntry) : State :=
  { part with moves := { entries := [e] }, engine := { active := some op } }

/-- An UNDO whose one move waits. -/
def waitingUndo : State := partWith undoOp undoEntry

theorem undo_oneWaiting : waitingUndo.oneWaiting undoOp undoEntry := by decide

/-- R128: the ten entries of a RECALL's outcome list, those given planned and every other ABSENT. -/
def tenEntries (planned : List OutcomeEntry) : List OutcomeEntry :=
  allAxes.map fun a => (planned.find? (·.axis == a)).getD {
    axis := a, planned := false, from_ := (part.axis a).position, final := some (part.axis a).position
    outcome := some .absent }

/-- The entry of LMH in the RECALL of `part`. -/
def lmhPlanned : OutcomeEntry := { axis := 6, planned := true, from_ := 600, target := some 429 }

/-- A RECALL from slot 2 that moves LMH. -/
def slotOp : Operation :=
  { id := 1, kind := .recall, tag := 9, requester := .panel, stage := .phase1, source := recallSource
    outcomes := tenEntries [lmhPlanned] }

/-- Its entry, waiting. -/
def slotEntry : MoveEntry := { axis := 6, cause := .recall, kind := .target 429, tag := 9, owner := .operation 1 }

/-- R124, R128: a RECALL of `part` makes that outcome list. -/
theorem test_recall_list :
    (after .recall part).engine.active.map (·.outcomes) = some slotOp.outcomes := by decide

theorem recall_oneWaiting : (partWith slotOp slotEntry).oneWaiting slotOp slotEntry := by decide

theorem witness_AssignDriverSetsTheDriver : part.ready .fleet ∧ part.quiet ∧ (7 : BitVec 32) ≠ 0 ∧
    (7 : BitVec 32) ≠ 0xFFFFFFFF ∧ (0xFE : Byte).getLsbD 0 = false ∧
    (part.findSlot (7 : BitVec 32).toNat = some 2 ∧ (1 : Byte).getLsbD 0 = true ∧ part.van.commissioned = true ∧
      part.permitsCause .recall = true ∧ part.van.doorOpenOnly = false ∧ part.oneMove recallSource 6 429) ∧
    (waitingUndo.ready .fleet ∧ waitingUndo.oneWaiting undoOp undoEntry ∧ ∀ v x, undoOp.source ≠ .positions v (some x)) ∧
    ((partWith slotOp slotEntry).ready .fleet ∧ (partWith slotOp slotEntry).oneWaiting slotOp slotEntry ∧
      ((partWith slotOp slotEntry).slot 2).record.inUse = true ∧
      ((partWith slotOp slotEntry).slot 2).record.driver = 7 ∧
      (partWith slotOp slotEntry).commitPlace (slotBlock 2) = true) :=
  ⟨by decide, by decide, by decide, by decide, by decide,
    ⟨by decide, by decide, by decide, by decide, by decide, recall_oneMove⟩, ⟨by decide, undo_oneWaiting, nofun⟩,
    by decide, recall_oneWaiting, by decide, by decide, by decide⟩

/-- An EXIT's record, newest but for a jog's, and the return allowed. -/
def returnPart : State :=
  { part with
    monitor := { part.monitor with record := ⟨.moving, .drive, .run, .closed, .normal⟩, lastIgnition := some .run }
    engine := { returnAllowed := true, ring := [
      { tag := 0, cause := .jog, port := .panel, result := .complete, abortCause := none, entries := [⟨6, 1, 2, .reached⟩] },
      { tag := 8, cause := .exit, port := .vehicle, result := .complete, abortCause := none
        entries := [⟨0, 1041, 500, .reached⟩] }] } }

theorem witness_ReleaseDriverAndTheExitSlide :
    (part.ready .fleet ∧ part.settled ∧ part.permitsCause .exit = false ∧ part.table.driver = .known 2 ∧
      0 < (part.slot 2).record.profile.exit ∧ part.van.exitAllowed = true) ∧
    ((part.setDriver .nobody).table.driver = .nobody ∧ (part.setDriver (.new 9)).table.driver ≠ .nobody ∧
      (part.setDriver (.new 9)).settled) ∧
    (exitPart.ready .fleet ∧ exitPart.quiet ∧ exitPart.table.driver = .known 2 ∧ exitPart.permitsCause .exit = true ∧
      exitPart.van.counted[0] = some ⟨400, 896, 12, 4⟩ ∧ exitPart.van.stops[0] = some ⟨20, 1800⟩ ∧
      exitPart.isEffective 0 = true ∧ (exitPart.axis 0).confidence ≠ .lost ∧ (exitPart.axis 0).halted = false ∧
      (exitPart.axis 0).hot = false ∧ (exitPart.axis 0).motion = .idle ∧ demand 0 ≤ exitPart.budget ∧
      2 < (500 - clampInt (20 + 12) (1800 - 12) (500 - (max 1 (roundDiv (160 * 896) 256)))).natAbs) ∧
    (returnPart.ready .vehicle ∧ returnPart.quiet ∧ returnPart.engine.arm = none ∧ returnPart.engine.returnAllowed = true ∧
      returnPart.permitsCause .ret = false ∧ permits true (decReport 0 0 2 1 1).1 .ret = true ∧
      returnPart.isEffective 0 = true ∧ (returnPart.axis 0).motion = .idle ∧ demand 0 ≤ budgetOf true (decReport 0 0 2 1 1).1 ∧
      2 < (500 - clampInt 20 1800 1041).natAbs) := by decide

/-- R145, R52: the exit slides from 500 to the low end of its window; R147: the return from 500 to the EXIT's "from". -/
theorem test_exit_and_return :
    (after .releaseDriver exitPart).moves.entries.map (fun e => (e.cause, e.kind)) = [(.exit, .target 32)] ∧
    (after (.vehicleState 0 0 2 1 1) returnPart).moves.entries.map (fun e => (e.cause, e.kind)) =
      [(.ret, .target 1041)] := by decide

theorem witness_CommitFindsItsPlace : part.power.state ≠ .park ∧
    (part.store.state = .idle ∧ part.store.queue = [] ∧ part.store.held = []) ∧
    ((fullQueue part).store.state ≠ .idle ∧ (10 : BlockIx) ∈ (fullQueue part).store.queue ∧
      (49 : BlockIx) ∉ (fullQueue part).store.queue ∧ 8 ≤ (fullQueue part).store.queue.length) ∧
    (busyStore part [10]).store.queue.length < 8 ∧ (49 : BlockIx) ∉ (busyStore part [10]).store.queue := by decide

theorem witness_LoadDefaultReplacesTheDefault : part.ready .fleet ∧ 200 < (201 : Byte).toNat ∧
    decProfilePositions (Vector.replicate 10 0x0800) = none ∧
    decProfilePositions (Vector.replicate 10 0xF800) = some (Vector.replicate 10 (some (-2048))) ∧ (200 : Byte).toNat ≤ 200 ∧
    part.commitPlace 48 = true ∧ (fullQueue part).ready .fleet ∧ (fullQueue part).commitPlace 48 = false := by decide

/-- A profile record for a driver. -/
def loadOf (id : BitVec 32) : ProfileFields := ⟨id, 12, Vector.replicate 10 0x8000, 160⟩

theorem witness_LoadProfile : part.ready .fleet ∧ (loadOf 7).driver ≠ 0 ∧ (loadOf 7).driver ≠ 0xFFFFFFFF ∧
    (loadOf 7).revision ≠ 0 ∧ (loadOf 7).exit.toNat ≤ 200 ∧
    decProfilePositions (loadOf 7).positions = some (Vector.replicate 10 none) ∧
    (part.findSlot (loadOf 7).driver.toNat).or part.slotToGive = some 2 ∧
    (part.findSlot (loadOf 9).driver.toNat).or part.slotToGive = some 0 ∧ (part.slot 2).record.dirty = false ∧
    part.commitPlace (slotBlock 2) = true ∧
    ((fullQueue part).ready .fleet ∧ (fullQueue part).commitPlace (slotBlock 2) = false) := by decide

theorem witness_TableRequestsRefusedInOrder :
    part.ready .fleet ∧ (0xFFFFFFFF : BitVec 32) = 0xFFFFFFFF ∧ (loadOf 0).driver = 0 ∧
    (CalEntry.mk 0 0 63 1 0).valid = false ∧ (CalEntry.mk 0 0 64 1 0).valid = true ∧
    ((part.ready .panel ∧ part.van.commissioned = true ∧ part.table.driver ≠ .nobody) ∧
      (part.setDriver .nobody).table.driver = .nobody ∧ slideUp.moves.entries ≠ [] ∧
      (fullQueue part).slotToEdit = some 2 ∧ (fullQueue part).commitPlace (slotBlock 2) = false ∧
      State.reset.van.commissioned = false) ∧
    (slideUp.ready .fleet ∧ slideUp.effective.getLsbD (CalEntry.mk 0 0 64 1 0).axisNumber = true ∧
      ∃ m ∈ slideUp.moves.entries, m.axis.val = (CalEntry.mk 0 0 64 1 0).axisNumber) ∧
    ((fullQueue part).commitPlace 49 = false ∧ (after (.setEnableMask 0) part).effective.getLsbD 0 = false) := by decide

/-- Every slot is another driver's, and pinned. -/
def fullTable : State :=
  { part with table := { part.table with
      driver := .new 9
      slots := Vector.replicate 48 { record := { inUse := true, driver := 1000, pinned := true } } } }

theorem witness_TableFull : fullTable.ready .fleet ∧ fullTable.ready .panel ∧
    (fullTable.findSlot 9).or fullTable.slotToGive = none ∧ fullTable.slotToEdit = none := by decide

theorem witness_DeleteProfileEmptiesTheSlot : part.ready .fleet ∧ part.findSlot 7 = some 2 ∧
    part.table.driver = .known 2 ∧ part.findSlot 8 = none ∧ (part.setDriver .nobody).table.driver ≠ .known 2 ∧
    (part.setDriver .nobody).commitPlace (slotBlock 2) = true ∧
    (fullQueue (part.setDriver .nobody)).commitPlace (slotBlock 2) = false ∧
    (fullQueue (part.setDriver .nobody)).ready .fleet := by decide

theorem witness_PinProfileSetsThePin : part.ready .fleet ∧ part.findSlot 7 = some 2 ∧
    (part.slot 2).record.pinned = (0xFE : Byte).getLsbD 0 ∧ (part.slot 2).record.pinned ≠ (1 : Byte).getLsbD 0 ∧
    part.commitPlace (slotBlock 2) = true ∧ (fullQueue part).commitPlace (slotBlock 2) = false ∧
    (fullTable.slot 47).record.pinned = true := by decide

/-- Slot 2 is DIRTY. -/
def dirtyPart : State := (part.modRecord 2 fun r => { r with dirty := true }).enterDirty 2

theorem witness_SyncMarkConfirmsTheRevision : dirtyPart.ready .fleet ∧ 47 < (48 : Byte).toNat ∧
    (2 : SlotIx).val = (2 : Byte).toNat ∧ (dirtyPart.slot 2).record.inUse = true ∧
    (dirtyPart.slot 2).record.revision = (3 : BitVec 16).toNat ∧ (dirtyPart.slot 2).record.dirty = true ∧
    dirtyPart.commitPlace (slotBlock 2) = true ∧ (fullQueue dirtyPart).commitPlace (slotBlock 2) = false ∧
    (part.slot 2).record.dirty = false ∧ (part.slot 3).record.inUse = false := by decide

theorem witness_ProfileReadsAnswer : part.ready .fleet ∧ part.findSlot 7 = some 2 ∧ part.findSlot 8 = none ∧
    (47 : SlotIx).val = (47 : BitVec 32).toNat ∧ part.table.dflt = none ∧ part.table.dirty = [] ∧
    dirtyPart.table.dirty = [2] ∧ (after (.loadDefault (Vector.replicate 10 0) 0) part).table.dflt.isSome := by decide

theorem witness_SetExitDistanceEdits : part.ready .panel ∧ 200 < (201 : Byte).toNat ∧ (200 : Byte).toNat ≤ 200 ∧
    part.table.driver ≠ .nobody ∧ part.slotToEdit = some 2 ∧ part.commitPlace (slotBlock 2) = true ∧
    part.table.driver.slotless = false ∧
    ((part.setDriver (.new 9)).table.driver.slotless = true ∧ (part.setDriver (.new 9)).slotToEdit = some 0) ∧
    (fullQueue part).commitPlace (slotBlock 2) = false := by decide

theorem witness_StoreTakesTheTrustedPositions : part.ready .panel ∧ part.van.commissioned = true ∧
    part.table.driver = .known 2 ∧ part.slotToEdit = some 2 ∧ part.moves.entries = [] ∧ part.engine.active = none ∧
    (∀ a, part.isEffective a = true → (part.axis a).motion ≠ .coasting) ∧ part.commitPlace (slotBlock 2) = true ∧
    ((part.setDriver (.new 9)).table.driver = .new 9 ∧ (part.setDriver (.new 9)).slotToEdit = some 0 ∧
      (part.setDriver (.dflt 9)).slotToEdit = some 0 ∧ (part.setDriver (.new 9)).commitPlace (slotBlock 0) = true) := by
  decide

/-- R110: a STORE of a NEW driver sets up the lowest EMPTY slot. -/
theorem test_store_new : let t := after .store (part.setDriver (.new 9))
    t.table.driver = .known 0 ∧ ((t.slot 0).record.driver, (t.slot 0).record.revision) = (9, 1) := by decide

theorem witness_WriteCalibrationReplacesTheSets :
    let es : List CalEntry := [⟨5, 0, 8192, 0x3F28, 0⟩, ⟨0x86, 1023, 64, 8, 24⟩]
    part.ready .fleet ∧ es.length ≤ 10 ∧ (∀ e ∈ es, e.valid = true) ∧ (es.map (·.axisNumber)).Nodup ∧
      (∀ e ∈ es, part.effective.getLsbD e.axisNumber = true) ∧
      (∀ e ∈ es, ∀ m ∈ part.moves.entries, m.axis.val ≠ e.axisNumber) ∧ part.commitPlace 49 = true := by decide

/-- SLIDE settles under an open jog, to be judged or as decided. -/
def settlingJog (x : Int) (d : Disposition) (corrected : Bool) : State :=
  { part.setAxis 0 { motion := .coasting, coastTimer := some 150, position := x } with
    moves := { entries := [{ driveEntry 0 (.target 1800) with
      state := .settling, timeLimit := none, correctionUsed := corrected, disposition := some d }], jogs := [driveJog 0] } }

/-- The entry of `settlingJog`. -/
def settlingEntry (d : Disposition) (corrected : Bool) : MoveEntry :=
  { driveEntry 0 (.target 1800) with
    state := .settling, timeLimit := none, correctionUsed := corrected, disposition := some d }

/-- SLIDE's jog waits. -/
def queuedEntry : MoveEntry := { driveEntry 0 (.target 1800) with state := .waiting, timeLimit := none }

/-- The part with that jog. -/
def queuedJog : State := { part with moves := { entries := [queuedEntry], jogs := [driveJog 0] } }

theorem queued_oneQueued : queuedJog.oneQueued queuedEntry (driveJog 0) := by decide

/-- The settling entry's jog is the one in hand, at whatever count and however it settles. -/
theorem settling_oneSettling (x : Int) (d : Disposition) (b : Bool) :
    (settlingJog x d b).oneSettling (settlingEntry d b) (driveJog 0) :=
  ⟨⟨rfl, rfl, rfl, rfl, rfl, rfl⟩, rfl, rfl, rfl⟩

theorem witness_SetEnableMask : part.ready .fleet ∧ part.settled ∧ part.commitPlace 49 = true ∧
    (∀ a, part.isEffective a = true → (0 : BitVec 16).getLsbD a.val = false → part.entryOf a = none ∧ part.openJog a = none) ∧
    (fullQueue part).commitPlace 49 = false ∧ (fullQueue part).settled ∧
    (slideUp.ready .fleet ∧ slideUp.oneDrive (driveEntry 0 (.target 1800)) (driveJog 0) ∧ slideUp.commitPlace 49 = true ∧
      slideUp.isEffective 0 = true ∧ (0x3FE : BitVec 16).getLsbD 0 = false) := by decide

theorem witness_DepartingAxisEndsItsMove :
    (slideUp.ready .fleet ∧ slideUp.oneDrive (driveEntry 0 (.target 1800)) (driveJog 0)) ∧
    (mirrorUp.ready .fleet ∧ mirrorUp.oneDrive (driveEntry 6 (.target 900)) (driveJog 6) ∧
      mirrorUp.isEffective 6 = true ∧ (0x3BF : BitVec 16).getLsbD 6 = false ∧ mirrorUp.commitPlace 49 = true) ∧
    (queuedJog.ready .fleet ∧ queuedJog.isEffective 0 = true ∧ queuedJog.commitPlace 49 = true) ∧
    queuedJog.oneQueued queuedEntry (driveJog 0) ∧ (driveJog 0).backoff = false ∧
    (∀ d, (settlingJog 1802 d false).oneSettling (settlingEntry d false) (driveJog 0)) ∧
    ((settlingJog 1802 .judge false).ready .fleet ∧ (settlingJog 1802 .judge false).isEffective 0 = true ∧
      (settlingJog 1802 .judge false).commitPlace 49 = true) :=
  ⟨by decide, by decide, by decide, queued_oneQueued, rfl, fun d => settling_oneSettling 1802 d false, by decide⟩

/-- R37, R82: a mirror that departs closes its jog, ABORTED without an abort cause. -/
theorem test_departing_mirror : (after (.setEnableMask 0x3BF) mirrorUp).moves.jogs = [] ∧
    (after (.setEnableMask 0x3BF) mirrorUp).engine.ring.map (fun r => (r.result, r.abortCause, r.entries)) =
      [(.aborted, none, [⟨6, 480, 600, .aborted⟩])] := by decide

theorem witness_Reads : part.ready .vehicle ∧ part.ready .fleet ∧ part.ready .panel ∧ 7 < (8 : Byte).toNat ∧
    part.engine.ring.length ≤ (0 : Byte).toNat ∧ part.van.counted[0].isSome ∧ part.van.stops[0].isSome ∧
    part.van.mirror[0].isSome := by decide

/-- A record of a RECALL that moved LMH. -/
def recallRecord : HistoryRecord :=
  { tag := 8, cause := .recall, port := .panel, result := .complete, abortCause := none, entries := [⟨6, 120, 600, .reached⟩] }

/-- A part whose newest record is a jog's, and whose next is a RECALL's. -/
def recalled : State := { part with engine := { ring := [{ recallRecord with cause := .jog }, recallRecord] } }

theorem witness_HistoryRecord : recalled.ready .fleet ∧ recalled.engine.ring[(1 : Byte).toNat]? = some recallRecord := by
  decide

theorem witness_MotionRequestsRefusedInOrder : part.ready .panel ∧ 5 < (6 : Byte).toNat ∧
    (5 : Axis).val = (5 : Byte).toNat ∧ (5 : Axis).counted = true ∧ part.isEffective 5 = true ∧
    part.engine.active = none ∧ part.entryOf 5 = none ∧ (part.axis 5).hot = false ∧
    (State.reset.permitsCause .normalise = false ∧ State.reset.permitsCause .recall = false) ∧
    ((part.setAxis 5 { hot := true }).axis 5).hot = true ∧ part.openJog 5 = none ∧ 9 < (10 : Byte).toNat ∧
    State.reset.van.commissioned = false ∧ part.van.commissioned = true ∧ part.table.driver = .known 2 ∧
    (slideUp.entryOf 0).isSome ∧ (∀ r ∈ part.engine.ring, r.cause = .recall → r.undone = true) ∧
    (∃ r ∈ recalled.engine.ring, r.cause = .recall ∧ r.undone = false) := by decide

/-- An armed part in PARKING, its panel's header byte noted. -/
def parkingPart : State :=
  (inPower armedPart .parking).setPort .panel { selected := some { (part.selection .panel) with header := true } }

theorem witness_MotionRequestsRefusedInOrder_parking : parkingPart.parkingReady .fleet ∧
    (parkingPart.selected .fleet).header = false ∧ parkingPart.parkingReady .panel ∧
    (parkingPart.selected .panel).header = true ∧ parkingPart.parkingReady .vehicle ∧ (7 : BitVec 32) ≠ 0 ∧
    (7 : BitVec 32) ≠ 0xFFFFFFFF ∧ parkingPart.settled ∧ parkingPart.engine.active = none := by decide

/-- R167: in PARKING an assignment with the flag starts no recall; a JOG of no axis is BUSY. -/
theorem test_parking : answer (after (.jog 99 9) parkingPart) .panel = some .busy ∧
    ((after (.assignDriver 7 1) parkingPart).port .fleet).response.map (·.recallNotStarted) = some true := by decide

/-- The leg of a NORMALISE of RECLINE settles at a count. -/
def legEntry (k : MoveKind) (d : Disposition) : MoveEntry :=
  { axis := 3, cause := .normalise, kind := k, tag := 8, owner := .operation 1, state := .settling, disposition := some d }

/-- The operation of that NORMALISE. -/
def legOp (st : Stage) : Operation :=
  { id := 1, kind := .normalise, tag := 8, requester := .fleet, stage := st, source := .axis 3
    outcomes := [{ axis := 3, planned := true, from_ := 500 }], startConfidence := .suspect, d1 := 481, newLow := some 10 }

/-- The part in that leg. -/
def legPart (st : Stage) (k : MoveKind) (d : Disposition) (x : Int) : State :=
  { part.setAxis 3 { motion := .coasting, coastTimer := some 150, position := x, halted := true, confidence := .suspect } with
    moves := { entries := [legEntry k d] }, engine := { active := some (legOp st) } }

/-- The leg settles as the statement asks, at whatever count and however. -/
theorem leg_settles (st : Stage) (k : MoveKind) (d : Disposition) (x : Int) :
    (legPart st k d x).legSettles (legOp st) (legEntry k d) 3 d :=
  ⟨rfl, rfl, rfl, rfl, rfl, rfl, rfl, rfl, rfl, rfl, rfl, rfl, rfl, rfl, rfl, rfl, rfl⟩

theorem witness_NormaliseRunsItsLegs :
    (part.ready .fleet ∧ part.quiet ∧ (3 : Axis).val = (3 : Byte).toNat ∧ (3 : Axis).counted = true ∧
      part.isEffective 3 = true ∧ (part.axis 3).hot = false ∧ (part.axis 3).motion = .idle ∧
      part.permitsCause .normalise = true ∧ demand 3 ≤ part.budget) ∧
    (∀ st k d x, (legPart st k d x).legSettles (legOp st) (legEntry k d) 3 d) ∧
    (((legPart .leg2 (.seek .up) (.decided .endStop) 84).axis 3).hot = false ∧
      demand 3 ≤ (legPart .leg2 (.seek .up) (.decided .endStop) 84).budget ∧
      (legPart .leg2 (.seek .up) (.decided .endStop) 84).commitPlace 49 = true ∧ (legOp .leg2).newLow = some 10 ∧
      2 < ((84 : Int) - clampInt 10 74 481).natAbs) ∧
    ((legOp .leg3).outcomes = [{ axis := 3, planned := true, from_ := 500 }] ∧
      (legPart .leg3 (.target 481) .judge 479).engine.arm = none ∧
      (legPart .leg3 (.target 481) .judge 479).engine.returnAllowed = false ∧ (479 - 481 : Int).natAbs ≤ 2) :=
  ⟨by decide, leg_settles, by decide, by decide⟩

/-- R40: stops 64 apart are learned, 63 apart are not. -/
theorem test_normalise_stops :
    (after (.coastEnd 3) (legPart .leg2 (.seek .up) (.decided .endStop) 84)).stopsOf 3 = some ⟨10, 74⟩ ∧
    (after (.coastEnd 3) (legPart .leg2 (.seek .up) (.decided .endStop) 83)).stopsOf 3 = none := by decide

/-- SLIDE can be jogged DOWN at once. -/
theorem slide_jogFree : part.jogFree 0 .down :=
  ⟨by decide, by decide, by decide, by decide, by decide, by decide, fun g h => by
    have : part.jogKind 0 .down = .target 20 := by decide
    rw [this] at h; cases h; decide⟩

theorem witness_JogDrivesAtOnce : part.ready .panel ∧ part.quiet ∧ (0 : Axis).val = (0 : Byte).toNat ∧
    part.jogFree 0 .down := ⟨by decide, by decide, by decide, slide_jogFree⟩

/-- A jog of SLIDE whose entry STOP_ALL has ended. -/
def endedJog : JogRecord :=
  { driveJog 0 with outcome := some .aborted, final := some 500, abortSource := some .stopAll }

theorem witness_OpenJogRefreshedOrReleased : slideUp.ready .panel ∧ slideUp.isEffective 0 = true ∧
    slideUp.openJog 0 = some (driveJog 0) ∧ (driveJog 0).dir = .up ∧
    slideUp.oneDrive (driveEntry 0 (.target 1800)) (driveJog 0) ∧ slideUp.powered = true ∧
    (driveJog 0).keepAlive.isSome ∧ part.openJog 0 = none ∧ (driveJog 0).backoff = false := by decide

theorem witness_OpenJogRefreshedOrReleased_others :
    (mirrorUp.ready .panel ∧ mirrorUp.oneDrive (driveEntry 6 (.target 900)) (driveJog 6) ∧ mirrorUp.isEffective 6 = true) ∧
    (queuedJog.ready .panel ∧ queuedJog.oneQueued queuedEntry (driveJog 0)) ∧
    (settlingJog 1802 .judge false).ready .panel ∧
    (settlingJog 1802 .judge false).oneSettling (settlingEntry .judge false) (driveJog 0) ∧
    (endedJog.outcome = some .aborted ∧ endedJog.final = some 500 ∧ endedJog.closing = false ∧ endedJog.backoff = false ∧
      endedJog.keepAlive.isSome) := by decide

/-- R80, R82: a mirror's jog released closes REACHED, one that STOP_ALL has ended ABORTED by STOP. -/
theorem test_release_closes :
    (after (.jogEnd 6) mirrorUp).engine.ring.map (fun r => (r.result, r.entries)) = [(.complete, [⟨6, 480, 600, .reached⟩])] ∧
    (after (.keepAliveExpiry 0) { part with moves := { jogs := [endedJog] } }).engine.ring.map
      (fun r => (r.result, r.abortCause)) = [(.aborted, some .stop)] := by decide

theorem witness_RecallDrivesItsOneAxis : part.ready .panel ∧ part.quiet ∧ part.van.commissioned = true ∧
    part.table.driver = .known 2 ∧ part.permitsCause .recall = true ∧ part.oneMove recallSource 6 429 :=
  ⟨by decide, by decide, by decide, by decide, by decide, recall_oneMove⟩

/-- R130, R131: a seat axis first moves in PHASE_2, a column axis towards the driver in PHASE_3. -/
theorem test_recall_phases :
    let at_ := fun (a : Axis) => part.modRecord 2 fun r =>
      { r with profile := ⟨(Vector.replicate 10 none).set a.val (some 100), 0⟩ }
    ((after .recall (at_ 0)).engine.active.map (·.stage), (after .recall (at_ 4)).engine.active.map (·.stage),
      (after .recall (at_ 5)).engine.active.map (·.stage)) = (some .phase2, some .phase3, some .phase1) := by decide

theorem witness_RecallOfNothingClosesAtOnce :
    let s := part.modRecord 2 fun r => { r with profile := {} }
    s.ready .panel ∧ s.quiet ∧ s.van.commissioned = true ∧ s.table.driver = .known 2 ∧ (s.slot 2).record.inUse = true ∧
      s.permitsCause .recall = true ∧ s.engine.arm = none ∧ s.engine.returnAllowed = false ∧
      s.commitPlace (slotBlock 2) = true ∧
      ∀ a : Axis, (match s.testAxis (.positions (s.slot 2).record.profile.positions (some (2, 7))) a with
        | .ok _ => false | .error _ => true) = true := by decide

theorem witness_UndoDrivesBack : recalled.ready .panel ∧ recalled.quiet ∧ recalled.permitsCause .undo = true ∧
    recalled.van.commissioned = true ∧ recalled.engine.ring = [{ recallRecord with cause := .jog }] ++ recallRecord :: [] ∧
    recallRecord.cause = .recall ∧ recallRecord.undone = false ∧ (6 : Axis).mirror = true ∧ recalled.isEffective 6 = true ∧
    (recalled.axis 6).halted = false ∧ (recalled.axis 6).hot = false ∧ (recalled.axis 6).sensorFault = false ∧
    (recalled.axis 6).motion = .idle ∧ demand 6 ≤ recalled.budget ∧
    3 < ((recalled.axis 6).position - clampInt 120 900 120).natAbs := by decide

/-- R186: a second STOP_ALL finds nothing of what the first has stopped. -/
theorem test_stopAll_twice :
    ((after (.stopAll .panel) (after (.stopAll .vehicle) slideUp)).port .panel).response.map (·.fields) =
      some (List.replicate 7 0) := by decide

theorem witness_StopAllEndsTheDrive : part.ready .fleet ∧ part.quiet ∧ slideUp.ready .fleet ∧
    slideUp.oneDrive (driveEntry 0 (.target 1800)) (driveJog 0) := by decide

/-- SLIDE one count short of its cut point. -/
def atCut : State := driving 0 (.target 1800) { confidence := .normalised, position := 1799, cutPoint := some 1800 }

theorem witness_HallPulseCounts : slideUp.powered = true ∧ slideUp.isFitted 0 = true ∧ slideUp.power.state = .run ∧
    slideUp.engine.active = none ∧ (slideUp.axis 0).motion = .drivingUp ∧
    (slideUp.axis 0).cutPoint ≠ some (max (-32768) (min 32767 ((slideUp.axis 0).position + 1))) ∧
    (part.axis 0).motion = .idle ∧ ((after (.jogEnd 0) slideUp).axis 0).motion = .coasting ∧
    (after (.jogEnd 0) slideUp).engine.active = none ∧
    (atCut.oneDrive (driveEntry 0 (.target 1800)) (driveJog 0) ∧ atCut.isFitted 0 = true ∧
      (atCut.axis 0).cutPoint = some (max (-32768) (min 32767 ((atCut.axis 0).position + 1)))) := by decide

/-- LMH drives UP in its correction. -/
def correctedUp : State :=
  { mirrorUp with moves := { mirrorUp.moves with
      entries := [{ driveEntry 6 (.target 900) with correctionUsed := true }] } }

theorem witness_MirrorSampleJudged : part.powered = true ∧ part.isFitted 6 = true ∧ part.power.state = .run ∧
    (part.axis 6).driving = false ∧ 8 ≤ (8 : BitVec 10).toNat ∧ (1015 : BitVec 10).toNat ≤ 1015 ∧
    ¬8 ≤ (7 : BitVec 10).toNat ∧
    (mirrorUp.oneDrive (driveEntry 6 (.target 900)) (driveJog 6) ∧ mirrorUp.isFitted 6 = true ∧ mirrorUp.power.state = .run ∧
      (mirrorUp.axis 6).sensorFault = false ∧ (mirrorUp.axis 6).motion = .drivingUp ∧ (mirrorUp.axis 6).lastDir = .up ∧
      (mirrorUp.axis 6).hot = false ∧ demand 6 ≤ mirrorUp.budget ∧ (driveEntry 6 (.target 900)).correctionUsed = false) ∧
    ((900 : Int) ≤ (903 : BitVec 10).toNat ∧ (((903 : BitVec 10).toNat : Int) - 900).natAbs ≤ 3 ∧
      3 < (((904 : BitVec 10).toNat : Int) - 900).natAbs) ∧
    (correctedUp.oneDrive { driveEntry 6 (.target 900) with correctionUsed := true } (driveJog 6) ∧
      correctedUp.isFitted 6 = true) := by decide

/-- A source that gives SLIDE and RAKE positions besides LMH's. -/
def threeSource : Source :=
  .positions #v[some 100, none, none, none, some 100, none, some (-37), none, none, none] (some (2, 7))

/-- A RECALL in a phase, with the axes it has planned. -/
def recallOp (st : Stage) (planned : List OutcomeEntry) : Operation :=
  { slotOp with stage := st, source := threeSource, outcomes := tenEntries planned }

/-- SLIDE, planned. -/
def slidePlanned : OutcomeEntry := { axis := 0, planned := true, from_ := 500, target := some 750 }

/-- RAKE, planned. -/
def rakePlanned : OutcomeEntry := { axis := 4, planned := true, from_ := 500, target := some 100 }

/-- A RECALL of LMH and SLIDE in PHASE_1. -/
def twoOp : Operation := recallOp .phase1 [lmhPlanned, slidePlanned]

/-- LMH drives DOWN for a RECALL. -/
def lmhDrives : MoveEntry := { slotEntry with state := .driving, timeLimit := some 4420 }

/-- The part with it. -/
def lmhDriving (op : Operation) : State :=
  (partWith op lmhDrives).setAxis 6 { motion := .drivingDown, lastDir := .down, position := 440, stallTimer := some 300 }

/-- LMH's unit at 429, its motor cut. -/
def lmhStopped : AxisUnit :=
  { (lmhDriving slotOp).axis 6 with motion := .idle, position := 429, stallTimer := none, travel := 11 }

theorem witness_MirrorSampleJudged_operation :
    ((lmhDriving slotOp).oneEntry slotOp lmhDrives ∧ lmhDrives.cause = slotOp.kind.cause ∧
      (lmhDriving slotOp).powered = true ∧ ((lmhDriving slotOp).axis 6).driving = true ∧
      (lmhDriving slotOp).isFitted 6 = true ∧ (lmhDriving slotOp).power.state = .run ∧
      ((lmhDriving slotOp).axis 6).sensorFault = false ∧ ((lmhDriving slotOp).axis 6).lastDir = .down ∧
      ((429 : BitVec 10).toNat : Int) ≤ 429 ∧ (((429 : BitVec 10).toNat : Int) - 429).natAbs ≤ 3 ∧
      3 < (((425 : BitVec 10).toNat : Int) - 429).natAbs ∧ (lmhDriving slotOp).engine.arm = none ∧
      (lmhDriving slotOp).engine.returnAllowed = false ∧ slotOp.kind ≠ .exit ∧
      ∀ y ∈ slotOp.listAfter lmhDrives lmhStopped .reached 429, y.outcome.isSome ∧ ¬slotOp.movesLater y) ∧
    ((lmhDriving twoOp).oneEntry twoOp lmhDrives ∧
      (∃ y ∈ twoOp.listAfter lmhDrives lmhStopped .reached 429, y.axis = 0 ∧ y.outcome = none) ∧
      (∀ y ∈ twoOp.listAfter lmhDrives lmhStopped .reached 429,
        (y.axis = 0 → twoOp.movesLater y) ∧ (y.axis ≠ 0 → y.outcome.isSome ∧ ¬twoOp.movesLater y)) ∧
      (lmhDriving twoOp).testAxis twoOp.source 0 = .ok (750, false) ∧ ((lmhDriving twoOp).axis 0).motion = .idle ∧
      demand 0 ≤ (lmhDriving twoOp).budget ∧ 2 < (((lmhDriving twoOp).axis 0).position - 750).natAbs) :=
  ⟨by decide, by decide, by decide, by decide, rfl, by decide, by decide, by decide⟩

/-- R126, R130, R138, R139: the arrival of LMH ends its RECALL, COMPLETE, with the slot stamped; where SLIDE is planned
besides, PHASE_2 drives it UP. -/
theorem test_recall_ends :
    (after (.mirrorSample 6 429) (lmhDriving slotOp)).engine.ring.map (fun r => (r.result, r.entries)) =
      [(.complete, [⟨6, 600, 429, .reached⟩])] ∧
    ((after (.mirrorSample 6 429) (lmhDriving slotOp)).slot 2).record.stamp = 9 ∧
    ((after (.mirrorSample 6 429) (lmhDriving twoOp)).axis 0).motion = .drivingUp := by decide

/-- R19: an arrival 4 beyond the target drives back in a correction; R12: a sample 1 from the reference is no progress. -/
theorem test_mirror_correction :
    ((after (.mirrorSample 6 904) mirrorUp).axis 6).motion = .drivingDown ∧
    ((after (.mirrorSample 6 601) (mirrorUp.setAxis 6 { mirrorUp.axis 6 with stallRef := 600 })).axis 6).stallRef = 600 := by
  decide

theorem witness_CoastEndResolves :
    let s := after (.jogEnd 0) slideUp
    let t := (part.setAxis 0 { motion := .coasting, coastTimer := some 150 })
    part.powered = true ∧ (part.axis 0).coastTimer = none ∧
      (t.powered = true ∧ (t.axis 0).coastTimer.isSome ∧ (t.axis 0).motion = .coasting ∧ t.power.state = .run ∧
        t.power.coastWait = false ∧ t.quiet) ∧
      (s.powered = true ∧ (s.axis 0).coastTimer.isSome ∧ (s.axis 0).motion = .coasting ∧ s.power.state = .run ∧
        s.power.coastWait = false ∧ s.engine.active = none ∧ s.engine.closing = []) := by decide

/-- SLIDE's jog record, released while its entry settles, marked by STOP_ALL before or not. -/
def closedJog (c : Option AbortSource) : JogRecord :=
  { (driveJog 0).released with outcome := c.map fun _ => .aborted, abortSource := c }

/-- SLIDE settles under that record. -/
def closingJog (x : Int) (d : Disposition) (corrected : Bool) (c : Option AbortSource) : State :=
  { settlingJog x d corrected with moves := { (settlingJog x d corrected).moves with jogs := [closedJog c] } }

theorem witness_CoastEndResolves_entry (d : Disposition) (corrected : Bool) :
    (settlingJog 1802 d corrected).oneSettling (settlingEntry d corrected) (driveJog 0) ∧
      (closingJog 1802 d corrected none).oneClosing (settlingEntry d corrected) (driveJog 0).released ∧
      (closingJog 1802 d corrected (some .stopAll)).oneClosing (settlingEntry d corrected) (closedJog (some .stopAll)) ∧
      (settlingEntry d corrected).axis = 0 ∧ (settlingEntry d corrected).disposition = some d ∧
      (settlingEntry d corrected).kind = .target 1800 ∧ (settlingEntry d corrected).correctionUsed = corrected ∧
      (settlingEntry d corrected).noBackoff = false ∧ ((settlingJog 1802 d corrected).axis 0).hot = false ∧
      ((settlingJog 1802 d corrected).axis 0).coastTimer.isSome ∧
      ((settlingJog 1802 d corrected).axis 0).motion = .coasting ∧ (settlingJog 1802 d corrected).power.state = .run ∧
      (settlingJog 1802 d corrected).power.coastWait = false ∧ (0 : Axis).counted = true ∧
      demand 0 ≤ (settlingJog 1802 d corrected).budget ∧ (1802 - 1800 : Int).natAbs ≤ 2 ∧ 2 < (1803 - 1800 : Int).natAbs :=
  ⟨settling_oneSettling 1802 d corrected, ⟨⟨rfl, rfl, rfl, rfl, rfl, rfl⟩, rfl, rfl, rfl⟩,
    ⟨⟨rfl, rfl, rfl, rfl, rfl, rfl⟩, rfl, rfl, rfl⟩, rfl, rfl, rfl, rfl, rfl, rfl, rfl, rfl, rfl, rfl, rfl,
    (by decide : demand 0 ≤ part.budget), by decide, by decide⟩

/-- SLIDE's entry in a RECALL, or its backoff, settling. -/
def slideSettles (c : Cause) (d : Disposition) : MoveEntry :=
  { axis := 0, cause := c, kind := .target 750, tag := 9, owner := .operation 1, state := .settling
    disposition := some d }

/-- The part with it: SLIDE coasts at 751. -/
def slideSettling (op : Operation) (c : Cause) (d : Disposition) : State :=
  (partWith op (slideSettles c d)).setAxis 0 {
    motion := .coasting, coastTimer := some 150, confidence := .normalised, position := 751, countAtCut := 748
    cutAtPoint := true }

/-- A RECALL of SLIDE in PHASE_2. -/
def slideOp : Operation := recallOp .phase2 [slidePlanned]

/-- The same, SLIDE obstructed, with its backoff to end. -/
def backedOp : Operation := recallOp .phase2 [{ slidePlanned with outcome := some .obstructed, final := some 770 }]

/-- A RECALL of SLIDE and RAKE in PHASE_2. -/
def rakeLeftOp : Operation := recallOp .phase2 [slidePlanned, rakePlanned]

/-- SLIDE's unit at the coast end. -/
def slideRested : AxisUnit := ((slideSettling slideOp .recall .judge).axis 0).rested

theorem witness_CoastEndResolves_operation (d : Disposition) :
    ((slideSettling slideOp .recall d).oneEntry slideOp (slideSettles .recall d) ∧
      (slideSettling slideOp .recall d).powered = true ∧ ((slideSettling slideOp .recall d).axis 0).coastTimer.isSome ∧
      ((slideSettling slideOp .recall d).axis 0).motion = .coasting ∧
      (slideSettling slideOp .recall d).power.state = .run ∧
      (slideSettling slideOp .recall d).power.coastWait = false ∧ (751 - 750 : Int).natAbs ≤ 2 ∧
      (slideSettling slideOp .recall d).engine.arm = none ∧
      (slideSettling slideOp .recall d).engine.returnAllowed = false ∧ slideOp.kind ≠ .exit ∧
      ∀ y ∈ slideOp.listAfter (slideSettles .recall d) slideRested .reached 751,
        y.outcome.isSome ∧ ¬slideOp.movesLater y) ∧
    ((slideSettling backedOp .backoff d).oneEntry backedOp (slideSettles .backoff d) ∧
      ∀ y ∈ backedOp.listAfter (slideSettles .backoff d) slideRested .reached 751,
        y.outcome.isSome ∧ ¬backedOp.movesLater y) ∧
    ((slideSettling rakeLeftOp .recall .judge).oneEntry rakeLeftOp (slideSettles .recall .judge) ∧
      (∃ y ∈ rakeLeftOp.listAfter (slideSettles .recall .judge) slideRested .reached 751, y.axis = 4 ∧ y.outcome = none) ∧
      (∀ y ∈ rakeLeftOp.listAfter (slideSettles .recall .judge) slideRested .reached 751,
        (y.axis = 4 → rakeLeftOp.movesLater y) ∧ (y.axis ≠ 4 → y.outcome.isSome ∧ ¬rakeLeftOp.movesLater y)) ∧
      (slideSettling rakeLeftOp .recall .judge).testAxis rakeLeftOp.source 4 = .ok (100, false) ∧
      ((slideSettling rakeLeftOp .recall .judge).axis 4).motion = .idle ∧
      demand 4 ≤ (slideSettling rakeLeftOp .recall .judge).budget ∧
      2 < (((slideSettling rakeLeftOp .recall .judge).axis 4).position - 100).natAbs) :=
  have hs : ∀ y ∈ slideOp.listAfter (slideSettles .recall .judge) slideRested .reached 751,
      y.outcome.isSome ∧ ¬slideOp.movesLater y := by decide
  have hb : ∀ y ∈ backedOp.listAfter (slideSettles .backoff .judge) slideRested .reached 751,
      y.outcome.isSome ∧ ¬backedOp.movesLater y := by decide
  have ps : ∃ x ∈ slideOp.outcomes, x.axis = 0 ∧ x.planned = true := by decide
  have pb : ∃ x ∈ backedOp.outcomes, x.axis = 0 ∧ x.planned = true := by decide
  ⟨⟨⟨rfl, rfl, rfl, nofun, .inr (.inl rfl), rfl, ps, rfl⟩, rfl, rfl, rfl, rfl, rfl, by decide, rfl, rfl, nofun, hs⟩,
    ⟨⟨rfl, rfl, rfl, nofun, .inr (.inl rfl), rfl, pb, rfl⟩, hb⟩,
    by decide, by decide, by decide, rfl, by decide⟩

/-- R137, R138: SLIDE's end within the deadband ends its RECALL, COMPLETE, and that of its backoff PARTIAL, OBSTRUCTED at
the present place. -/
theorem test_recall_settles :
    (after (.coastEnd 0) (slideSettling slideOp .recall .judge)).engine.ring.map
      (fun r => (r.result, r.entries)) = [(.complete, [⟨0, 500, 751, .reached⟩])] ∧
    (after (.coastEnd 0) (slideSettling backedOp .backoff .judge)).engine.ring.map
      (fun r => (r.result, r.entries)) = [(.partly, [⟨0, 500, 751, .obstructed⟩])] := by decide

/-- In PARKING the snapshot waits for SLIDE's coast end, and for LIFT's where `two`. -/
def coastWaits (two : Bool) (m : MoveList) : State :=
  let coast : AxisUnit := { motion := .coasting, coastTimer := some 150 }
  let s := part.setAxis 0 coast
  { (if two then s.setAxis 2 coast else s) with
    moves := m, power := { part.power with state := .parking, coastWait := true } }

/-- SLIDE's superseded entry, settling off the list under its CLOSING record. -/
def offListEntry : MoveEntry :=
  { driveEntry 0 (.target 1800) with
    state := .settling, timeLimit := none, disposition := some (.decided .superseded), noBackoff := true }

theorem witness_CoastEndResolves_parking (two : Bool) :
    (coastWaits two {}).powered = true ∧ ((coastWaits two {}).axis 0).coastTimer.isSome ∧
      ((coastWaits two {}).axis 0).motion = .coasting ∧ (coastWaits two {}).power.state = .parking ∧
      (coastWaits two {}).power.coastWait = true ∧ (coastWaits two {}).quiet ∧
      (coastWaits two {}).commitPlace 50 = true ∧
      (∃ c : Axis, c ≠ 0 ∧ c.counted = true ∧ ((coastWaits true {}).axis c).motion = .coasting) ∧
      (∀ c : Axis, c ≠ 0 → c.counted = true → ((coastWaits false {}).axis c).motion ≠ .coasting) ∧
      (coastWaits two { offList := [offListEntry], jogs := [(driveJog 0).released] }).oneOffList offListEntry
        (driveJog 0).released ∧
      (fullQueue (coastWaits two {})).commitPlace 50 = false ∧ (fullQueue (coastWaits two {})).store.state ≠ .idle := by
  cases two <;> exact ⟨by decide, by decide, by decide, by decide, by decide, by decide, by decide, ⟨2, by decide⟩,
    by decide, by decide, by decide, by decide⟩

/-- R168: the last coast end raises the snapshot's commit, and its write starts; before it, none is raised. -/
theorem test_coastEnd_snapshot :
    (after (.coastEnd 0) (coastWaits false {})).store.write.map (·.block) = some 50 ∧
    (after (.coastEnd 0) (coastWaits true {})).store.write = none ∧
    (after (.coastEnd 0) (fullQueue (coastWaits false {}))).store.held = [50] := by decide

/-- R18, R14: 3 beyond the target is corrected without lead; an obstructed move UP at 900 backs off to 880. -/
theorem test_coastEnd_follows :
    ((after (.coastEnd 0) (settlingJog 1803 .judge false)).axis 0).cutPoint = some 1800 ∧
    (after (.coastEnd 0) (settlingJog 900 (.decided .obstructed) false)).moves.entries.map (·.kind) = [.target 880] := by
  decide

/-- R82, R139: the coast end after a release closes the jog, COMPLETE; after STOP_ALL it is ABORTED by STOP. -/
theorem test_coastEnd_closes :
    (after (.coastEnd 0) (after (.jogEnd 0) slideUp)).engine.ring.map (fun r => (r.result, r.entries)) =
      [(.complete, [⟨0, 480, 500, .reached⟩])] ∧
    (after (.coastEnd 0) (closingJog 1802 (.decided .aborted) false (some .stopAll))).engine.ring.map
      (fun r => (r.result, r.abortCause)) = [(.aborted, some .stop)] := by decide

/-- SLIDE drives, LOST. -/
def lostDrive (d : Dir) : State := driving 0 (.seek d) { confidence := .lost, position := 500 }

/-- SLIDE drives UP for a RECALL. -/
def slideDrives : MoveEntry :=
  { axis := 0, cause := .recall, kind := .target 750, tag := 9, owner := .operation 1, state := .driving
    timeLimit := some 3000 }

/-- The part with it, SLIDE's heat score as given. -/
def slideDriving (heat : Nat) : State :=
  (partWith slideOp slideDrives).setAxis 0 {
    motion := .drivingUp, confidence := .normalised, position := 700, heat := heat, cutPoint := some 750
    stallTimer := some 200 }

theorem witness_StallAndTimeLimitEndTheDrive :
    part.powered = true ∧ (part.axis 0).stallTimer = none ∧
    (slideUp.powered = true ∧ slideUp.oneDrive (driveEntry 0 (.target 1800)) (driveJog 0) ∧
      (slideUp.axis 0).stallTimer.isSome ∧ slideUp.power.state = .run ∧ (driveEntry 0 (.target 1800)).timeLimit.isSome ∧
      (slideUp.axis 0).confidence ≠ .lost ∧ slideUp.stopsOf 0 = some ⟨20, 1800⟩) ∧
    (atCut.stopsOf 0 = some ⟨20, 1800⟩ ∧ (1800 - 16 : Int) ≤ (atCut.axis 0).position) ∧
    ((lostDrive .up).oneDrive (driveEntry 0 (.seek .up)) (driveJog 0) ∧ ((lostDrive .up).axis 0).confidence = .lost) ∧
    ((lostDrive .down).oneDrive (driveEntry 0 (.seek .down)) (driveJog 0) ∧ ((lostDrive .down).stopsOf 0).isSome) ∧
    (mirrorUp.oneDrive (driveEntry 6 (.target 900)) (driveJog 6) ∧ (mirrorUp.axis 6).stallTimer.isSome ∧
      (6 : Axis).mirror = true) ∧
    ((lmhDriving slotOp).oneEntry slotOp lmhDrives ∧ ((lmhDriving slotOp).axis 6).stallTimer.isSome ∧
      lmhDrives.timeLimit.isSome ∧
      ∀ y ∈ slotOp.listAfter lmhDrives lmhStopped .timeout 440, y.outcome.isSome ∧ ¬slotOp.movesLater y) ∧
    ((slideDriving 500).oneEntry slideOp slideDrives ∧
      ((slideDriving 500).axis 0).driving = true ∧ ((slideDriving 500).axis 0).stallTimer.isSome ∧
      (slideDriving 500).stopsOf 0 = some ⟨20, 1800⟩) ∧
    (∀ e, part.entryOf 0 = some e → e.state ≠ .driving) :=
  ⟨by decide, by decide, by decide, by decide, by decide, by decide, by decide, by decide, by decide,
    fun _ h => by cases h⟩

/-- SLIDE drives on the edge of HOT. -/
def nearHot : State := driving 0 (.target 1800) { confidence := .normalised, position := 500, heat := 596, cutPoint := some 1800 }

theorem witness_IntervalsCountAndHeat :
    (part.powered = true ∧ part.isFitted 0 = true ∧ (part.axis 0).intervalTimer.isSome ∧ part.power.state ≠ .park ∧
      (part.axis 6).intervalTimer.isSome) ∧
    (nearHot.powered = true ∧ nearHot.oneDrive (driveEntry 0 (.target 1800)) (driveJog 0) ∧ nearHot.power.state = .run ∧
      (nearHot.axis 0).hot = false ∧ 600 ≤ min ((nearHot.axis 0).heat + 4) 600) ∧
    ((slideDriving 596).powered = true ∧ (slideDriving 596).isFitted 0 = true ∧
      ((slideDriving 596).axis 0).intervalTimer.isSome ∧
      (slideDriving 596).oneEntry slideOp slideDrives ∧
      ((slideDriving 596).axis 0).hot = false ∧ 600 ≤ min (((slideDriving 596).axis 0).heat + 4) 600 ∧
      ∀ y ∈ slideOp.listAfter slideDrives ((slideDriving 596).axis 0) .hot 700,
        y.outcome.isSome ∧ ¬slideOp.movesLater y) := by decide

theorem witness_ActiveOperationIsAborted : (part.powered = true ∧ part.engine.active = none) ∧
    (waitingUndo.powered = true ∧ waitingUndo.oneWaiting undoOp undoEntry ∧ undoOp.progress.isSome ∧
      waitingUndo.power.state = .run ∧ waitingUndo.ready .vehicle ∧ waitingUndo.ready .panel ∧
      waitingUndo.engine.arm = none ∧ waitingUndo.engine.returnAllowed = false ∧
      waitingUndo.permitsCause undoOp.kind.cause = true ∧
      permits true (decReport 1 0 1 1 1).1 undoOp.kind.cause = false ∧ waitingUndo.monitor.freshTimer.isSome) ∧
    ((partWith slotOp slotEntry).oneWaiting slotOp slotEntry ∧ slotOp.source = recallSource ∧
      ((partWith slotOp slotEntry).slot 2).record.inUse = true ∧
      ((partWith slotOp slotEntry).slot 2).record.driver = 7 ∧
      (partWith slotOp slotEntry).commitPlace (slotBlock 2) = true) ∧
    (∀ v x, undoOp.source ≠ .positions v (some x)) ∧ part.jogFree 0 .down ∧ waitingUndo.jogFree 0 .down :=
  ⟨by decide, ⟨by decide, undo_oneWaiting, by decide⟩, ⟨recall_oneWaiting, rfl, by decide⟩, nofun, slide_jogFree,
    slide_jogFree⟩

/-- R106, R134: an aborted RECALL stamps its slot, and its OP_DONE carries ten entries, the one planned ABORTED. -/
theorem test_abort_recall :
    ((after .progressTimerExpiry (partWith slotOp slotEntry)).slot 2).record.stamp = 9 ∧
    ((after .progressTimerExpiry (partWith slotOp slotEntry)).port .panel).events.map (fun e => match e with
      | .opDone _ _ r _ es => (r, es.length, (es.filter (·.outcome == some .aborted)).map (·.axis))
      | _ => (.complete, 0, [])) = [(.aborted, 10, [6])] := by decide

/-- R77, R92, R186: a new JOG aborts with USER, a report of CREEP with VEHICLE; STOP_ALL names the tag it has aborted. -/
theorem test_aborts :
    (after (.jog 0 1) waitingUndo).engine.ring.map (·.abortCause) = [some .user] ∧
    (after (.vehicleState 1 0 1 1 1) waitingUndo).engine.ring.map (·.abortCause) = [some .vehicle] ∧
    ((after (.stopAll .panel) waitingUndo).port .panel).response.map (·.fields) = some [1, 1, 0, 0, 0, 9, 0] := by decide

/-- The write of slot 2 has programmed its block. -/
def slotWrite (st : StoreState) (onTarget : Nat) (onSpare : Bool) : State :=
  { part with store := { part.store with
      state := st, eraseTimer := some 60, programTimer := some 12
      write := some { block := 2, image := .slot 2 (part.slot 2).record, onSpare := onSpare, onTarget := onTarget } } }

/-- The same write, eight commits waiting behind it and the van record's held. -/
def queuedWrites : State :=
  let s := slotWrite .programming 1 false
  { s with store := { s.store with queue := [10, 2, 48, 12, 13, 14, 15, 16], held := [49] } }

theorem witness_WriteGoesThrough : part.powered = true ∧ part.store.eraseTimer = none ∧ part.store.programTimer = none ∧
    (slotWrite .erasing 1 false).store.state = .erasing ∧
    ((slotWrite .programming 1 false).store.state = .programming ∧ (slotWrite .programming 1 false).store.queue = [] ∧
      (slotWrite .programming 1 false).store.held = [] ∧
      (slotWrite .programming 1 false).store.write.map (fun w => (w.block.val, w.image)) =
        some ((2 : SlotIx).val, .slot 2 (part.slot 2).record)) ∧
    (queuedWrites.powered = true ∧ queuedWrites.store.state = .programming ∧
      queuedWrites.store.queue = 10 :: [2, 48, 12, 13, 14, 15, 16] ∧ queuedWrites.store.write.map (·.block) = some 2) := by
  decide

/-- R153, R151, R158: the end of slot 2's write starts slot 10's, and the held van record takes the freed place; slot 2,
whose next commit waits, stays PENDING. -/
theorem test_write_queue :
    let t := after (.programComplete true false) queuedWrites
    t.store.queue = [2, 48, 12, 13, 14, 15, 16, 49] ∧ t.store.held = [] ∧ t.store.write.map (·.block) = some 10 ∧
      (t.slot 2).storage = .pending := by decide

/-- The write of another block programs it, in its third attempt. -/
def plainWrite (b : BlockIx) (x : Image) : State :=
  { part with store := { part.store with
      state := .programming, programTimer := some 12
      write := some { block := b, image := x, onSpare := false, attempt := 3, onTarget := 3 } } }

theorem witness_FailedAttemptRetriesThenEnds :
    (slotWrite .erasing 2 false).powered = true ∧ (slotWrite .erasing 2 false).fails .eraseTimerExpiry .eraseFail ∧
    (slotWrite .erasing 2 false).store.write.map (·.onTarget) = some 2 ∧
    (slotWrite .programming 3 false).fails .programTimerExpiry .programFail ∧
    ((slotWrite .programming 3 false).store.write.map (fun w => (w.onTarget, w.onSpare, w.block.val)) =
        some (3, false, (2 : SlotIx).val) ∧ (slotWrite .programming 3 false).store.spare = none) ∧
    ((slotWrite .programming 3 true).store.write.map (fun w => (w.onSpare, w.image)) =
        some (true, .slot 2 (part.slot 2).record) ∧ (slotWrite .programming 3 true).store.queue = [] ∧
      (slotWrite .programming 3 true).store.held = []) ∧
    (plainWrite 48 (.dflt none)).fails (.programComplete false false) .programFail ∧
    (plainWrite 49 (.van {})).fails (.programComplete false false) .programFail :=
  ⟨by decide, by decide, by decide, by decide, by decide, by decide, by decide, by decide⟩

/-- R157: a slot whose spare another slot has taken ends RETRY_EXCEEDED after its third attempt. -/
theorem test_retryExceeded :
    let s := slotWrite .programming 3 false
    (after .programTimerExpiry { s with store := { s.store with spare := some 5 } }).store.lastResult =
      some ⟨2, .retryExceeded, 1⟩ := by decide

end Sys2Proof.Tests
end

section
/-! SUPPORT. Requests taken at once that have an effect: the frame of an action, the events it raises, the commit it makes
and the answer it leaves. -/

namespace Sys2Proof

/-! ## Request frames -/

@[simp] theorem PositionFields.length_bytes (v : PositionFields) : v.bytes.length = 20 := by
  simp [PositionFields.bytes, List.length_flatMap, enc16]

@[simp] theorem CalEntry.length_bytes (e : CalEntry) : e.bytes.length = 9 := rfl

/-- R191: every request's frame fits a request buffer, a WRITE_CALIBRATION's with up to ten entries. -/
theorem Request.length_frame_le (r : Request) (h : ∀ y es, r = .writeCalibration y es → es.length ≤ 10) :
    r.frame.length ≤ 100 := by
  cases r with
  | writeCalibration y es =>
    have := h y es rfl
    simp [Request.frame, Request.body, List.length_flatMap]
    omega
  | _ => simp [Request.frame, Request.body, enc16, enc32]

namespace Machine

/-! ## Parts that stay as they are -/

/-- A part's value is the same across two states, read at either end. -/
theorem State.agrees_trans {s t u : State} {p : Part} (h : s.agrees t p) (k : t.agrees u p) : s.agrees u p := by
  cases p <;> exact Eq.trans k h

theorem State.onlyIn.refl (s : State) (ps : List Part) : s.onlyIn s ps := fun p _ => by cases p <;> rfl

theorem State.onlyIn.trans {s t u : State} {ps : List Part} (h : s.onlyIn t ps) (k : t.onlyIn u ps) : s.onlyIn u ps :=
  fun p hp => State.agrees_trans (h p hp) (k p hp)

theorem State.onlyIn.mono {s t : State} {ps qs : List Part} (h : s.onlyIn t ps) (k : ps ⊆ qs) : s.onlyIn t qs :=
  fun p hp => h p fun hq => hp (k hq)

theorem State.onlyIn_setPort (s : State) (p : Port) (u : PortUnit) : s.onlyIn (s.setPort p u) [.ports] := by
  intro x hx
  cases x with
  | ports => exact absurd (List.mem_singleton_self _) hx
  | _ => rfl

theorem State.onlyIn_modPort (s : State) (p : Port) (f : PortUnit → PortUnit) : s.onlyIn (s.modPort p f) [.ports] :=
  s.onlyIn_setPort p _

theorem State.onlyIn_raise (s : State) (p : Port) (e : Event) : s.onlyIn (s.raise p e) [.ports] := s.onlyIn_modPort p _

theorem State.slot_eq_of_table {s t : State} (h : t.table = s.table) (i : SlotIx) : t.slot i = s.slot i := by
  unfold State.slot; rw [h]

/-! ## A request that has an effect -/

/-- R182: events that enter a port's queue do not see its transaction. -/
theorem PortUnit.foldl_enqueue_endTransaction (es : List Event) (u : PortUnit) (d : List Byte) :
    es.foldl PortUnit.enqueue { u with selected := none, dataOut := d } =
      { es.foldl PortUnit.enqueue u with selected := none, dataOut := d } := by
  induction es generalizing u with
  | nil => rfl
  | cons e es ih =>
    have step : PortUnit.enqueue { u with selected := none, dataOut := d } e =
        { u.enqueue e with selected := none, dataOut := d } := by
      unfold PortUnit.enqueue
      by_cases h : u.events.length < 16 <;> simp [h]
    rw [List.foldl_cons, List.foldl_cons, step, ih]

/-- R178: the state in which the WRITE_REQUEST of a request's frame has ended, before the request is taken. -/
abbrev State.written (s : State) (p : Port) (r : Request) : State :=
  s.endTransaction p (List.replicate r.frame.length 0)

theorem State.port_written_same (s : State) (p : Port) (r : Request) : (s.written p r).port p =
    { s.port p with selected := none, dataOut := List.replicate r.frame.length 0 } := State.port_modPort_same _ _ _

theorem State.port_written_other (s : State) {p q : Port} (h : q ≠ p) (r : Request) :
    (s.written p r).port q = s.port q := State.port_modPort_other _ _ h

/-- A request taken at once whose block changes some parts and raises some events: the state in which it has been
answered differs in those parts, and otherwise only at the ports from the state its block left. -/
theorem exec_changes {c : Instr} {p : Port} {r : Request} (h : c.request = some (p, r)) {s : State} (k : s.ready p)
    (hc : codeCarriedAt r.code.toNat p = true) (hl : r.frame.length ≤ 100) {v : State} {reply : Reply}
    {events : Port → List Event} {ps : List Part}
    (hv : (s.written p r).handle p r = (v, reply)) (ho : (s.written p r).onlyIn v ps) (hp : [.ports] ⊆ ps)
    (hg : (s.written p r).gains v events) :
    ∃ t, exec c s = .next t ∧ s.onlyIn t ps ∧ v.onlyIn t [.ports] ∧ s.answersWith t p r reply events := by
  have placed : v.onlyIn (v.placeResponse p r.code reply) [.ports] := v.onlyIn_modPort p _
  refine ⟨v.placeResponse p r.code reply, ?_, ?_, placed, ?_, fun q hq => ?_⟩
  · exact (exec_ready h k hc hl).trans (by rw [State.serve, hv])
  · exact ((s.onlyIn_modPort p _).mono hp).trans (ho.trans (placed.mono hp))
  · rw [State.placeResponse, State.port_modPort_same, hg p, State.port_written_same,
      PortUnit.foldl_enqueue_endTransaction]
    rfl
  · rw [State.placeResponse, State.port_modPort_other _ _ hq, hg q, State.port_written_other s hq]

/-! ## Events gained -/

theorem State.gains_of_ports {s t : State} (h : t.ports = s.ports) : s.gains t noEvents := by
  intro q; unfold State.port; rw [h]; rfl

/-- Events gained one after another are gained in that order. -/
theorem State.gains.trans {s t u : State} {f g : Port → List Event} (h : s.gains t f) (k : t.gains u g) :
    s.gains u fun q => f q ++ g q := by
  intro q; rw [k q, h q, List.foldl_append]

theorem State.gains_raise (s : State) (p : Port) (e : Event) :
    s.gains (s.raise p e) fun q => if q = p then [e] else [] := by
  intro q
  by_cases h : q = p
  · subst h; simp [State.raise]
  · simp [State.raise, h]

/-- R121: DRIVER_CHANGED is gained by every port. -/
theorem State.gains_raiseDriverChanged (s : State) :
    s.gains s.raiseDriverChanged fun _ => [.driverChanged s.table.driver (s.driverId s.table.driver)] := by
  intro q
  rw [State.raiseDriverChanged, State.port_raiseAt _ _ _ (by decide)]
  cases q <;> rfl

/-! ## Commits -/

/-- A commit touches the table and the store alone. -/
theorem State.commit_only (s : State) (b : BlockIx) : s.onlyIn (s.commit b) [.table, .store] := by
  have f := s.commit_frame b
  intro p hp
  cases p with
  | powered => exact f.powered
  | ports => exact f.ports
  | monitor => exact f.monitor
  | axes => exact f.axes
  | fitted => exact f.fitted
  | van => exact f.van
  | moves => exact f.moves
  | engine => exact f.engine
  | power => exact f.power
  | model => exact f.model
  | pending => exact f.pending
  | table | store => simp at hp

@[simp] theorem State.slot_commit_slotBlock_same (s : State) (i : SlotIx) :
    (s.commit (slotBlock i)).slot i = { s.slot i with storage := .pending } := by
  rw [State.slot_commit]; exact if_pos rfl

@[simp] theorem State.slot_commit_slotBlock_other (s : State) {i j : SlotIx} (h : j ≠ i) :
    (s.commit (slotBlock i)).slot j = s.slot j := by
  rw [State.slot_commit]; exact if_neg fun e => h (Fin.ext e)

/-- R153: an image is of what its owner holds in RAM; a write that starts changes none of it. -/
theorem State.imageOf_startWrite (s : State) (b : BlockIx) : s.startWrite.imageOf b = s.imageOf b := by
  unfold State.startWrite
  repeat' split
  all_goals rfl

theorem State.onSpare_congr {s t : State} (h : t.store.spare = s.store.spare) (b : BlockIx) :
    t.onSpare b = s.onSpare b := by
  unfold State.onSpare; rw [h]

/-- A change of the storage states alone leaves the rest of the store. -/
theorem State.setStorage_store (s : State) (b : BlockIx) (x : Storage) :
    (s.setStorage b x).store.queue = s.store.queue ∧ (s.setStorage b x).store.held = s.store.held ∧
      (s.setStorage b x).store.state = s.store.state ∧ (s.setStorage b x).store.write = s.store.write := by
  unfold State.setStorage
  repeat' split
  all_goals exact ⟨rfl, rfl, rfl, rfl⟩

/-- R99, R150: a commit that finds a place joins its block's entry or takes the tail of the queue. -/
theorem State.placeCommit_place {s : State} {b : BlockIx} (h : s.commitPlace b = true) :
    s.placeCommit b = { s with store := { s.store with
      queue := if b ∈ s.store.queue then s.store.queue else s.store.queue ++ [b] } } := by
  unfold State.commitPlace at h
  unfold State.placeCommit
  by_cases hb : b ∈ s.store.queue
  · simp [hb]
  · have hl : s.store.queue.length < 8 := by simpa [hb] using h
    simp [hb, hl]

/-- R153: no write starts in a store that is not IDLE. -/
theorem State.startWrite_busy {s : State} (h : s.store.state ≠ .idle) : s.startWrite = s := by
  unfold State.startWrite
  split
  · rfl
  · rw [if_neg fun k => h k.1]

/-- R153: in an IDLE store out of PARK, the write of a lone commit starts at once. -/
theorem State.startWrite_lone {s : State} {b : BlockIx} (hi : s.store.state = .idle) (hp : s.power.state ≠ .park)
    (hq : s.store.queue = [b]) (hh : s.store.held = []) :
    s.startWrite.store.queue = [] ∧ s.startWrite.store.state = .erasing ∧ s.startWrite.store.eraseTimer = some 60 ∧
      s.startWrite.store.write = some { block := b, image := s.imageOf b, onSpare := s.onSpare b } := by
  unfold State.startWrite
  rw [hq]
  simp [hi, hp, hh]

/-- R99, R150, R153: a commit that finds a place, after changes that left the store and the power state alone. -/
theorem State.tookCommit_commit {s u : State} {b : BlockIx} (hs : u.store = s.store) (hp : u.power.state ≠ .park)
    (h : s.commitPlace b = true) : s.tookCommit (u.commit b) b := by
  have f := u.commit_frame b
  obtain ⟨hq, hh, hst, hw⟩ := u.setStorage_store b .pending
  rw [hs] at hq hh hst hw
  have hplace : (u.setStorage b .pending).commitPlace b = true := by
    unfold State.commitPlace at h ⊢; rw [hq]; exact h
  have hc : u.commit b = ({ u.setStorage b .pending with store := { (u.setStorage b .pending).store with
      queue := if b ∈ s.store.queue then s.store.queue else s.store.queue ++ [b] } } : State).startWrite := by
    rw [State.commit, State.placeCommit_place hplace, hq]
  refine ⟨f.blocks.trans (by rw [hs]), f.spare.trans (by rw [hs]), fun hbusy => ?_, fun hidle hnone hheld => ?_⟩
  · rw [hc, State.startWrite_busy (by simpa [hst] using hbusy)]
    exact ⟨rfl, hw, hst⟩
  · have hpow : (u.setStorage b .pending).power = u.power := (u.setStorage_frame b .pending).power
    obtain ⟨h1, h2, h3, h4⟩ := State.startWrite_lone (s := { u.setStorage b .pending with store :=
        { (u.setStorage b .pending).store with
          queue := if b ∈ s.store.queue then s.store.queue else s.store.queue ++ [b] } }) (b := b)
      (hst.trans hidle) (by simpa [hpow] using hp) (by simp [hnone]) (hh.trans hheld)
    rw [hc, State.imageOf_startWrite, State.onSpare_congr (State.startWrite_frame _).spare]
    exact ⟨h1, h2, h3, h4⟩

/-- A commit taken does not see what happens at the ports after it. -/
theorem State.tookCommit.after_ports {s t u : State} {b : BlockIx} (h : s.tookCommit t b) (k : t.onlyIn u [.ports]) :
    s.tookCommit u b := by
  have hstore : u.store = t.store := k .store (by simp)
  have himage : u.imageOf b = t.imageOf b := by
    have htable : u.table = t.table := k .table (by simp)
    have hvan : u.van = t.van := k .van (by simp)
    have haxes : u.axes = t.axes := k .axes (by simp)
    have hpower : u.power = t.power := k .power (by simp)
    unfold State.imageOf State.snapshotImage State.slot State.axis
    rw [htable, hvan, haxes, hpower]
  unfold State.tookCommit at h ⊢
  rw [hstore, himage, State.onSpare_congr (congrArg _ hstore)]
  exact h

end Machine
end Sys2Proof
end

section
/-! PROOF. LOAD_DEFAULT (06), over the requests that commit a block. -/

namespace Sys2Proof.Machine

/-! ## A request that commits a block -/

theorem State.onlyIn_table (s : State) (x : ProfileTable) : s.onlyIn { s with table := x } [.table] := by
  intro p hp
  cases p with
  | table => exact absurd (List.mem_singleton_self _) hp
  | _ => rfl

@[simp] theorem State.commitPlace_setPort (s : State) (p : Port) (u : PortUnit) (b : BlockIx) :
    (s.setPort p u).commitPlace b = s.commitPlace b := rfl

/-- R99: a request taken at once that changes the table and commits a block with a place: the commit is taken, and the
answer stands in the port. -/
theorem exec_commits {c : Instr} {p : Port} {r : Request} (h : c.request = some (p, r)) {s : State} (k : s.ready p)
    (hc : codeCarriedAt r.code.toNat p = true) (hl : r.frame.length ≤ 100) {b : BlockIx}
    (hb : s.commitPlace b = true) {u : State} {reply : Reply}
    (hv : (s.written p r).handle p r = (u.commit b, reply)) (hu : (s.written p r).onlyIn u [.table]) :
    ∃ t, exec c s = .next t ∧ s.onlyIn t [.ports, .table, .store] ∧ (u.commit b).onlyIn t [.ports] ∧
      s.tookCommit t b ∧ s.answersWith t p r reply noEvents := by
  have hports : (u.commit b).ports = (s.written p r).ports :=
    (u.commit_frame b).ports.trans (hu .ports (by simp))
  have hpark : u.power.state ≠ .park := by
    have hpower : u.power = s.power := hu .power (by simp)
    rw [hpower, k.2.1]; decide
  obtain ⟨t, ht, hs, hut, ha⟩ := exec_changes h k hc hl hv
    ((hu.mono (by simp)).trans ((u.commit_only b).mono (by simp))) (ps := [.ports, .table, .store]) (by simp)
    (State.gains_of_ports hports)
  have took : s.tookCommit (u.commit b) b := State.tookCommit_commit (hu .store (by simp)) hpark hb
  exact ⟨t, ht, hs, hut, took.after_ports hut, ha⟩

/-! ## LOAD_DEFAULT -/

/-- R116: a position or an exit distance out of range. -/
theorem State.reqLoadDefault_badField (s : State) {v : PositionFields} {exit : Byte}
    (h : decProfilePositions v = none ∨ 200 < exit.toNat) : s.reqLoadDefault v exit = (s, refusal .badField) := by
  unfold State.reqLoadDefault
  cases hd : decProfilePositions v with
  | none => rfl
  | some positions =>
    have he : 200 < exit.toNat := h.resolve_left (by simp [hd])
    simp [validExit, he]

/-- R116: with every field valid, the commit's place decides. -/
theorem State.reqLoadDefault_valid (s : State) {v : PositionFields} {exit : Byte} {positions : Vector (Option Int) 10}
    (hd : decProfilePositions v = some positions) (he : exit.toNat ≤ 200) :
    s.reqLoadDefault v exit = if s.commitPlace dfltBlock then
      ({ s with table := { s.table with dflt := some ⟨positions, exit.toNat⟩ } }.commit dfltBlock, okWith [])
    else (s, refusal .queueFull) := by
  unfold State.reqLoadDefault
  cases s.commitPlace dfltBlock <;> simp [hd, he, validExit]

/-- The commit of a block that is no slot's leaves the table alone. -/
theorem State.commit_table {b : BlockIx} (h : blockSlot b = none) (s : State) : (s.commit b).table = s.table := by
  have hstart : ∀ t : State, t.startWrite.table = t.table := fun t => by
    unfold State.startWrite; repeat' split
    all_goals rfl
  have hplace : ∀ t : State, (t.placeCommit b).table = t.table := fun t => by
    unfold State.placeCommit; repeat' split
    all_goals rfl
  rw [State.commit, hstart, hplace, State.setStorage, h]
  dsimp only
  repeat' split
  all_goals rfl

/-- R152: the commit of the default profile's block sets its storage state. -/
theorem State.commit_dfltState (s : State) : (s.commit dfltBlock).store.dfltState = .pending := by
  have hstart : ∀ t : State, t.startWrite.store.dfltState = t.store.dfltState := fun t => by
    unfold State.startWrite; repeat' split
    all_goals rfl
  have hplace : ∀ t : State, (t.placeCommit dfltBlock).store.dfltState = t.store.dfltState := fun t => by
    unfold State.placeCommit; repeat' split
    all_goals rfl
  rw [State.commit, hstart, hplace]
  rfl

/-- R107: an ID without a slot is served from a default profile where the policy allows it. -/
theorem State.driverFor_dflt {s : State} {id : Nat} (hf : s.findSlot id = none) (hr : s.van.recallDefault = true)
    (hd : s.table.dflt.isSome = true) : s.driverFor id = .dflt id := by
  simp [State.driverFor, hf, hr, hd]

/-- R98: a driver is found by the slots alone. -/
theorem State.findSlot_congr {s t : State} (h : t.table.slots = s.table.slots) (id : Nat) :
    t.findSlot id = s.findSlot id := by
  unfold State.findSlot State.slot; rw [h]

end Sys2Proof.Machine

namespace Sys2Proof

open Machine

/-- Settles O30: LOAD_DEFAULT's checks, then its commit of block 48 over the replaced default profile. -/
theorem loadDefaultReplacesTheDefault : Obligations.LoadDefaultReplacesTheDefault := by
  unfold Obligations.LoadDefaultReplacesTheDefault
  intro s v exit k
  have hl : (Request.loadDefault v exit).frame.length ≤ 100 := Request.length_frame_le _ nofun
  refine ⟨fun h => exec_answered rfl k rfl hl fun u => State.reqLoadDefault_badField _ h,
    fun positions hd he => ⟨fun hp => exec_answered rfl k rfl hl fun u => ?queueFull, fun hp => ?loaded⟩⟩
  case queueFull =>
    have hp' : s.commitPlace dfltBlock = false := hp
    exact (State.reqLoadDefault_valid _ hd he).trans (by simp [hp', refusal])
  case loaded =>
    obtain ⟨t, ht, hs, hut, took, ha⟩ := exec_commits (c := .loadDefault v exit) rfl k rfl hl hp
      ((State.reqLoadDefault_valid _ hd he).trans (if_pos hp)) (State.onlyIn_table _ _)
    have htable : t.table = { s.table with dflt := some ⟨positions, exit.toNat⟩ } :=
      (hut .table (by simp)).trans (State.commit_table rfl _)
    refine ⟨t, ht, hs, htable, took, fun id hf hr => ?_, ?_, ha⟩
    · have hvan : t.van = s.van := hs .van (by simp)
      exact State.driverFor_dflt ((State.findSlot_congr (by rw [htable]) id).trans hf) (by rw [hvan, hr])
        (by rw [htable]; rfl)
    · exact (congrArg ProfileStore.dfltState (hut .store (by simp))).trans (State.commit_dfltState _)

end Sys2Proof
end

section
/-! PROOF. SYNC_MARK (06), over the requests that change a slot. -/

namespace Sys2Proof.Machine

/-! ## A slot's change and its commit -/

theorem State.onlyIn_modRecord (s : State) (i : SlotIx) (f : SlotRecord → SlotRecord) :
    s.onlyIn (s.modRecord i f) [.table] := s.onlyIn_table _

theorem State.onlyIn_leaveDirty (s : State) (i : SlotIx) : s.onlyIn (s.leaveDirty i) [.table] := s.onlyIn_table _

/-- R99: after a slot's commit, whatever the ports then gain: that slot is PENDING, and no other has changed. -/
theorem State.slots_after_commit {u t : State} {i : SlotIx} (h : (u.commit (slotBlock i)).onlyIn t [.ports]) :
    t.slot i = { u.slot i with storage := .pending } ∧ ∀ j, j ≠ i → t.slot j = u.slot j := by
  have htable : t.table = (u.commit (slotBlock i)).table := h .table (by simp)
  refine ⟨?_, fun j hj => ?_⟩
  · rw [State.slot_eq_of_table htable, State.slot_commit_slotBlock_same]
  · rw [State.slot_eq_of_table htable, State.slot_commit_slotBlock_other _ hj]

/-- A commit leaves all of the table but its slots. -/
theorem State.table_after_commit {u t : State} {b : BlockIx} (h : (u.commit b).onlyIn t [.ports]) :
    t.table.dirty = u.table.dirty ∧ t.table.driver = u.table.driver ∧ t.table.dflt = u.table.dflt ∧
      t.table.counter = u.table.counter := by
  have htable : t.table = (u.commit b).table := h .table (by simp)
  have f := u.commit_frame b
  rw [htable]
  exact ⟨f.dirty, f.driver, f.dflt, f.counter⟩

/-! ## SYNC_MARK -/

theorem decSlot_val (i : SlotIx) : decSlot i.val = some i := by simp [decSlot]

theorem decSlot_none {n : Nat} (h : 47 < n) : decSlot n = none := by
  unfold decSlot; rw [dif_neg (by omega)]

/-- R120: the table once a slot's revision has been confirmed, before the commit. -/
def State.synced (s : State) (i : SlotIx) : State :=
  (s.modRecord i fun r => { r with dirty := false, origin := .fleet }).leaveDirty i

theorem State.onlyIn_synced (s : State) (i : SlotIx) : s.onlyIn (s.synced i) [.table] :=
  (s.onlyIn_modRecord i _).trans (State.onlyIn_leaveDirty _ i)

/-- R120: a slot index out of range, or revision 0. -/
theorem State.reqSyncMark_badField (s : State) {slot : Byte} {revision : BitVec 16}
    (h : 47 < slot.toNat ∨ revision = 0) : s.reqSyncMark slot revision = (s, refusal .badField) := by
  unfold State.reqSyncMark
  cases hd : decSlot slot.toNat with
  | none => rfl
  | some i =>
    have hr : revision = 0 := h.resolve_left fun hs => by simp [decSlot_none hs] at hd
    simp [hr]

/-- R120: a valid SYNC_MARK is decided by its slot. -/
theorem State.reqSyncMark_valid (s : State) {slot : Byte} {revision : BitVec 16} {i : SlotIx} (hi : i.val = slot.toNat)
    (hr : revision ≠ 0) :
    s.reqSyncMark slot revision =
      if !(s.slot i).record.inUse then (s, refusal .noProfile)
      else if (s.slot i).record.revision ≠ revision.toNat then (s, refusal .revisionMismatch)
      else if !(s.slot i).record.dirty then (s, okWith [])
      else if !s.commitPlace (slotBlock i) then (s, refusal .queueFull)
      else ((s.synced i).commit (slotBlock i), okWith []) := by
  unfold State.reqSyncMark
  rw [← hi, decSlot_val]
  exact if_neg hr

/-- R120: an equal revision on a DIRTY slot, its commit finding a place. -/
theorem State.reqSyncMark_confirms {s : State} {slot : Byte} {revision : BitVec 16} {i : SlotIx}
    (hi : i.val = slot.toNat) (hr : revision ≠ 0) (hu : (s.slot i).record.inUse = true)
    (he : (s.slot i).record.revision = revision.toNat) (hd : (s.slot i).record.dirty = true)
    (hp : s.commitPlace (slotBlock i) = true) :
    s.reqSyncMark slot revision = ((s.synced i).commit (slotBlock i), okWith []) := by
  simp [s.reqSyncMark_valid hi hr, hu, he, hd, hp]

end Sys2Proof.Machine

namespace Sys2Proof

open Machine

/-- Settles O35: SYNC_MARK's checks in their order, then the change of its slot and the commit of the slot's block. -/
theorem syncMarkConfirmsTheRevision : Obligations.SyncMarkConfirmsTheRevision := by
  unfold Obligations.SyncMarkConfirmsTheRevision
  intro s slot revision k
  have hl : (Request.syncMark slot revision).frame.length ≤ 100 := Request.length_frame_le _ nofun
  have same : ∀ {reply : Reply}, (∀ u, (s.setPort .fleet u).reqSyncMark slot revision = (s.setPort .fleet u, reply)) →
      exec (.syncMark slot revision) s = .next (s.answered .fleet (.syncMark slot revision) reply) :=
    fun h => exec_answered rfl k rfl hl h
  refine ⟨fun h => same fun u => State.reqSyncMark_badField _ h, fun i hi hr => ?_⟩
  have valid := fun u => (s.setPort .fleet u).reqSyncMark_valid hi hr
  refine ⟨fun hu => same fun u => ?noProfile, fun hu => ⟨fun hn => same fun u => ?revisionMismatch,
    fun he hd => same fun u => ?clean, fun he hd => ⟨fun hp => same fun u => ?queueFull, fun hp => ?confirmed⟩⟩⟩
  case noProfile => simp [valid, hu, refusal]
  case revisionMismatch => simp [valid, hu, hn, refusal]
  case clean => simp [valid, hu, he, hd, okWith]
  case queueFull => simp [valid, hu, he, hd, hp, refusal]
  case confirmed =>
    obtain ⟨t, ht, hs, hut, took, ha⟩ := exec_commits (c := .syncMark slot revision) rfl k rfl hl hp
      (State.reqSyncMark_confirms hi hr hu he hd hp) (State.onlyIn_synced _ i)
    obtain ⟨hsame, hother⟩ := State.slots_after_commit hut
    obtain ⟨hdirty, hdriver, hdflt, hcounter⟩ := State.table_after_commit hut
    refine ⟨t, ht, hs, ?_, fun j hj => ?_, ?_, hdriver, hdflt, hcounter, took, ha⟩
    · simp [hsame, State.synced]
    · simp [hother j hj, State.synced, hj]
    · simp [hdirty, State.synced, bne, beq_eq_decide]

end Sys2Proof
end

section
/-! PROOF. READ_PROFILE and READ_DIRTY (06), which change nothing. -/

namespace Sys2Proof.Machine

/-! ## READ_PROFILE and READ_DIRTY -/

theorem validDriver_iff (id : BitVec 32) : validDriver id = true ↔ id ≠ 0 ∧ id ≠ 0xFFFFFFFF := by
  simp [validDriver]

@[simp] theorem State.findSlot_setPort (s : State) (p : Port) (u : PortUnit) (id : Nat) :
    (s.setPort p u).findSlot id = s.findSlot id := rfl

/-- R119: an EMPTY slot has no profile. -/
theorem State.slotReply_empty {s : State} {i : SlotIx} (h : (s.slot i).record.inUse = false) :
    s.slotReply i = refusal .noProfile := by simp [State.slotReply, h]

/-- R119: an IN_USE slot answers its fields. -/
theorem State.slotReply_inUse {s : State} {i : SlotIx} (h : (s.slot i).record.inUse = true) :
    s.slotReply i = okWith (Slot.bytes i (s.slot i)) := by simp [State.slotReply, h]

/-- R119: READ_PROFILE by an ID that is no driver's. -/
theorem State.reqReadProfile_badDriver (s : State) {named : BitVec 32} (h : named = 0 ∨ named = 0xFFFFFFFF) :
    s.reqReadProfile 0 named = (s, refusal .badField) := by
  have hv : ¬validDriver named = true := by rw [validDriver_iff]; tauto
  unfold State.reqReadProfile
  rw [if_pos rfl, if_neg hv]

/-- R119: READ_PROFILE by driver ID. -/
theorem State.reqReadProfile_byDriver (s : State) {named : BitVec 32} (h0 : named ≠ 0) (hF : named ≠ 0xFFFFFFFF) :
    s.reqReadProfile 0 named = (s, ((s.findSlot named.toNat).map s.slotReply).getD (refusal .noProfile)) := by
  unfold State.reqReadProfile
  rw [if_pos rfl, if_pos ((validDriver_iff named).2 ⟨h0, hF⟩)]
  cases s.findSlot named.toNat <;> rfl

/-- R119: READ_PROFILE by slot index. -/
theorem State.reqReadProfile_bySlot (s : State) (named : BitVec 32) :
    s.reqReadProfile 1 named = (s, ((decSlot named.toNat).map s.slotReply).getD (refusal .badField)) := by
  unfold State.reqReadProfile
  rw [if_neg (by decide), if_pos rfl]
  cases decSlot named.toNat <;> rfl

/-- R119: READ_PROFILE of the default profile. -/
theorem State.reqReadProfile_dflt (s : State) (named : BitVec 32) :
    s.reqReadProfile 2 named = (s, (s.table.dflt.map fun p => okWith p.defaultBytes).getD (refusal .noProfile)) := by
  unfold State.reqReadProfile
  rw [if_neg (by decide), if_neg (by decide), if_pos rfl]
  cases s.table.dflt <;> rfl

/-- R119: a selector above 2 selects nothing. -/
theorem State.reqReadProfile_badSelector (s : State) {sel : Byte} (h : 2 < sel.toNat) (named : BitVec 32) :
    s.reqReadProfile sel named = (s, refusal .badField) := by
  have h0 : sel ≠ 0 := by rintro rfl; simp at h
  have h1 : sel ≠ 1 := by rintro rfl; simp at h
  have h2 : sel ≠ 2 := by rintro rfl; simp at h
  unfold State.reqReadProfile
  rw [if_neg h0, if_neg h1, if_neg h2]

/-- R119, R189: READ_DIRTY of an empty list. -/
theorem State.dirtyFields_nil {s : State} (h : s.table.dirty = []) : s.dirtyFields = List.replicate 9 0 := by
  simp [State.dirtyFields, h, enc8, encNat32, encNat16, enc32, enc16]

/-- R119: READ_DIRTY of a list with a head. -/
theorem State.dirtyFields_cons {s : State} {i : SlotIx} {rest : List SlotIx} (h : s.table.dirty = i :: rest) :
    s.dirtyFields = [BitVec.ofNat 8 (rest.length + 1), BitVec.ofNat 8 i.val] ++ encNat32 (s.slot i).record.driver ++
      encNat16 (s.slot i).record.revision ++ [if (s.slot i).record.origin = .fleet then 1 else 0] := by
  have hs : s.table.slots[i.val] = s.slot i := rfl
  cases ho : (s.slot i).record.origin <;> simp [State.dirtyFields, h, enc8, Origin.code, hs, ho]

end Sys2Proof.Machine

namespace Sys2Proof

open Machine

/-- Settles O36: what each selector of READ_PROFILE and what READ_DIRTY answers, neither touching more than its port. -/
theorem profileReadsAnswer : Obligations.ProfileReadsAnswer := by
  unfold Obligations.ProfileReadsAnswer
  intro s named k answer profile bytes
  have reads : ∀ {sel : Byte} {r : Reply},
      (∀ u, (s.setPort .fleet u).reqReadProfile sel named = (s.setPort .fleet u, r)) → answer sel r :=
    fun h => exec_answered rfl k rfl (Request.length_frame_le _ nofun) h
  have readsDirty : ∀ {fields : List Byte}, (∀ u, (s.setPort .fleet u).dirtyFields = fields) →
      exec .readDirty s = .next (s.answered .fleet .readDirty { code := .ok, fields := fields }) :=
    fun h => exec_answered rfl k rfl (Request.length_frame_le _ nofun) fun u =>
      congrArg (fun fields => (s.setPort .fleet u, okWith fields)) (h u)
  have hprofile : ∀ p : Profile, p.positionBytes ++ enc8 p.exit = profile p := fun p =>
    congrArg (· ++ enc8 p.exit) (List.flatMap_congr fun x _ => by cases x <;> rfl)
  have hbytes : ∀ i x, Slot.bytes i x = bytes i x := fun i x => by
    cases h : x.storage <;> simp [bytes, ← hprofile, Slot.bytes, Storage.code, enc8, h]
  have hdflt : ∀ d : Profile, d.defaultBytes = List.replicate 6 0 ++ profile d ++ [48, 0, 0, 0, 0, 0] := fun d => by
    simp [← hprofile, Profile.defaultBytes, enc8, encNat32, encNat16, enc32, enc16]
  have slot : ∀ {i : SlotIx}, (s.slot i).record.inUse = true → ∀ u,
      (s.setPort .fleet u).slotReply i = { code := .ok, fields := bytes i (s.slot i) } := fun {i} hu u =>
    (State.slotReply_inUse hu).trans (congrArg okWith (hbytes i _))
  refine ⟨fun h => reads fun u => State.reqReadProfile_badDriver _ h,
    fun h0 hF => ⟨fun hf => reads fun u => ?unknownDriver, fun i hf => reads fun u => ?driver⟩,
    fun h => reads fun u => ?badSlot,
    fun i hi => ⟨fun hu => reads fun u => ?emptySlot, fun hu => reads fun u => ?slot⟩,
    fun sel h => reads fun u => State.reqReadProfile_badSelector _ h named,
    fun hd => reads fun u => ?noDefault, fun d hd => reads fun u => ?dflt,
    fun hd => readsDirty fun u => State.dirtyFields_nil hd, fun i rest hd => readsDirty fun u => State.dirtyFields_cons hd⟩
  case unknownDriver => rw [State.reqReadProfile_byDriver _ h0 hF, State.findSlot_setPort, hf]; rfl
  case driver =>
    rw [State.reqReadProfile_byDriver _ h0 hF, State.findSlot_setPort, hf]
    exact congrArg _ (slot (State.findSlot_some hf).1 u)
  case badSlot => rw [State.reqReadProfile_bySlot, decSlot_none h]; rfl
  case emptySlot =>
    rw [State.reqReadProfile_bySlot, ← hi, decSlot_val]
    exact congrArg _ (State.slotReply_empty hu)
  case slot =>
    rw [State.reqReadProfile_bySlot, ← hi, decSlot_val]
    exact congrArg _ (slot hu u)
  case noDefault => rw [State.reqReadProfile_dflt, State.setPort_table, hd]; rfl
  case dflt =>
    rw [State.reqReadProfile_dflt, State.setPort_table, hd]
    exact congrArg (fun fields => (s.setPort .fleet u, okWith fields)) (hdflt d)

end Sys2Proof
end

section
/-! PROOF. SET_EXIT_DISTANCE (06), over the edits of the active driver's slot. -/

namespace Sys2Proof.Machine

/-! ## An edit of the active driver's slot -/

theorem State.onlyIn_enterDirty (s : State) (i : SlotIx) : s.onlyIn (s.enterDirty i) [.table] := by
  unfold State.enterDirty
  split
  · exact .refl s _
  · exact s.onlyIn_table _

theorem State.onlyIn_becomeKnown (s : State) (b : Bool) (i : SlotIx) : s.onlyIn (s.becomeKnown b i) [.table] := by
  cases b with
  | true => exact s.onlyIn_table _
  | false => exact .refl s _

theorem State.onlyIn_raiseKnown (s : State) (b : Bool) : s.onlyIn (s.raiseKnown b) [.ports] := by
  cases b with
  | true => exact s.raiseAt_only _ _
  | false => exact .refl s _

@[simp] theorem State.slot_enterDirty (s : State) (i j : SlotIx) : (s.enterDirty i).slot j = s.slot j := by
  unfold State.enterDirty; split <;> rfl

@[simp] theorem State.slot_becomeKnown (s : State) (b : Bool) (i j : SlotIx) :
    (s.becomeKnown b i).slot j = s.slot j := by
  cases b <;> rfl

/-- R110 to R112: the record an edit writes into the active driver's slot. -/
def State.editedRecord (s : State) (i : SlotIx) (f : Profile → Profile) : SlotRecord :=
  let r := if s.table.driver.slotless then newRecord (s.driverId s.table.driver)
    else { (s.slot i).record with revision := nextRevision (s.slot i).record.revision }
  { r with dirty := true, profile := f r.profile }

/-- R110 to R112: the table once the active driver's slot has been edited, before the commit. -/
def State.edited (s : State) (i : SlotIx) (f : Profile → Profile) : State :=
  ((s.modRecord i fun _ => s.editedRecord i f).enterDirty i).becomeKnown s.table.driver.slotless i

/-- R110 to R112: an edit changes the table, commits the slot's block and raises its events. -/
theorem State.edit_eq (s : State) (i : SlotIx) (f : Profile → Profile) :
    s.edit i f = (((s.edited i f).commit (slotBlock i)).raise .fleet (.profileDirty i (s.driverId s.table.driver)
      (((s.edited i f).commit (slotBlock i)).slot i).record.revision)).raiseKnown s.table.driver.slotless := rfl

theorem State.onlyIn_edited (s : State) (i : SlotIx) (f : Profile → Profile) : s.onlyIn (s.edited i f) [.table] :=
  ((s.onlyIn_modRecord i _).trans (State.onlyIn_enterDirty _ i)).trans (State.onlyIn_becomeKnown _ _ i)

@[simp] theorem State.slot_edited_same (s : State) (i : SlotIx) (f : Profile → Profile) :
    (s.edited i f).slot i = { s.slot i with record := s.editedRecord i f } := by
  simp [State.edited]

@[simp] theorem State.slot_edited_other (s : State) {i j : SlotIx} (f : Profile → Profile) (h : j ≠ i) :
    (s.edited i f).slot j = s.slot j := by
  simp [State.edited, h]

@[simp] theorem State.dirty_edited (s : State) (i : SlotIx) (f : Profile → Profile) :
    (s.edited i f).table.dirty = if i ∈ s.table.dirty then s.table.dirty else s.table.dirty ++ [i] := by
  rw [State.edited, State.dirty_becomeKnown, State.dirty_enterDirty]; rfl

/-- R110: the active driver is KNOWN after an edit of its slot. -/
theorem State.driver_edited {s : State} {i : SlotIx} (h : s.slotToEdit = some i) (f : Profile → Profile) :
    (s.edited i f).table.driver = .known i := by
  unfold State.slotToEdit at h
  cases hd : s.table.driver with
  | nobody => simp [hd] at h
  | known j =>
    have hj : j = i := by simpa [hd] using h
    simp [State.edited, hd, ActiveDriver.slotless, hj]
  | new id | dflt id => simp [State.edited, hd, ActiveDriver.slotless]

theorem State.dflt_counter_edited (s : State) (i : SlotIx) (f : Profile → Profile) :
    (s.edited i f).table.dflt = s.table.dflt ∧ (s.edited i f).table.counter = s.table.counter := by
  unfold State.edited State.becomeKnown State.enterDirty
  repeat' split
  all_goals exact ⟨rfl, rfl⟩

/-- R103, R110, R112: what an edit raises: PROFILE_DIRTY at the fleet port, and DRIVER_CHANGED at every port where the
driver became KNOWN. -/
def State.editEvents (s : State) (i : SlotIx) (f : Profile → Profile) (p : Port) : List Event :=
  (if p = .fleet then [.profileDirty i (s.driverId s.table.driver) (s.editedRecord i f).revision] else []) ++
    (if s.table.driver.slotless then [.driverChanged (.known i) (s.driverId s.table.driver)] else [])

theorem State.gains_edit {s : State} {i : SlotIx} (h : s.slotToEdit = some i) (f : Profile → Profile) :
    s.gains (s.edit i f) (s.editEvents i f) := by
  rw [State.edit_eq]
  have hports : ((s.edited i f).commit (slotBlock i)).ports = s.ports :=
    ((s.edited i f).commit_frame _).ports.trans (s.onlyIn_edited i f .ports (by simp))
  have hrev : (((s.edited i f).commit (slotBlock i)).slot i).record.revision = (s.editedRecord i f).revision := by simp
  rw [hrev]
  have hraised := (State.gains_of_ports hports).trans (State.gains_raise _ .fleet
    (.profileDirty i (s.driverId s.table.driver) (s.editedRecord i f).revision))
  unfold State.editEvents
  cases hs : s.table.driver.slotless with
  | false => simpa [noEvents, State.raiseKnown] using hraised
  | true =>
    have hd : ((s.edited i f).commit (slotBlock i)).table.driver = .known i :=
      ((s.edited i f).commit_frame _).driver.trans (State.driver_edited h f)
    have hchanged := hraised.trans (State.gains_raiseDriverChanged _)
    have hid : (s.editedRecord i f).driver = s.driverId s.table.driver := by simp [State.editedRecord, hs, newRecord]
    simpa [noEvents, State.raiseKnown, hd, State.driverId, hid] using hchanged

/-- An edit's commit is followed by nothing but events. -/
theorem State.edit_after_commit (s : State) (i : SlotIx) (f : Profile → Profile) :
    ((s.edited i f).commit (slotBlock i)).onlyIn (s.edit i f) [.ports] :=
  (State.onlyIn_raise _ _ _).trans (State.onlyIn_raiseKnown _ _)

theorem State.onlyIn_edit (s : State) (i : SlotIx) (f : Profile → Profile) :
    s.onlyIn (s.edit i f) [.ports, .table, .store] :=
  (((s.onlyIn_edited i f).mono (by simp)).trans ((State.commit_only _ _).mono (by simp))).trans
    ((s.edit_after_commit i f).mono (by simp))

/-- R99: an edit's commit is taken where it finds a place. -/
theorem State.tookCommit_edit {s : State} {i : SlotIx} (hp : s.power.state ≠ .park)
    (h : s.commitPlace (slotBlock i) = true) (f : Profile → Profile) : s.tookCommit (s.edit i f) (slotBlock i) := by
  have ho := s.onlyIn_edited i f
  have hpower : (s.edited i f).power = s.power := ho .power (by simp)
  exact (State.tookCommit_commit (ho .store (by simp)) (by rwa [hpower]) h).after_ports (s.edit_after_commit i f)

/-- R110, R112: the slot an edit has written. -/
theorem State.slot_edit_same (s : State) (i : SlotIx) (f : Profile → Profile) :
    (s.edit i f).slot i = { storage := .pending, record := s.editedRecord i f } := by
  rw [(State.slots_after_commit (s.edit_after_commit i f)).1, State.slot_edited_same]

/-- R110 to R112: the table and the commit of an edit, whatever the ports then gain. -/
theorem State.edit_effect {s t : State} {i : SlotIx} {f : Profile → Profile} (he : s.slotToEdit = some i)
    (hp : s.power.state ≠ .park) (hb : s.commitPlace (slotBlock i) = true) (h : (s.edit i f).onlyIn t [.ports]) :
    t.slot i = { storage := .pending, record := s.editedRecord i f } ∧ (∀ j, j ≠ i → t.slot j = s.slot j) ∧
      t.table.dirty = (if i ∈ s.table.dirty then s.table.dirty else s.table.dirty ++ [i]) ∧
      t.table.driver = .known i ∧ t.table.dflt = s.table.dflt ∧ t.table.counter = s.table.counter ∧
      s.tookCommit t (slotBlock i) := by
  have hcommit := (s.edit_after_commit i f).trans h
  obtain ⟨hsame, hother⟩ := State.slots_after_commit hcommit
  obtain ⟨hdirty, hdriver, hdflt, hcounter⟩ := State.table_after_commit hcommit
  obtain ⟨hd, hc⟩ := s.dflt_counter_edited i f
  exact ⟨by rw [hsame, State.slot_edited_same], fun j hj => by rw [hother j hj, State.slot_edited_other _ _ hj],
    hdirty.trans (s.dirty_edited i f), hdriver.trans (State.driver_edited he f), hdflt.trans hd, hcounter.trans hc,
    (State.tookCommit_edit hp hb f).after_ports h⟩

/-- R110 to R112: a request taken at once that edits the active driver's slot, the slot's commit finding a place. -/
theorem exec_edits {c : Instr} {p : Port} {r : Request} (h : c.request = some (p, r)) {s : State} (k : s.ready p)
    (hc : codeCarriedAt r.code.toNat p = true) (hl : r.frame.length ≤ 100) {i : SlotIx} {f : Profile → Profile}
    (he : s.slotToEdit = some i) (hb : s.commitPlace (slotBlock i) = true) {reply : Reply}
    (hv : (s.written p r).handle p r = ((s.written p r).edit i f, reply)) :
    ∃ t, exec c s = .next t ∧ s.onlyIn t [.ports, .table, .store] ∧
      t.slot i = { storage := .pending, record := s.editedRecord i f } ∧ (∀ j, j ≠ i → t.slot j = s.slot j) ∧
      t.table.dirty = (if i ∈ s.table.dirty then s.table.dirty else s.table.dirty ++ [i]) ∧
      t.table.driver = .known i ∧ t.table.dflt = s.table.dflt ∧ t.table.counter = s.table.counter ∧
      s.tookCommit t (slotBlock i) ∧ s.answersWith t p r reply (s.editEvents i f) := by
  have hpark : s.power.state ≠ .park := by rw [k.2.1]; decide
  obtain ⟨t, ht, hs, hvt, ha⟩ := exec_changes h k hc hl hv (State.onlyIn_edit _ i f) (by simp)
    (State.gains_edit (s := s.written p r) he f)
  obtain ⟨hsame, hother, hdirty, hdriver, hdflt, hcounter, took⟩ :=
    State.edit_effect (s := s.written p r) he hpark hb hvt
  exact ⟨t, ht, hs, hsame, hother, hdirty, hdriver, hdflt, hcounter, took, ha⟩

/-- R110, R189: the driver ID an edit evicts. -/
theorem State.evictedByEdit_eq (s : State) (i : SlotIx) : s.evictedByEdit i =
    if s.table.driver.slotless = true ∧ (s.slot i).record.inUse = true then (s.slot i).record.driver else 0 := by
  unfold State.evictedByEdit State.evictedFrom
  cases s.table.driver.slotless <;> simp

/-! ## SET_EXIT_DISTANCE -/

/-- R112: an exit distance out of range. -/
theorem State.reqSetExitDistance_badField (s : State) {d : Byte} (h : 200 < d.toNat) :
    s.reqSetExitDistance d = (s, refusal .badField) := by
  simp [State.reqSetExitDistance, validExit, h]

/-- R112: no active driver. -/
theorem State.reqSetExitDistance_noDriver (s : State) {d : Byte} (h : d.toNat ≤ 200) (hn : s.table.driver = .nobody) :
    s.reqSetExitDistance d = (s, refusal .noDriver) := by
  simp [State.reqSetExitDistance, validExit, h, hn]

/-- R112: a driver without a slot, and no slot to give. -/
theorem State.reqSetExitDistance_tableFull (s : State) {d : Byte} (h : d.toNat ≤ 200) (hn : s.table.driver ≠ .nobody)
    (he : s.slotToEdit = none) : s.reqSetExitDistance d = (s, refusal .tableFull) := by
  simp [State.reqSetExitDistance, validExit, h, hn, he]

/-- R112: with a slot to edit, the commit's place decides. -/
theorem State.reqSetExitDistance_slot (s : State) {d : Byte} {i : SlotIx} (h : d.toNat ≤ 200)
    (hn : s.table.driver ≠ .nobody) (he : s.slotToEdit = some i) :
    s.reqSetExitDistance d = if s.commitPlace (slotBlock i) then
      (s.edit i fun p => { p with exit := d.toNat }, okWith (enc8 i.val ++
        encNat16 (s.editedRecord i fun p => { p with exit := d.toNat }).revision ++ encNat32 (s.evictedByEdit i)))
    else (s, refusal .queueFull) := by
  cases hp : s.commitPlace (slotBlock i) <;>
    simp [State.reqSetExitDistance, validExit, h, hn, he, hp, State.slot_edit_same]

end Sys2Proof.Machine

namespace Sys2Proof

open Machine

/-- Settles O37: SET_EXIT_DISTANCE's checks in their order, then the edit of the active driver's slot. -/
theorem setExitDistanceEdits : Obligations.SetExitDistanceEdits := by
  unfold Obligations.SetExitDistanceEdits
  intro s d k refused
  have hl : (Request.setExitDistance d).frame.length ≤ 100 := Request.length_frame_le _ nofun
  have refuses : ∀ {c : RespCode},
      (∀ u, (s.setPort .panel u).reqSetExitDistance d = (s.setPort .panel u, refusal c)) → refused c :=
    fun h => exec_answered rfl k rfl hl h
  refine ⟨fun h => refuses fun u => State.reqSetExitDistance_badField _ h, fun h =>
    ⟨fun hn => refuses fun u => State.reqSetExitDistance_noDriver _ h hn, fun hn =>
    ⟨fun he => refuses fun u => State.reqSetExitDistance_tableFull _ h hn he, fun i he =>
    ⟨fun hp => refuses fun u => ?queueFull, fun hp => ?edited⟩⟩⟩⟩
  case queueFull => exact ((s.setPort .panel u).reqSetExitDistance_slot h hn he).trans (by simp [hp])
  case edited =>
    intro id fresh
    have hv := ((s.written .panel (.setExitDistance d)).reqSetExitDistance_slot h hn he).trans (if_pos hp)
    obtain ⟨t, ht, hs, hslot, hother, hdirty, hdriver, hdflt, hcounter, took, ha⟩ := exec_edits
      (c := .setExitDistance d) rfl k rfl hl he hp hv
    refine ⟨t, ht, hs, fun hk => ?_, fun hf => ?_, hother, hdirty, hdflt, hcounter, hdriver, took, ?_⟩
    · have hd : s.table.driver.slotless = false := by simpa [fresh] using hk
      simp [hslot, State.editedRecord, hd]
    · have hd : s.table.driver.slotless = true := hf
      simp [hslot, State.editedRecord, hd, newRecord, id]
    · rw [← State.evictedByEdit_eq, hslot]
      exact ha

end Sys2Proof
end

section
/-! PROOF. READ_PORT_STATUS (10, section 10.7). -/

namespace Sys2Proof.Machine

/-! ## Changes of one port in a row -/

@[simp] theorem Ports.set_set (ps : Ports) (p : Port) (u v : PortUnit) : (ps.set p u).set p v = ps.set p v := by
  cases p <;> rfl

@[simp] theorem State.setPort_setPort (s : State) (p : Port) (u v : PortUnit) :
    (s.setPort p u).setPort p v = s.setPort p v := by simp [State.setPort]

/-- R177: the change a transaction makes at its completion joins the end of the transaction in one change of the port. -/
theorem State.modPort_endTransaction (s : State) (p : Port) (returned : List Byte) (f : PortUnit → PortUnit) :
    (s.endTransaction p returned).modPort p f =
      s.setPort p (f { s.port p with selected := none, dataOut := returned }) := by
  simp [State.endTransaction, State.modPort]

/-! ## The port status -/

/-- R177: an assertion fixes the selection of its port. -/
theorem State.selected_assertSelect (s : State) (p : Port) :
    ((s.assertSelect p).port p).selected = some (s.selection p) := by simp [State.assertSelect]

/-- R177: the running transaction returns what was fixed at its chip-select assertion. -/
theorem State.selected_of_some {s : State} {p : Port} {y : Selected} (h : (s.port p).selected = some y) :
    s.selected p = y := by simp [State.selected, h]

/-- R188: the first byte of the port status, request-full in bit 0 and response-ready in bit 1. -/
theorem encFlags_pair (full ready : Bool) :
    encFlags [full, ready] = [BitVec.ofNat 8 ((if full then 1 else 0) + (if ready then 2 else 0))] := by
  cases full <;> cases ready <;> rfl

/-- R185: a READ_PORT_STATUS returns the status that was fixed, and one of its whole length takes the counts it returned
from those that now stand. -/
theorem State.readPortStatus_eq (s : State) (p : Port) (n : Nat) :
    s.readPortStatus p n = s.setPort p { s.port p with
      selected := none, dataOut := clockOut (s.selected p).status.bytes n
      lost := if 6 ≤ n then (s.port p).lost - (s.selected p).status.lost else (s.port p).lost
      overrun := if 6 ≤ n then (s.port p).overrun - (s.selected p).status.overrun else (s.port p).overrun } := by
  unfold State.readPortStatus
  by_cases hn : 6 ≤ n
  · rw [if_pos (show statusLength ≤ n from hn), State.modPort_endTransaction]
    simp only [if_pos hn]
  · rw [if_neg (show ¬ statusLength ≤ n from hn), State.endTransaction, State.modPort]
    simp only [if_neg hn]

theorem exec_chipSelectAsserted {s : State} (h : s.powered = true) (p : Port) :
    exec (.chipSelectAsserted p) s = .next (s.assertSelect p) := congrArg Host.Outcome.next (if_pos h)

theorem exec_readPortStatus {s : State} (h : s.powered = true) (p : Port) (n : Nat) :
    exec (.readPortStatus p n) s = .next (s.readPortStatus p n) := congrArg Host.Outcome.next (if_pos h)

end Sys2Proof.Machine

namespace Sys2Proof

open Machine

/-- Settles O15: the status a chip-select assertion fixes is what a completed READ_PORT_STATUS returns and takes from the
counts, whatever state the transaction ends in. -/
theorem readPortStatusReturnsTheStatus : Obligations.ReadPortStatusReturnsTheStatus := by
  unfold Obligations.ReadPortStatusReturnsTheStatus
  intro s p hs
  refine ⟨s.assertSelect p, s.selection p, exec_chipSelectAsserted hs p, s.selected_assertSelect p, ?_⟩
  rintro u n hu ⟨y, hy, hstatus⟩ before now bytes
  have fixed : (u.selected p).status = s.portStatus p := (congrArg _ (State.selected_of_some hy)).trans hstatus
  have hbytes : (s.portStatus p).bytes = bytes := by
    rw [PortStatus.bytes, encFlags_pair]
    cases hp : s.power.state <;> simp [State.portStatus, bytes, before, enc8, PowerState.code, hp]
  rw [exec_readPortStatus hu, State.readPortStatus_eq, fixed, clockOut, hbytes]
  rfl

end Sys2Proof
end

section
/-! PROOF. The shape of a step, and the laws that every step keeps one by one: the port units' bounds (10), the commit
queue (08), the history ring (07), the leads (01), the monitor (05) and the profile table (06). -/

namespace Sys2Proof.Machine

/-! ## From commands to steps -/

/-- A relation that holds over every elementary update holds over a step: taking a command off the queue is none of the
laws' business. -/
theorem StepClosed.step {R : State → State → Prop} (k : StepClosed R)
    (hp : ∀ (s : State) (l : List Instr), R s { s with pending := l }) {s t : State} (h : step s = .next t) : R s t := by
  unfold Machine.step at h
  split at h
  · cases h; exact k.refl s
  · exact k.trans (hp s _) (k.exec _ h)

/-- No command is refused or faults. -/
theorem exec_next (c : Instr) (s : State) : ∃ t, exec c s = .next t := by
  cases c <;> exact ⟨_, rfl⟩

theorem State.commit_pending (s : State) (b : BlockIx) : (s.commit b).pending = s.pending := (s.commit_frame b).pending

/-! ## The laws as relations -/

/-- No elementary update touches the queue of waiting commands. -/
theorem stepClosed_pending : StepClosed fun s t => t.pending = s.pending where
  refl _ := rfl
  trans h k := k.trans h
  axis _ _ _ _ := rfl
  moves _ _ := rfl
  engine _ _ _ := rfl
  raise _ _ _ := rfl
  commit := State.commit_pending
  table _ _ _ := rfl
  van _ _ := rfl
  model _ _ := rfl
  unit _ _ _ _ := rfl
  monitor _ _ _ := rfl
  power _ _ := rfl
  ports _ _ _ := rfl
  store _ _ _ := rfl
  anew _ _ h _ _ _ _ _ _ := h

theorem State.raise_portsBounded (s : State) (p : Port) (e : Event) (h : s.portsBounded) :
    (s.raise p e).portsBounded := fun q => by
  unfold State.raise
  rw [State.port_modPort]
  split
  · exact PortUnit.enqueue_bounded _ e (h p)
  · exact h q

/-- R176: the bounds of the port units. -/
theorem stepClosed_portsBounded : StepClosed fun s t => s.portsBounded → t.portsBounded where
  refl _ := id
  trans h k := k ∘ h
  axis _ _ _ _ := id
  moves _ _ := id
  engine _ _ _ := id
  raise := State.raise_portsBounded
  commit s b h := fun p => by
    have := h p
    unfold State.port at this ⊢
    rwa [(s.commit_frame b).ports]
  table _ _ _ := id
  van _ _ := id
  model _ _ := id
  unit _ _ _ _ := id
  monitor _ _ _ := id
  power _ _ := id
  ports _ _ hb h := fun p => hb p (h p)
  store _ _ _ := id
  anew _ _ _ h _ _ _ _ _ := fun _ => h

/-- R150, R151: the commit queue. -/
theorem stepClosed_queueSound : StepClosed fun s t => s.store.queueSound → t.store.queueSound where
  refl _ := id
  trans h k := k ∘ h
  axis _ _ _ _ := id
  moves _ _ := id
  engine _ _ _ := id
  raise _ _ _ := id
  commit := State.commit_queueSound
  table _ _ _ := id
  van _ _ := id
  model _ _ := id
  unit _ _ _ _ := id
  monitor _ _ _ := id
  power _ _ := id
  ports _ _ _ := id
  store _ _ h := h
  anew _ _ _ _ h _ _ _ _ := fun _ => h

/-- R139: the history ring. -/
theorem stepClosed_ringBounded : StepClosed fun s t => s.ringBounded → t.ringBounded where
  refl _ := id
  trans h k := k ∘ h
  axis _ _ _ _ := id
  moves _ _ := id
  engine _ _ h := h
  raise _ _ _ := id
  commit s b h := by unfold State.ringBounded; rwa [(s.commit_frame b).engine]
  table _ _ _ := id
  van _ _ := id
  model _ _ := id
  unit _ _ _ _ := id
  monitor _ _ _ := id
  power _ _ := id
  ports _ _ _ := id
  store _ _ _ := id
  anew _ _ _ _ _ h _ _ _ := fun _ => h

theorem State.modAxis_leadsInRange {s : State} {a : Axis} {f : AxisUnit → AxisUnit}
    (hf : ∀ u : AxisUnit, u.leadUp ≤ 6 ∧ u.leadDown ≤ 6 → (f u).leadUp ≤ 6 ∧ (f u).leadDown ≤ 6)
    (h : s.leadsInRange) : (s.modAxis a f).leadsInRange := fun b => by
  rw [State.axis_modAxis]
  split
  · exact hf _ (h a)
  · exact h b

/-- R17: the leads. -/
theorem stepClosed_leadsInRange : StepClosed fun s t => s.leadsInRange → t.leadsInRange where
  refl _ := id
  trans h k := k ∘ h
  axis _ _ _ hf := State.modAxis_leadsInRange fun u hu => by rwa [(hf u).leadUp, (hf u).leadDown]
  moves _ _ := id
  engine _ _ _ := id
  raise _ _ _ := id
  commit s b h := fun a => by
    have := h a
    unfold State.axis at this ⊢
    rwa [(s.commit_frame b).axes]
  table _ _ _ := id
  van _ _ := id
  model _ _ := id
  unit _ _ _ hf := State.modAxis_leadsInRange hf
  monitor _ _ _ := id
  power _ _ := id
  ports _ _ _ := id
  store _ _ _ := id
  anew _ _ _ _ _ _ h _ _ := fun _ => h

/-- R83: the monitor. -/
theorem stepClosed_monitorSound : StepClosed fun s t => s.monitor.sound → t.monitor.sound where
  refl _ := id
  trans h k := k ∘ h
  axis _ _ _ _ := id
  moves _ _ := id
  engine _ _ _ := id
  raise _ _ _ := id
  commit s b h := by rwa [(s.commit_frame b).monitor]
  table _ _ _ := id
  van _ _ := id
  model _ _ := id
  unit _ _ _ _ := id
  monitor _ _ h := fun _ => h
  power _ _ := id
  ports _ _ _ := id
  store _ _ _ := id
  anew _ _ _ _ _ _ _ h _ := fun _ => h

theorem State.commit_record (s : State) (b : BlockIx) (i : SlotIx) :
    (s.commit b).table.record i = s.table.record i := by
  have h := s.slot_commit b i
  have : ((s.commit b).slot i).record = (s.slot i).record := by rw [h]; split <;> rfl
  exact this

theorem State.commit_tableSound (s : State) (b : BlockIx) (h : s.table.sound) : (s.commit b).table.sound :=
  have f := s.commit_frame b
  ProfileTable.sound_same h (fun i => by rw [s.commit_record b i]; exact ⟨rfl, rfl, rfl⟩) f.dirty f.driver

/-- R98, R101, R103: the profile table. -/
theorem stepClosed_tableSound : StepClosed fun s t => s.table.sound → t.table.sound where
  refl _ := id
  trans h k := k ∘ h
  axis _ _ _ _ := id
  moves _ _ := id
  engine _ _ _ := id
  raise _ _ _ := id
  commit := State.commit_tableSound
  table _ _ h := h
  van _ _ := id
  model _ _ := id
  unit _ _ _ _ := id
  monitor _ _ _ := id
  power _ _ := id
  ports _ _ _ := id
  store _ _ _ := id
  anew _ _ _ _ _ _ _ _ h := fun _ => h

end Sys2Proof.Machine

namespace Sys2Proof

open Machine

/-- Settles O1, by the definition of a step. -/
theorem stepTakesFront : Obligations.StepTakesFront := by
  unfold Obligations.StepTakesFront
  intro c rest s
  rfl

/-- Settles O2: every command has a meaning, and none touches the queue of waiting commands. -/
theorem everyCommandCompletes : Obligations.EveryCommandCompletes := by
  unfold Obligations.EveryCommandCompletes
  intro c s
  obtain ⟨t, ht⟩ := exec_next c s
  exact ⟨t, ht, stepClosed_pending.exec c ht⟩

/-- Settles O5, over the elementary updates of a step. -/
theorem portBoundsKept : Obligations.PortBoundsKept := by
  unfold Obligations.PortBoundsKept
  exact fun _ _ h e => stepClosed_portsBounded.step (fun _ _ => id) e h

/-- Settles O6, over the elementary updates of a step. -/
theorem commitQueueKept : Obligations.CommitQueueKept := by
  unfold Obligations.CommitQueueKept
  exact fun _ _ h e => stepClosed_queueSound.step (fun _ _ => id) e h

/-- Settles O7: each of the four laws holds over the elementary updates of a step. -/
theorem ringLeadsMonitorAndTableKept : Obligations.RingLeadsMonitorAndTableKept := by
  unfold Obligations.RingLeadsMonitorAndTableKept
  rintro s t ⟨hring, hleads, hmonitor, htable⟩ e
  exact ⟨stepClosed_ringBounded.step (fun _ _ => id) e hring, stepClosed_leadsInRange.step (fun _ _ => id) e hleads,
    stepClosed_monitorSound.step (fun _ _ => id) e hmonitor, stepClosed_tableSound.step (fun _ _ => id) e htable⟩

end Sys2Proof
end

section
/-! PROOF. The current law (04, 09): an action lets no entry drive but through the arbiter, which grants what the budget
leaves; a fall of the budget revokes before the arbiter runs. -/

namespace Sys2Proof.Machine

/-! ## The laws, by what they read -/

/-- R59, R167: the laws of the move list that do not speak of the budget. -/
abbrev State.listLaws (s : State) : Prop := s.oneEntryPerAxis ∧ s.stillOutsideRun

/-- What no action changes once the power state and the vehicle record stand: both of them, and R168's law. -/
structure Acted (s t : State) : Prop where
  power : t.power = s.power
  monitor : t.monitor = s.monitor
  snapshot : s.snapshotInParking → t.snapshotInParking

theorem Acted.of_fields {s t : State} (hp : t.power = s.power) (hm : t.monitor = s.monitor)
    (hw : t.store.write = s.store.write) : Acted s t :=
  ⟨hp, hm, fun h w => by rw [hw, hp]; exact h w⟩

/-- R153, R168: a write that starts carries a snapshot without the consumed marker in PARKING alone. -/
theorem State.startWrite_snapshotInParking (s : State) (h : s.snapshotInParking) : s.startWrite.snapshotInParking := by
  unfold State.startWrite
  split
  · exact h
  · split
    · intro w hw i hi hc
      cases hw
      simp only [State.imageOf] at hi
      split at hi
      · cases hi
      · split at hi
        · cases hi
        · split at hi
          · cases hi
          · cases hi
            simpa [State.snapshotImage] using hc
    · exact h

theorem State.commit_acted (s : State) (b : BlockIx) : Acted s (s.commit b) := by
  have f := s.commit_frame b
  refine ⟨f.power, f.monitor, fun h => State.startWrite_snapshotInParking _ ?_⟩
  have hw : ((s.setStorage b .pending).placeCommit b).store.write = s.store.write := by
    have : ((s.setStorage b .pending).placeCommit b).store.write = (s.setStorage b .pending).store.write := by
      unfold State.placeCommit; repeat' split
      all_goals rfl
    rw [this, (s.setStorage_store b .pending).2.2.2]
  have hp : ((s.setStorage b .pending).placeCommit b).power = s.power :=
    ((s.setStorage_frame b .pending).trans (State.placeCommit_frame _ b)).power
  exact (Acted.of_fields (s := s) hp
    ((s.setStorage_frame b .pending).trans (State.placeCommit_frame _ b)).monitor hw).snapshot h

theorem acted : ActClosed Acted where
  refl _ := ⟨rfl, rfl, id⟩
  trans h k := ⟨k.power.trans h.power, k.monitor.trans h.monitor, k.snapshot ∘ h.snapshot⟩
  axis _ _ _ _ := .of_fields rfl rfl rfl
  moves _ _ := .of_fields rfl rfl rfl
  engine _ _ _ := .of_fields rfl rfl rfl
  raise _ _ _ := .of_fields rfl rfl rfl
  commit := State.commit_acted
  table _ _ _ := .of_fields rfl rfl rfl
  van _ _ := .of_fields rfl rfl rfl
  model _ _ := .of_fields rfl rfl rfl

/-! ## The demand of a list of entries -/

/-- R64: the demands of the DRIVING entries of a list. -/
def drawnOf (es : List MoveEntry) : Nat := ((es.filter (·.state == .driving)).map fun e => demand e.axis).sum

theorem State.drawn_eq (s : State) : s.drawn = drawnOf s.moves.entries := rfl

@[simp] theorem drawnOf_nil : drawnOf [] = 0 := rfl

theorem drawnOf_cons (e : MoveEntry) (es : List MoveEntry) :
    drawnOf (e :: es) = (if e.state = .driving then demand e.axis else 0) + drawnOf es := by
  by_cases h : e.state = .driving <;> simp [drawnOf, h]

theorem drawnOf_append (es fs : List MoveEntry) : drawnOf (es ++ fs) = drawnOf es + drawnOf fs := by
  simp [drawnOf]

theorem drawnOf_sublist {es fs : List MoveEntry} (h : es.Sublist fs) : drawnOf es ≤ drawnOf fs :=
  ((h.filter _).map _).sum_le_sum fun _ _ => Nat.zero_le _

/-- An entry replaced in its place by one that does not drive takes no demand. -/
theorem drawnOf_replace_le (e : MoveEntry) (h : e.state ≠ .driving) (es : List MoveEntry) :
    drawnOf (es.map fun x => if x.axis = e.axis then e else x) ≤ drawnOf es := by
  induction es with
  | nil => exact Nat.le_refl _
  | cons x es ih =>
    rw [List.map_cons, drawnOf_cons, drawnOf_cons]
    by_cases hx : x.axis = e.axis
    · simp only [hx, if_true, h, if_false]; omega
    · simp only [hx, if_false]; omega

theorem map_axis_replace (e : MoveEntry) (es : List MoveEntry) :
    (es.map fun x => if x.axis = e.axis then e else x).map (·.axis) = es.map (·.axis) := by
  rw [List.map_map]
  refine List.map_congr_left fun x _ => ?_
  by_cases hx : x.axis = e.axis <;> simp [hx]

/-- Where no entry of the axis is listed, replacing changes nothing. -/
theorem replace_absent {e : MoveEntry} {es : List MoveEntry} (h : e.axis ∉ es.map (·.axis)) :
    (es.map fun x => if x.axis = e.axis then e else x) = es := by
  refine (List.map_congr_left fun x hx => ?_).trans (List.map_id es)
  have hne : x.axis ≠ e.axis := fun hxe => h (hxe ▸ List.mem_map_of_mem hx)
  simp [hne]

/-- R66: an entry that comes to drive adds its axis's demand once. -/
theorem drawnOf_replace_drive {e : MoveEntry} {es : List MoveEntry} (h : (es.map (·.axis)).Nodup) :
    drawnOf (es.map fun x => if x.axis = e.axis then e else x) ≤ drawnOf es + demand e.axis := by
  induction es with
  | nil => exact Nat.zero_le _
  | cons x es ih =>
    rw [List.map_cons, List.nodup_cons] at h
    rw [List.map_cons, drawnOf_cons, drawnOf_cons]
    by_cases hx : x.axis = e.axis
    · rw [replace_absent (hx ▸ h.1)]
      simp only [hx, if_true]
      split <;> omega
    · have := ih h.2
      simp only [hx, if_false]
      omega

/-- R59: a BACKOFF that enters a list adds its axis, and no demand. -/
theorem map_axis_insertBackoff (b : MoveEntry) (es : List MoveEntry) :
    ((insertBackoff b es).map (·.axis)).Perm (b.axis :: es.map (·.axis)) := by
  have : (insertBackoff b es).Perm (b :: es) := by
    unfold insertBackoff
    refine List.perm_middle.trans ?_
    rw [List.takeWhile_append_dropWhile]
  exact this.map _

theorem drawnOf_insertBackoff {b : MoveEntry} (h : b.state ≠ .driving) (es : List MoveEntry) :
    drawnOf (insertBackoff b es) = drawnOf es := by
  have : drawnOf es = drawnOf (es.takeWhile (·.state != .waiting)) + drawnOf (es.dropWhile (·.state != .waiting)) := by
    rw [← drawnOf_append, List.takeWhile_append_dropWhile]
  rw [insertBackoff, drawnOf_append, drawnOf_cons, if_neg h, this]
  omega

/-! ## What lets no entry drive -/

/-- The power state and the vehicle record stand, the list's laws are kept, and no entry has come to drive. -/
structure Kept (s t : State) : Prop extends Acted s t where
  list : s.listLaws → t.listLaws ∧ t.drawn ≤ s.drawn

/-- The power state and the vehicle record stand, and the list's laws and the budget are kept. -/
structure Within (s t : State) : Prop extends Acted s t where
  list : s.listLaws → s.withinBudget → t.listLaws ∧ t.withinBudget

theorem Kept.refl (s : State) : Kept s s := ⟨acted.refl s, fun h => ⟨h, Nat.le_refl _⟩⟩

theorem Kept.trans {s t u : State} (h : Kept s t) (k : Kept t u) : Kept s u :=
  ⟨acted.trans h.toActed k.toActed, fun l =>
    have ⟨l', d⟩ := h.list l
    have ⟨l'', d'⟩ := k.list l'
    ⟨l'', d'.trans d⟩⟩

theorem Within.trans {s t u : State} (h : Within s t) (k : Within t u) : Within s u :=
  ⟨acted.trans h.toActed k.toActed, fun l b => have ⟨l', b'⟩ := h.list l b; k.list l' b'⟩

theorem Acted.budget {s t : State} (h : Acted s t) : t.budget = s.budget := by
  unfold State.budget; rw [h.monitor]

theorem Acted.run {s t : State} (h : Acted s t) (hr : s.power.state = .run) : t.power.state = .run := by
  rw [h.power, hr]

theorem Kept.within {s t : State} (h : Kept s t) : Within s t :=
  ⟨h.toActed, fun l b => have ⟨l', d⟩ := h.list l; ⟨l', (d.trans b).trans (le_of_eq h.budget.symm)⟩⟩

theorem Within.refl (s : State) : Within s s := (Kept.refl s).within

/-- What leaves the list, and an engine without an active operation, as they are. -/
theorem Kept.of_entries {s t : State} (a : Acted s t) (he : t.moves.entries = s.moves.entries)
    (ha : s.engine.active = none → t.engine.active = none) : Kept s t := by
  refine ⟨a, fun ⟨l1, l2⟩ => ⟨⟨?_, fun hr => ?_⟩, ?_⟩⟩
  · unfold State.oneEntryPerAxis; rwa [he]
  · rw [a.power] at hr; rw [he]; exact ⟨(l2 hr).1, ha (l2 hr).2⟩
  · rw [t.drawn_eq, he]; exact Nat.le_refl _

/-- A list whose entries are some of those before. -/
theorem Kept.of_sublist {s t : State} (a : Acted s t) (he : t.moves.entries.Sublist s.moves.entries)
    (ha : t.engine = s.engine) : Kept s t := by
  refine ⟨a, fun ⟨l1, l2⟩ => ⟨⟨(he.map _).nodup l1, fun hr => ?_⟩, drawnOf_sublist he⟩⟩
  rw [a.power] at hr
  obtain ⟨hes, hact⟩ := l2 hr
  rw [hes] at he
  exact ⟨List.sublist_nil.mp he, ha ▸ hact⟩

/-- A fold of operations that keep the laws keeps them. -/
theorem Kept.foldl {α : Type} {f : State → α → State} (hf : ∀ s a, Kept s (f s a)) (l : List α) (s : State) :
    Kept s (l.foldl f s) := by
  induction l generalizing s with
  | nil => exact .refl s
  | cons a l ih => exact (hf s a).trans (ih _)

theorem Within.foldl {α : Type} {f : State → α → State} (hf : ∀ s a, Within s (f s a)) (l : List α) (s : State) :
    Within s (l.foldl f s) := by
  induction l generalizing s with
  | nil => exact .refl s
  | cons a l ih => exact (hf s a).trans (ih _)

section Elementary

variable (s : State)

theorem Kept.setAxis (a : Axis) (u : AxisUnit) : Kept s (s.setAxis a u) :=
  .of_entries (.of_fields rfl rfl rfl) rfl id
theorem Kept.modAxis (a : Axis) (f : AxisUnit → AxisUnit) : Kept s (s.modAxis a f) := .setAxis s a _
theorem Kept.cutMotor (a : Axis) (b : Bool) : Kept s (s.cutMotor a b) := .modAxis s a _
theorem Kept.askWalk : Kept s s.askWalk := .of_entries (.of_fields rfl rfl rfl) rfl id
theorem Kept.withDue (k : Nat) : Kept s (s.withDue k) := .of_entries (.of_fields rfl rfl rfl) rfl id
theorem Kept.modJogs (p : JogRecord → Bool) (f : JogRecord → JogRecord) : Kept s (s.modJogs p f) :=
  .of_entries (.of_fields rfl rfl rfl) rfl id
theorem Kept.raise (p : Port) (e : Event) : Kept s (s.raise p e) := .of_entries (.of_fields rfl rfl rfl) rfl id
theorem Kept.raiseAt (ps : List Port) (e : Event) : Kept s (s.raiseAt ps e) :=
  Kept.foldl (fun t p => .raise t p e) ps s
theorem Kept.table (x : ProfileTable) : Kept s { s with table := x } := .of_entries (.of_fields rfl rfl rfl) rfl id
theorem Kept.van (x : VanRecord) : Kept s { s with van := x } := .of_entries (.of_fields rfl rfl rfl) rfl id
theorem Kept.model (x : ModelFields) : Kept s { s with model := x } := .of_entries (.of_fields rfl rfl rfl) rfl id
theorem Kept.ports (x : Ports) : Kept s { s with ports := x } := .of_entries (.of_fields rfl rfl rfl) rfl id
theorem Kept.engine (g : RecallEngine) (h : s.engine.active = none → g.active = none) :
    Kept s { s with engine := g } := .of_entries (.of_fields rfl rfl rfl) rfl h
theorem Kept.modActive (f : Operation → Operation) : Kept s (s.modActive f) :=
  .engine s _ fun h => by rw [h]; rfl
theorem Kept.releaseActive : Kept s s.releaseActive := .engine s _ fun _ => rfl
theorem Kept.setArm (x : Option Nat) : Kept s (s.setArm x) := .engine s _ id
theorem Kept.setAllowance (b : Bool) : Kept s (s.setAllowance b) := .engine s _ id
theorem Kept.writeHistory (r : HistoryRecord) : Kept s (s.writeHistory r) := .engine s _ id
theorem Kept.commit (b : BlockIx) : Kept s (s.commit b) :=
  have f := s.commit_frame b
  .of_entries (s.commit_acted b) (by rw [f.moves]) (by rw [f.engine]; exact id)
theorem Kept.settleOff (e : MoveEntry) (d : Disposition) : Kept s (s.settleOff e d) :=
  .of_entries (.of_fields rfl rfl rfl) rfl id
theorem Kept.dropEntry (a : Axis) : Kept s (s.dropEntry a) :=
  .of_sublist (.of_fields rfl rfl rfl) List.filter_sublist rfl

/-- Entries that change neither axis nor state. -/
theorem Kept.mapEntries (f : MoveEntry → MoveEntry) (ha : ∀ e, (f e).axis = e.axis) (hs : ∀ e, (f e).state = e.state) :
    Kept s { s with moves := { s.moves with entries := s.moves.entries.map f } } := by
  refine ⟨.of_fields rfl rfl rfl, fun ⟨l1, l2⟩ => ⟨⟨?_, fun hr => ?_⟩, ?_⟩⟩
  · have : (s.moves.entries.map f).map (·.axis) = s.moves.entries.map (·.axis) := by simp [ha]
    exact (congrArg List.Nodup this).mpr l1
  · exact ⟨by show s.moves.entries.map f = []; rw [(l2 hr).1]; rfl, (l2 hr).2⟩
  · show drawnOf (s.moves.entries.map f) ≤ drawnOf s.moves.entries
    refine le_of_eq ?_
    unfold drawnOf
    rw [List.filter_map, List.map_map]
    simp [Function.comp_def, ha, hs]

theorem Kept.raisePass (l : List Axis) : Kept s (s.raisePass l) :=
  .mapEntries s _ (fun e => by unfold MoveEntry.raisePass; split <;> rfl)
    fun e => by unfold MoveEntry.raisePass; split <;> rfl

/-- An entry replaced by one that does not drive. -/
theorem Kept.setEntry (e : MoveEntry) (h : e.state ≠ .driving) : Kept s (s.setEntry e) := by
  refine ⟨.of_fields rfl rfl rfl, fun ⟨l1, l2⟩ => ⟨⟨?_, fun hr => ?_⟩, drawnOf_replace_le e h _⟩⟩
  · exact (congrArg List.Nodup (map_axis_replace e s.moves.entries)).mpr l1
  · refine ⟨?_, (l2 hr).2⟩
    show s.moves.entries.map _ = []
    rw [(l2 hr).1]; rfl

theorem Kept.modOperation (id : Nat) (f : Operation → Operation) :
    Kept s { s with engine := s.engine.modOperation id f } :=
  .engine s _ fun h => by unfold RecallEngine.modOperation; rw [h]; rfl

end Elementary

/-! ## The move list -/

theorem Kept.report (s : State) (e : MoveEntry) (o : AxisOutcome) (x : Int) : Kept s (s.report e o x) := by
  unfold State.report
  split
  · exact .refl s
  · exact .of_entries (.of_fields rfl rfl rfl) rfl id
  · exact .modOperation s _ _

theorem Kept.grantReport (s : State) (e : MoveEntry) : Kept s (s.grantReport e) := by
  unfold State.grantReport
  split
  · exact .modOperation s _ _
  · exact .refl s
  · exact .refl s

theorem Kept.endEntry (s : State) (e : MoveEntry) (o : AxisOutcome) (x : Int) : Kept s (s.endEntry e o x) :=
  (Kept.modAxis s _ _).trans (.report _ _ _ _)

theorem Kept.markBackoff (s : State) (o : Owner) : Kept s (s.markBackoff o) := by
  unfold State.markBackoff
  split
  · exact .of_entries (.of_fields rfl rfl rfl) rfl id
  · exact .refl s
  · exact .refl s

/-- R59: an entry enters a list that holds none of its axis, and demands nothing. -/
theorem Kept.insert {s : State} {e : MoveEntry} {es : List MoveEntry} (hr : s.power.state = .run)
    (ha : e.axis ∉ s.moves.entries.map (·.axis))
    (hp : (es.map (·.axis)).Perm (e.axis :: s.moves.entries.map (·.axis)))
    (hd : drawnOf es = drawnOf s.moves.entries) : Kept s { s with moves := { s.moves with entries := es } } :=
  ⟨.of_fields rfl rfl rfl, fun ⟨l1, _⟩ =>
    ⟨⟨hp.nodup_iff.mpr (List.nodup_cons.mpr ⟨ha, l1⟩), fun h => absurd hr h⟩, le_of_eq hd⟩⟩

theorem State.markBackoff_entries (s : State) (o : Owner) : (s.markBackoff o).moves.entries = s.moves.entries := by
  unfold State.markBackoff; split <;> rfl

theorem State.report_entries (s : State) (e : MoveEntry) (o : AxisOutcome) (x : Int) :
    (s.report e o x).moves.entries = s.moves.entries := by
  unfold State.report; split <;> rfl

theorem State.endEntry_entries (s : State) (e : MoveEntry) (o : AxisOutcome) (x : Int) :
    (s.endEntry e o x).moves.entries = s.moves.entries := State.report_entries _ _ _ _

theorem Kept.offerBackoff {s : State} {e : MoveEntry} (hr : s.power.state = .run)
    (ha : e.axis ∉ s.moves.entries.map (·.axis)) (x : Int) : Kept s (s.offerBackoff e x) := by
  unfold State.offerBackoff
  have h := (Kept.markBackoff s (s.backoffOwner e)).trans (.askWalk _)
  have he : ((s.markBackoff (s.backoffOwner e)).askWalk).moves.entries = s.moves.entries := s.markBackoff_entries _
  dsimp only
  split
  · exact h.trans (.endEntry _ _ _ _)
  · exact h.trans (.insert (h.run hr) (he ▸ ha) (map_axis_insertBackoff _ _)
      (drawnOf_insertBackoff (by simp) _))

/-- R72: an entry's end; only one that ends OBSTRUCTED is followed by another entry, which the list takes in RUN. -/
theorem Kept.endAndFollow {s : State} {e : MoveEntry} {o : AxisOutcome} (hr : o = .obstructed → s.power.state = .run)
    (ha : e.axis ∉ s.moves.entries.map (·.axis)) (x : Int) : Kept s (s.endAndFollow e o x) := by
  unfold State.endAndFollow
  have h := Kept.endEntry s e o x
  dsimp only
  split
  · rename_i ho
    exact h.trans (.offerBackoff (h.run (hr ho.1)) (by rwa [s.endEntry_entries]) x)
  · exact h

theorem State.dropEntry_absent (s : State) (a : Axis) : a ∉ (s.dropEntry a).moves.entries.map (·.axis) := by
  simp [State.dropEntry]

theorem Kept.finishEntry {s : State} {e : MoveEntry} {o : AxisOutcome} (hr : o = .obstructed → s.power.state = .run)
    (x : Int) : Kept s (s.finishEntry e o x) :=
  ((Kept.dropEntry s e.axis).trans (.askWalk _)).trans
    (.endAndFollow (s := (s.dropEntry e.axis).askWalk) hr (s.dropEntry_absent e.axis) x)

/-- R167: an entry that is on the list is there in RUN. -/
theorem State.run_of_entryOf {s : State} (l : s.listLaws) {a : Axis} {e : MoveEntry} (h : s.entryOf a = some e) :
    s.power.state = .run := by
  by_contra hr
  have := List.mem_of_find?_eq_some h
  rw [(l.2 hr).1] at this
  cases this

/-- What keeps the laws wherever they hold keeps them. -/
theorem Kept.of_laws {s t : State} (a : Acted s t) (h : s.listLaws → Kept s t) : Kept s t := ⟨a, fun l => (h l).list l⟩

theorem Within.of_laws {s t : State} (a : Acted s t) (h : s.listLaws → Within s t) : Within s t :=
  ⟨a, fun l => (h l).list l⟩

/-- An entry found on the list ends, by any outcome. -/
theorem Kept.finishListed {s : State} {a : Axis} {e : MoveEntry} (h : s.entryOf a = some e) (o : AxisOutcome) (x : Int) :
    Kept s (s.finishEntry e o x) :=
  .of_laws (acted.finishEntry s e o x) fun l => .finishEntry (fun _ => State.run_of_entryOf l h) x

theorem Kept.supersede (s : State) (a : Axis) : Kept s (s.supersede a) := by
  unfold State.supersede
  split
  · exact .refl s
  · have h := (Kept.dropEntry s a).trans (.askWalk _)
    dsimp only
    split
    · exact h.trans (.endEntry _ _ _ _)
    · split
      · exact (h.trans (.cutMotor _ _ _)).trans (.settleOff _ _ _)
      · exact (h.trans (.cutMotor _ _ _)).trans (.endEntry _ _ _ _)
    · exact h.trans (.settleOff _ _ _)

theorem State.supersede_absent (s : State) (a : Axis) : a ∉ (s.supersede a).moves.entries.map (·.axis) := by
  unfold State.supersede
  split
  · rename_i h
    simp only [State.entryOf, List.find?_eq_none, beq_iff_eq] at h
    simpa using h
  · dsimp only
    have hd : a ∉ ((s.dropEntry a).askWalk).moves.entries.map (·.axis) := s.dropEntry_absent a
    split
    · rwa [State.endEntry_entries]
    · split
      · exact hd
      · rw [State.endEntry_entries]; exact hd
    · exact hd

/-- R61: an admission, which happens in RUN alone. -/
theorem Kept.place {s : State} (hr : s.power.state = .run) (e : MoveEntry) (hs : e.state ≠ .driving) :
    Kept s (s.place e) := by
  unfold State.place
  have h := (Kept.supersede s e.axis).trans (.askWalk _)
  dsimp only
  split
  · exact h.trans (.endEntry _ _ _ _)
  · refine h.trans (.insert (h.run hr) (s.supersede_absent e.axis) ?_ ?_)
    · rw [List.map_append]; exact List.perm_append_singleton _ _
    · rw [drawnOf_append, drawnOf_cons, if_neg hs]; rfl

theorem Kept.stopEntry (s : State) (e : MoveEntry) {h : StopHow} (ho : h.outcome ≠ .obstructed) :
    Kept s (s.stopEntry e h) := by
  unfold State.stopEntry
  split
  · exact .finishEntry (absurd · ho) _
  · have c := (Kept.cutMotor s e.axis false).trans (.askWalk _)
    dsimp only
    split
    · exact c.trans (.setEntry _ _ (by simp))
    · exact c.trans (.finishEntry (absurd · ho) _)
  · rename_i hs
    exact .setEntry s _ (by simp [hs])

theorem Kept.stopEntries (s : State) (pick : MoveEntry → Bool) {h : StopHow} (ho : h.outcome ≠ .obstructed) :
    Kept s (s.stopEntries pick h) := Kept.foldl (fun s e => .stopEntry s e ho) _ s

theorem Kept.returnToWaiting (s : State) (e : MoveEntry) : Kept s (s.returnToWaiting e) := by
  unfold State.returnToWaiting
  split
  · exact .finishEntry (fun h => by cases h) _
  · exact (Kept.setEntry s _ (by simp)).trans (.askWalk _)

theorem Kept.judge (s : State) (e : MoveEntry) : Kept s (s.judge e) := by
  unfold State.judge
  dsimp only
  repeat' split
  all_goals first
    | exact .finishEntry (fun h => by cases h) _
    | exact .returnToWaiting _ _

theorem Kept.rereference (s : State) (a : Axis) : Kept s (s.rereference a) := .modAxis s a _

theorem Kept.resolve {s : State} {a : Axis} {e : MoveEntry} (h : s.entryOf a = some e) : Kept s (s.resolve e) := by
  unfold State.resolve
  split
  · exact .judge _ _
  · exact .returnToWaiting _ _
  · exact .returnToWaiting _ _
  · exact .finishListed h _ _
  · exact (Kept.rereference s _).trans (.finishEntry (fun h => by cases h) _)

theorem Kept.resolveOff (s : State) (e : MoveEntry) : Kept s (s.resolveOff e) := by
  unfold State.resolveOff
  have h : Kept s { s with moves := { s.moves with offList := s.moves.offList.filter (·.axis != e.axis) } } :=
    .of_entries (.of_fields rfl rfl rfl) rfl id
  dsimp only
  split
  · exact h.trans (.endEntry _ _ _ _)
  · exact (h.trans (.rereference _ _)).trans (.endEntry _ _ _ _)
  all_goals exact h.trans (.endEntry _ _ _ _)

theorem Kept.resolveAxis (s : State) (a : Axis) : Kept s (s.resolveAxis a) := by
  unfold State.resolveAxis
  repeat' split
  · exact .resolveOff _ _
  · rename_i h _; exact .resolve h
  · exact .refl s
  · exact .refl s

theorem Kept.cutInto (s : State) (a : Axis) (b : Bool) (d : Disposition) : Kept s (s.cutInto a b d) := by
  unfold State.cutInto
  have c := (Kept.cutMotor s a b).trans (.askWalk _)
  dsimp only
  repeat' split
  · exact c.trans (.setEntry _ _ (by simp))
  · exact c
  · exact c

theorem Kept.cutEnding (s : State) (a : Axis) (o : AxisOutcome) : Kept s (s.cutEnding a o) := by
  unfold State.cutEnding
  have c := (Kept.cutMotor s a false).trans (.askWalk _)
  dsimp only
  split
  · rename_i h
    split
    · exact c.trans (.finishListed (s := (s.cutMotor a false).askWalk) (a := a) h o _)
    · exact c
  · exact c

theorem Kept.releaseJog (s : State) (r : JogRecord) : Kept s (s.releaseJog r) :=
  (Kept.modJogs s _ _).trans (.stopEntries _ _ (by decide))

theorem Kept.depart (s : State) (a : Axis) : Kept s (s.depart a) := by
  unfold State.depart
  dsimp only
  split
  · exact (Kept.modJogs s _ _).trans (.stopEntry _ _ (by decide))
  · exact Kept.modJogs s _ _

/-! ## Revocation -/

theorem Kept.revoke (s : State) (e : MoveEntry) : Kept s (s.revoke e) := by
  unfold State.revoke
  dsimp only
  split
  all_goals exact (Kept.cutMotor s e.axis false).trans (.setEntry _ _ (by simp))

theorem Kept.revokeWalk (l : List Axis) (s : State) (ex : List Axis) : Kept s (Machine.revokeWalk l s ex).1 := by
  induction l generalizing s ex with
  | nil => exact .refl s
  | cons a l ih =>
    unfold Machine.revokeWalk
    repeat' split
    · exact .refl s
    · exact (Kept.revoke s _).trans (ih _ _)
    · exact ih _ _
    · exact ih _ _

theorem Kept.revokeToFit (s : State) : Kept s s.revokeToFit.1 := by
  have h := Kept.revokeWalk (s.moves.entries.map (·.axis)).reverse s []
  unfold State.revokeToFit
  dsimp only
  split
  · exact h
  · exact h.trans (.askWalk _)

/-- R68: after its revocation no entry of the axis drives. -/
theorem State.revoke_entries (s : State) (e : MoveEntry) {x : MoveEntry} (hx : x ∈ (s.revoke e).moves.entries)
    (hd : x.state = .driving) : x.axis ≠ e.axis ∧ x ∈ s.moves.entries := by
  have aux : ∀ f : MoveEntry, f.axis = e.axis → f.state ≠ .driving →
      x ∈ s.moves.entries.map (fun y => if y.axis = f.axis then f else y) → x.axis ≠ e.axis ∧ x ∈ s.moves.entries := by
    intro f hfa hfs hm
    obtain ⟨y, hy, rfl⟩ := List.mem_map.mp hm
    by_cases hya : y.axis = f.axis
    · simp only [hya, if_true] at hd; exact absurd hd hfs
    · simp only [hya, if_false] at hd ⊢; exact ⟨hfa ▸ hya, hy⟩
  unfold State.revoke at hx
  dsimp only at hx
  split at hx
  · exact aux { e with state := .settling, timeLimit := none, disposition := some .resume } rfl (by simp) hx
  · exact aux { e with state := .waiting, timeLimit := none } rfl (by simp) hx

/-- R68: the revocation goes on until the demands fit, or until no entry that it has met drives. -/
theorem revokeWalk_fits (l : List Axis) (s : State) (ex : List Axis) (hl : s.listLaws)
    (h : ∀ e ∈ s.moves.entries, e.state = .driving → e.axis ∈ l) :
    (revokeWalk l s ex).1.drawn ≤ s.budget := by
  induction l generalizing s ex with
  | nil =>
    have : s.moves.entries.filter (·.state == .driving) = [] :=
      List.filter_eq_nil_iff.mpr fun e he hd => by cases h e he (by simpa using hd)
    show ((s.moves.entries.filter (·.state == .driving)).map fun e => demand e.axis).sum ≤ s.budget
    rw [this]
    exact Nat.zero_le _
  | cons a l ih =>
    unfold revokeWalk
    split
    · assumption
    · split
      · rename_i e he
        have hea : e.axis = a := by simpa using List.find?_some he
        split
        · have k := Kept.revoke s e
          rw [← k.budget]
          refine ih _ _ (k.list hl).1 fun x hx hd => ?_
          obtain ⟨hne, hm⟩ := s.revoke_entries e hx hd
          exact (List.mem_cons.mp (h x hm hd)).resolve_left (hea ▸ hne)
        · rename_i hns
          refine ih _ _ hl fun x hx hd => (List.mem_cons.mp (h x hx hd)).resolve_left fun hxa => ?_
          have hxe : x = e := List.inj_on_of_nodup_map hl.1 hx (List.mem_of_find?_eq_some he) (hxa.trans hea.symm)
          exact hns (hxe ▸ hd)
      · rename_i he
        refine ih _ _ hl fun x hx hd => (List.mem_cons.mp (h x hx hd)).resolve_left fun hxa => ?_
        simp only [State.entryOf, List.find?_eq_none, beq_iff_eq] at he
        exact he x hx hxa

theorem State.revokeToFit_fits (s : State) (hl : s.listLaws) : s.revokeToFit.1.withinBudget := by
  have h := revokeWalk_fits (s.moves.entries.map (·.axis)).reverse s [] hl fun e he _ => by
    simpa using ⟨e, he, rfl⟩
  have hb := (Kept.revokeToFit s).budget
  unfold State.withinBudget
  rw [hb]
  unfold State.revokeToFit
  dsimp only
  split <;> exact h

/-! ## The arbiter -/

/-- R64, R66: a grant that drives takes its demand from what the budget leaves. -/
theorem Within.grantDrive {s : State} {e : MoveEntry} (hr : s.power.state = .run)
    (hb : demand e.axis ≤ s.freeBudget) (d : Dir) (c : Option Int) : Within s (s.grantDrive e d c) := by
  have hgrant : ∀ f : MoveEntry, f.axis = e.axis →
      Within s ((s.setAxis e.axis ((s.axis e.axis).drive e.axis d c)).setEntry f) := by
    refine fun f hf => ⟨.of_fields rfl rfl rfl, fun l b => ⟨⟨?_, fun h => absurd hr h⟩, ?_⟩⟩
    · exact (congrArg List.Nodup (map_axis_replace f s.moves.entries)).mpr l.1
    · have h := drawnOf_replace_drive (e := f) l.1
      unfold State.freeBudget at hb
      have hs := s.drawn_eq
      have hb' : drawnOf s.moves.entries + demand f.axis ≤ s.budget := by
        unfold State.withinBudget at b; rw [hf]; omega
      exact h.trans hb'
  exact (hgrant { e with state := .driving, passCount := 0
                         timeLimit := some (s.timeLimitOf e.axis (s.axis e.axis).position e.kind) } rfl).trans
    (Kept.grantReport _ _).within

theorem Within.grant {s : State} {e : MoveEntry} (hr : s.power.state = .run) (hb : demand e.axis ≤ s.freeBudget) :
    Within s (s.grant e) := by
  unfold State.grant
  dsimp only
  repeat' split
  all_goals first
    | exact (Kept.finishEntry (fun h => by cases h) _).within
    | exact .grantDrive hr hb _ _

theorem Within.visit (ex : List Axis) (w : Walk) (a : Axis) (hr : w.state.power.state = .run) :
    Within w.state (Walk.visit ex w a).state := by
  unfold Walk.visit
  split
  · exact .refl _
  · split
    · exact .refl _
    · rename_i e he
      have hea : e.axis = a := by simpa using List.find?_some he
      repeat' split
      all_goals first
        | exact .refl _
        | (rename_i hb; exact .grant hr (hea ▸ hb))

theorem Within.visits (ex l : List Axis) (w : Walk) (hr : w.state.power.state = .run) :
    Within w.state (l.foldl (Walk.visit ex) w).state := by
  induction l generalizing w with
  | nil => exact .refl _
  | cons a l ih =>
    have h := Within.visit ex w a hr
    exact h.trans (ih _ (h.run hr))

theorem Within.walkOnce (s : State) (ex : List Axis) : Within s (s.walkOnce ex) := by
  unfold State.walkOnce
  split
  · rename_i hr
    exact (Within.visits ex _ { state := s } hr).trans (Kept.raisePass _ _).within
  · exact .refl s

theorem Within.walks (n : Nat) (ex : List Axis) (s : State) : Within s (State.walks n ex s) := by
  induction n generalizing ex s with
  | zero => exact .refl s
  | succ n ih =>
    unfold State.walks
    split
    · exact .refl s
    · exact ((Kept.withDue s _).within.trans (.walkOnce _ ex)).trans (ih _ _)

theorem Within.arbiter (s : State) (ex : List Axis) : Within s (s.arbiter ex) := .walks _ ex s

/-! ## The engine -/

theorem Within.admitOp (s : State) (a : Axis) (x : MoveKind) : Within s (s.admitOp a x) := by
  refine .of_laws (acted.admitOp s a x) fun l => ?_
  unfold State.admitOp
  split
  · exact .refl s
  · rename_i op ho
    have hr : s.power.state = .run := by
      by_contra h; rw [(l.2 h).2] at ho; cases ho
    exact (Kept.place hr _ (by simp)).within.trans (.arbiter _ _)

theorem Within.admitPhase (s : State) (f : OutcomeEntry → Option Int) (l : List Axis) : Within s (s.admitPhase f l) := by
  refine Within.foldl (fun t a => ?_) l s
  split
  · exact .admitOp _ _ _
  · exact .refl t

theorem Within.enterPhase2 (s : State) : Within s s.enterPhase2 :=
  (Kept.modActive _ _).within.trans (.admitPhase _ _ _)

theorem Within.enterPhase3 (s : State) : Within s s.enterPhase3 :=
  (Kept.modActive _ _).within.trans (.admitPhase _ _ _)

/-- R167: an operation starts in RUN alone. -/
theorem Kept.startOp {s : State} (hr : s.power.state = .run) (o : OpKind) (p : Port) (st : Stage) (x : Source)
    (es : List OutcomeEntry) (c : Confidence) : Kept s (s.startOp o p st x es c) :=
  ⟨.of_fields rfl rfl rfl, fun l => ⟨⟨l.1, fun h => absurd hr h⟩, Nat.le_refl _⟩⟩

theorem Within.startRecall {s : State} (hr : s.power.state = .run) (p : Port) (v : Vector (Option Int) 10)
    (x : Option (SlotIx × Nat)) : Within s (s.startRecall p v x) :=
  (Kept.startOp hr _ _ _ _ _ _).within.trans (.admitPhase _ _ _)

theorem Within.startUndo {s : State} (hr : s.power.state = .run) (p : Port) (r : HistoryRecord) :
    Within s (s.startUndo p r) := by
  unfold State.startUndo
  dsimp only
  refine Within.trans (Kept.within ?_) (.admitPhase _ _ _)
  exact (Kept.startOp hr .undo p .phase1 _ _ .lost).trans (.engine _ _ id)

theorem Within.startNormalise {s : State} (hr : s.power.state = .run) (p : Port) (a : Axis) :
    Within s (s.startNormalise p a) := (Kept.startOp hr _ _ _ _ _ _).within.trans (.admitOp _ _ _)

theorem Kept.startSlide {s : State} (hr : s.power.state = .run) (o : OpKind) (x : Source) : Kept s (s.startSlide o x) := by
  unfold State.startSlide
  have h := Kept.startOp hr o .vehicle .phase1 x [s.planAxis x .slide] .lost
  dsimp only
  split
  · exact h.trans (.place (h.run hr) _ (by simp))
  · exact h

theorem Kept.raiseExitState (s : State) (st : ExitState) (d : Nat) (c : Option ExitCause) (n : Nat) :
    Kept s (s.raiseExitState st d c n) := .raiseAt _ _ _

theorem Kept.disarm (s : State) (c : ExitCause) : Kept s (s.disarm c) := by
  unfold State.disarm; split
  · exact .refl s
  · exact (Kept.setArm _ _).trans (.raiseExitState _ _ _ _ _)

theorem State.run_of_exitMayStart {s : State} (h : s.exitMayStart = true) : s.power.state = .run := by
  simp only [State.exitMayStart, Bool.and_eq_true, beq_iff_eq] at h
  exact h.2

theorem Kept.startExit {s : State} (h : s.exitMayStart = true) (d : Nat) : Kept s (s.startExit d) := by
  have k := (Kept.setArm s none).trans (.raiseExitState _ .started 0 none s.table.counter)
  exact k.trans (.startSlide (k.run (State.run_of_exitMayStart h)) _ _)

theorem Kept.offerExit (s : State) : Kept s s.offerExit := by
  unfold State.offerExit; repeat' split
  · exact .refl s
  · rename_i h; exact .startExit h _
  · exact .refl s

theorem Kept.armExit (s : State) (d : Nat) : Kept s (s.armExit d) := by
  unfold State.armExit; split
  · rename_i h; exact .startExit h _
  · exact (Kept.setArm _ _).trans (.raiseExitState _ _ _ _ _)

theorem Kept.offerReturn (s : State) : Kept s s.offerReturn := by
  unfold State.offerReturn; repeat' split
  · exact .setAllowance _ _
  · rename_i h
    simp only [Bool.and_eq_true, beq_iff_eq] at h
    exact (Kept.setAllowance s false).trans (.startSlide (s := s.setAllowance false) h.2 _ _)
  · exact .refl s
  · exact .refl s

theorem Kept.handStamp (s : State) (op : Operation) : Kept s (s.handStamp op) := by
  unfold State.handStamp; repeat' split
  · exact (Kept.table s _).trans (.commit _ _)
  · exact .refl s
  · exact .refl s

theorem Kept.ite {s t : State} {c : Prop} [Decidable c] {f : State} (h : Kept s t) (hf : Kept t f) :
    Kept s (if c then f else t) := by
  split
  · exact h.trans hf
  · exact h

theorem Kept.closeOp (s : State) (op : Operation) : Kept s (s.closeOp op) := by
  unfold State.closeOp
  dsimp only
  have h := ((Kept.raiseAt s (opDonePorts op.requester) (.opDone op.kind op.tag op.result op.abortCause op.outcomes)).ite
    (c := (op.outcomes.any (·.planned)) = true) (.writeHistory _ op.history)).trans (.handStamp _ op)
  have h := h.ite (c := op.kind = .exit ∧ op.outcomes.any (·.planned) = true ∧ op.result ≠ .aborted)
    (.setAllowance _ true)
  split
  · exact h
  · exact (h.trans (.offerExit _)).trans (.offerReturn _)

theorem Kept.endOp (s : State) (op : Operation) : Kept s (s.endOp op) := by
  unfold State.endOp; split
  · exact (Kept.modAxis s op.normaliseAxis fun u => { u with confidence := op.startConfidence }).trans (.closeOp _ _)
  · exact .closeOp _ _

theorem Kept.disown (s : State) (op : Operation) : Kept s (s.disown op) := by
  refine (Kept.modActive s _).trans (.mapEntries _ _ (fun e => ?_) fun e => ?_)
  all_goals unfold MoveEntry.disown; split <;> rfl

theorem Kept.abortActive (s : State) (c : AbortCause) : Kept s (s.abortActive c) := by
  unfold State.abortActive
  split
  · exact .refl s
  · rename_i op0 _
    have h : Kept s ((s.disown op0).stopEntries (fun e => e.owner == .operation op0.id) byAbort) :=
      (Kept.disown s op0).trans (.stopEntries _ _ (by decide))
    dsimp only
    split
    · exact h
    · have h' := h.trans (.releaseActive _)
      split
      · exact h'.trans (.engine _ _ id)
      · exact h'.trans (.endOp _ _)

theorem Kept.setStops (s : State) (a : Axis) (x : Option Stops) : Kept s (s.setStops a x) := by
  unfold State.setStops; split
  · exact .van _ _
  · exact .refl s

theorem Within.enterLeg2 (s : State) (a : Axis) : Within s (s.enterLeg2 a) :=
  ((Kept.modAxis s _ _).trans (.modActive _ _)).within.trans (.admitOp _ _ _)

theorem Within.enterLeg3 (s : State) (a : Axis) (h : Int) (d1 : Nat) : Within s (s.enterLeg3 a h d1) := by
  unfold State.enterLeg3
  exact ((((Kept.setStops s a (some ⟨10, h - 10⟩)).trans (.modAxis _ _ _)).trans (.commit _ _)).trans
    (.modActive _ _)).within.trans (.admitOp _ _ _)

theorem Kept.failRange (s : State) (op : Operation) (a : Axis) (h : Int) : Kept s (s.failRange op a h) := by
  unfold State.failRange
  exact ((((Kept.setStops s a none).trans (.modAxis _ _ _)).trans (.commit _ _)).trans (.releaseActive _)).trans
    (.closeOp _ _)

theorem Within.advance (s : State) (op : Operation) : Within s (s.advance op) := by
  unfold State.advance
  split
  · unfold State.advanceLeg
    dsimp only
    repeat' split
    · exact .enterLeg2 _ _
    · exact .enterLeg3 _ _ _ _
    · exact (Kept.failRange _ _ _ _).within
    · exact ((Kept.releaseActive _).trans (.endOp _ _)).within
  · exact .enterPhase2 s
  · exact .enterPhase2 s
  · exact .enterPhase3 s
  · exact .enterPhase3 s
  · exact ((Kept.releaseActive _).trans (.closeOp _ _)).within

/-! ## The conclusion of an action -/

theorem Kept.closeJog (s : State) (r : JogRecord) : Kept s (s.closeJog r) := by
  have h : Kept s { s with moves := { s.moves with jogs := s.moves.jogs.filter (·.id != r.id) } } :=
    .of_entries (.of_fields rfl rfl rfl) rfl id
  exact h.trans (.writeHistory _ _)

theorem Within.nextWork (s : State) {t : State} (h : s.nextWork = some t) : Within s t := by
  unfold State.nextWork at h
  split at h
  · cases h; exact (Kept.closeJog _ _).within
  · split at h
    · rename_i op _
      cases h
      exact ((Kept.engine s { s.engine with closing := s.engine.closing.filter (·.id != op.id) } id).trans
        (.endOp _ _)).within
    · split at h
      · split at h
        · cases h
        · cases h; exact .advance _ _
      · cases h

theorem Within.concludeFor (n : Nat) (ex : List Axis) (s : State) : Within s (State.concludeFor n ex s) := by
  induction n generalizing ex s with
  | zero => exact .refl s
  | succ n ih =>
    unfold State.concludeFor
    split
    · rename_i t h
      exact ((Within.arbiter s ex).trans (.nextWork _ h)).trans (ih _ t)
    · exact .arbiter s ex

theorem Within.conclude (s : State) (ex : List Axis) : Within s (s.conclude ex) := .concludeFor _ ex s

/-- A conclusion after what let no entry drive. -/
theorem Kept.conclude {s t : State} (h : Kept s t) (ex : List Axis) : Within s (t.conclude ex) :=
  h.within.trans (.conclude t ex)

end Sys2Proof.Machine
end

section
/-! PROOF. The current law over every command (04, 09): what each command does beside the actions of the move list. -/

namespace Sys2Proof.Machine

/-! ## The laws over a command -/

/-- A change that keeps the current law. -/
def Lawful (s t : State) : Prop := s.currentLaws → t.currentLaws

theorem Lawful.refl (s : State) : Lawful s s := id

theorem Lawful.trans {s t u : State} (h : Lawful s t) (k : Lawful t u) : Lawful s u := k ∘ h

theorem Within.lawful {s t : State} (h : Within s t) : Lawful s t := fun ⟨one, budget, still, snap⟩ =>
  have ⟨⟨one', still'⟩, budget'⟩ := h.list ⟨one, still⟩ budget
  ⟨one', budget', still', h.snapshot snap⟩

theorem Kept.lawful {s t : State} (h : Kept s t) : Lawful s t := h.within.lawful

/-- R167: nothing on the list, and no active operation. -/
abbrev State.still (s : State) : Prop := s.moves.entries = [] ∧ s.engine.active = none

theorem State.currentLaws_of_still {s : State} (h : s.still) (hs : s.snapshotInParking) : s.currentLaws := by
  refine ⟨?_, ?_, fun _ => h, hs⟩
  · unfold State.oneEntryPerAxis; rw [h.1]; exact List.nodup_nil
  · unfold State.withinBudget; rw [s.drawn_eq, h.1]; exact Nat.zero_le _

/-- The laws read the list, the active operation, the vehicle record, the power state and the write in flight alone. -/
theorem Lawful.of_fields {s t : State} (hm : t.moves = s.moves) (he : t.engine = s.engine) (hv : t.monitor = s.monitor)
    (hp : t.power.state = s.power.state) (hw : t.store.write = s.store.write) : Lawful s t := by
  unfold Lawful State.currentLaws State.oneEntryPerAxis State.withinBudget State.drawn State.budget State.stillOutsideRun
    State.snapshotInParking
  rw [hm, he, hv, hp, hw]
  exact id

/-- A change of every axis unit changes the axis units alone. -/
theorem State.mapAxes_eq (s : State) (f : Axis → AxisUnit → AxisUnit) :
    ∃ v, s.mapAxes f = { s with axes := v } := by
  have aux : ∀ (l : List Axis) (t : State),
      ∃ v, l.foldl (fun t a => t.modAxis a (f a)) t = { t with axes := v } := by
    intro l
    induction l with
    | nil => exact fun t => ⟨t.axes, rfl⟩
    | cons a l ih =>
      intro t
      obtain ⟨v, hv⟩ := ih (t.modAxis a (f a))
      exact ⟨v, hv⟩
  exact aux allAxes s

theorem Lawful.modPort (s : State) (p : Port) (f : PortUnit → PortUnit) : Lawful s (s.modPort p f) :=
  .of_fields rfl rfl rfl rfl rfl

theorem Lawful.foldl {α : Type} {f : State → α → State} (hf : ∀ s a, Lawful s (f s a)) (l : List α) (s : State) :
    Lawful s (l.foldl f s) := by
  induction l generalizing s with
  | nil => exact .refl s
  | cons a l ih => exact (hf s a).trans (ih _)

/-! ## Power states -/

/-- R168: outside PARKING the write in flight is no snapshot. -/
theorem State.no_snapshot {s : State} (h : s.currentLaws) (hp : s.power.state ≠ .parking) {w : Write}
    (hw : s.store.write = some w) {i : Snapshot} (hi : w.image = .snapshot i) : i.consumed = true := by
  by_contra hc
  exact hp (h.2.2.2 w hw i hi (by simpa using hc))

theorem State.still_of_laws {s : State} (h : s.currentLaws) (hp : s.power.state ≠ .run) : s.still := h.2.2.1 hp

theorem State.enterWaking_still {s : State} (h : s.still) : s.enterWaking.still := by
  unfold State.enterWaking
  obtain ⟨v, hv⟩ := s.mapAxes_eq fun _ u => { u with intervalTimer := some 100, drove := false }
  rw [hv]; exact h

theorem State.enterPark_still {s : State} (h : s.still) : s.enterPark.still := by
  unfold State.enterPark
  obtain ⟨v, hv⟩ := s.mapAxes_eq fun _ u => { u with intervalTimer := none, drove := false }
  rw [hv]; exact h

theorem State.enterWaking_write (s : State) : s.enterWaking.store.write = s.store.write := by
  unfold State.enterWaking
  obtain ⟨v, hv⟩ := s.mapAxes_eq fun _ u => { u with intervalTimer := some 100, drove := false }
  rw [hv]

theorem Lawful.wake (s : State) (c : WakeCause) : Lawful s (s.wake c) := by
  unfold State.wake
  dsimp only
  split
  · rename_i hp
    intro h
    have hne : s.power.state ≠ .run := by rw [hp]; decide
    refine State.currentLaws_of_still (State.enterWaking_still (State.still_of_laws h hne)) fun w hw i hi hc => ?_
    rw [State.enterWaking_write] at hw
    have := State.no_snapshot h (by rw [hp]; decide) hw hi
    simp [hc] at this
  · exact .of_fields rfl rfl rfl rfl rfl
  · exact .refl s
  · exact .refl s

/-! ## The end of a write -/

/-- R158: the result of a write reaches power control alone, and only that of a snapshot moves it. -/
theorem State.handResult_frame (s : State) (w : Write) (ok : Bool) :
    (s.still → (s.handResult w ok).still) ∧
      ((∀ i, w.image = .snapshot i → i.consumed = true) → (s.handResult w ok).moves = s.moves ∧
        (s.handResult w ok).engine = s.engine ∧ (s.handResult w ok).monitor = s.monitor ∧
        (s.handResult w ok).power.state = s.power.state) := by
  unfold State.handResult
  have f := s.setStorage_frame w.block (storageAfter ok (s.commitWaits w.block))
  have hstill : s.still → (s.setStorage w.block (storageAfter ok (s.commitWaits w.block))).still := by
    unfold State.still; rw [f.moves, f.engine]; exact id
  have hsame := And.intro f.moves (And.intro f.engine (And.intro f.monitor (congrArg PowerControl.state f.power)))
  generalize s.setStorage w.block (storageAfter ok (s.commitWaits w.block)) = u at hstill hsame ⊢
  dsimp only
  split
  · split
    · refine ⟨fun h => ?_, fun _ => ?_⟩
      all_goals unfold State.consumeEnd; split
      all_goals first | exact hstill h | exact hsame
    · rename_i i hi hc
      refine ⟨fun h => ?_, fun hall => absurd (hall i hi) hc⟩
      unfold State.snapshotEnd
      repeat' split
      · exact State.enterWaking_still (s := u.setSnapshot .live) (hstill h)
      · exact State.enterPark_still (s := u.setSnapshot .live) (hstill h)
      · exact hstill h
  all_goals exact ⟨hstill, fun _ => hsame⟩

theorem State.raiseAt_fields (s : State) (ps : List Port) (e : Event) : (s.raiseAt ps e).moves = s.moves ∧
    (s.raiseAt ps e).engine = s.engine ∧ (s.raiseAt ps e).monitor = s.monitor ∧ (s.raiseAt ps e).power = s.power :=
  have h := s.raiseAt_only ps e
  ⟨h .moves (by simp), h .engine (by simp), h .monitor (by simp), h .power (by simp)⟩

/-- R59, R64, R167: the laws that do not speak of the write in flight. -/
abbrev State.motionLaws (s : State) : Prop := s.oneEntryPerAxis ∧ s.withinBudget ∧ s.stillOutsideRun

theorem State.motionLaws_of_same {s t : State} (hm : t.moves = s.moves) (he : t.engine = s.engine)
    (hv : t.monitor = s.monitor) (hp : t.power.state = s.power.state) (h : s.motionLaws) : t.motionLaws := by
  unfold State.motionLaws State.oneEntryPerAxis State.withinBudget State.drawn State.budget State.stillOutsideRun at *
  rwa [hm, he, hv, hp]

theorem State.motionLaws_of_still {s : State} (h : s.still) : s.motionLaws :=
  have ⟨one, budget, out, _⟩ := State.currentLaws_of_still (s := { s with store := {} }) h fun _ hw => by cases hw
  ⟨one, budget, out⟩

/-- R153, R168: an IDLE store has no write in flight but one that starts. -/
theorem State.storeIdle_currentLaws {s : State} (h : s.motionLaws) : s.storeIdle.currentLaws := by
  have f := State.startWrite_frame { s with store := { s.store with
    state := .idle, write := none, eraseTimer := none, programTimer := none } }
  obtain ⟨one, budget, out⟩ :=
    State.motionLaws_of_same (t := s.storeIdle) f.moves f.engine f.monitor (congrArg _ f.power) h
  exact ⟨one, budget, out, State.startWrite_snapshotInParking _ fun _ hw => by cases hw⟩

/-- R158: a write ends; a snapshot without the consumed marker was under way in PARKING, where the list is empty. -/
theorem Lawful.endWrite {s : State} {w v : Write} (hv : s.store.write = some v) (hi : v.image = w.image)
    (r : StoreResult) : Lawful s (s.endWrite w r) := by
  intro h
  refine State.storeIdle_currentLaws ?_
  obtain ⟨hstill, hsame⟩ := State.handResult_frame
    { s with store := { s.store with lastResult := some ⟨w.block, r, w.attempt⟩ } } w (r == .ok)
  obtain ⟨rm, re, rv, rp⟩ := State.raiseAt_fields _ [.fleet, .panel] (.storeResult w.block r w.attempt w.lastFailure
    w.onSpare (storageAfter (r == .ok) (s.commitWaits w.block)))
  refine State.motionLaws_of_same rm re rv (congrArg _ rp) ?_
  obtain ⟨one, budget, out, snap⟩ := h
  by_cases hall : ∀ i, w.image = .snapshot i → i.consumed = true
  · obtain ⟨hm, he, hv, hp⟩ := hsame hall
    exact State.motionLaws_of_same hm he hv hp ⟨one, budget, out⟩
  · obtain ⟨i, hw, hc⟩ : ∃ i, w.image = .snapshot i ∧ i.consumed = false := by simpa using hall
    have hpark := snap v hv i (hi.trans hw) hc
    exact State.motionLaws_of_still (hstill (out (by rw [hpark]; decide)))

/-! ## The array -/

/-- A write in flight is replaced by one of its image. -/
theorem Lawful.beginAttempt {s : State} {w v : Write} (hv : s.store.write = some v) (hi : v.image = w.image) :
    Lawful s (s.beginAttempt w) := fun ⟨one, budget, out, snap⟩ =>
  ⟨one, budget, out, fun x hx i hxi hc => by cases hx; exact snap v hv i (hi.trans hxi) hc⟩

theorem Lawful.afterFailure {s : State} {w v : Write} (hv : s.store.write = some v) (hi : v.image = w.image) :
    Lawful s (s.afterFailure w) := by
  unfold State.afterFailure
  split
  · exact .beginAttempt hv hi
  · split
    · exact .endWrite hv hi _
    · split
      · rename_i i _ _
        have hspare : Lawful s { s with store := { s.store with spare := some i } } := .of_fields rfl rfl rfl rfl rfl
        exact hspare.trans (.beginAttempt hv hi)
      · exact .endWrite hv hi _

theorem Lawful.failAttempt (s : State) (f : Failure) : Lawful s (s.failAttempt f) := by
  unfold State.failAttempt
  split
  · exact .refl s
  · rename_i w hw
    dsimp only
    generalize leftBlock f _ _ _ = left
    have h := fun r => Lawful.of_fields (s := s) (t := { (s.setBlock w.target left).bumpFree with
      store := { (s.setBlock w.target left).bumpFree.store with lastResult := r } }) rfl rfl rfl rfl rfl
    exact (h _).trans (.afterFailure (v := w) hw rfl)

theorem Lawful.eraseGood (s : State) : Lawful s s.eraseGood := by
  unfold State.eraseGood
  split
  · exact .refl s
  · rename_i w _
    exact Lawful.trans (t := s.setBlock w.target .blank) (.of_fields rfl rfl rfl rfl rfl)
      (.of_fields rfl rfl rfl rfl rfl)

theorem Lawful.eraseComplete (s : State) (good late : Bool) : Lawful s (s.eraseComplete good late) := by
  unfold State.eraseComplete
  repeat' split
  · exact .eraseGood s
  · exact .failAttempt s _
  · exact .refl s

theorem Lawful.programGood (s : State) : Lawful s s.programGood := by
  unfold State.programGood
  split
  · exact .refl s
  · rename_i w hw
    have hset : Lawful s (s.setBlock w.target (.valid w.image)) := .of_fields rfl rfl rfl rfl rfl
    have hw' : (s.setBlock w.target (.valid w.image)).store.write = some w := hw
    exact hset.trans (Lawful.endWrite hw' rfl .ok)

theorem Lawful.programComplete (s : State) (equal late : Bool) : Lawful s (s.programComplete equal late) := by
  unfold State.programComplete
  repeat' split
  · exact .programGood s
  · exact .failAttempt s _
  · exact .refl s

theorem Lawful.eraseTimerExpiry (s : State) : Lawful s s.eraseTimerExpiry := by
  unfold State.eraseTimerExpiry
  split
  · exact .failAttempt s _
  · exact .refl s

theorem Lawful.programTimerExpiry (s : State) : Lawful s s.programTimerExpiry := by
  unfold State.programTimerExpiry
  split
  · exact .failAttempt s _
  · exact .refl s

/-! ## The vehicle state monitor -/

/-- R68, R89: what a change of the record hands on fits the list into the new budget. -/
theorem handOn_within {s t : State} (hs : s.withinBudget) (hl : t.listLaws) (hd : t.drawn = s.drawn) :
    (handOn s t).1.listLaws ∧ (handOn s t).1.withinBudget := by
  have last : ∀ x : State, Kept t x → (if t.budget < s.budget then x.revokeToFit else (x, [])).1.listLaws ∧
      (if t.budget < s.budget then x.revokeToFit else (x, [])).1.withinBudget := by
    intro x k
    obtain ⟨lx, dx⟩ := k.list hl
    split
    · exact ⟨((Kept.revokeToFit x).list lx).1, x.revokeToFit_fits lx⟩
    · refine ⟨lx, ?_⟩
      have hb := k.budget
      unfold State.withinBudget at hs ⊢
      dsimp only
      omega
  refine last _ (((((?_ : Kept t _).ite (.offerExit _)).ite (.offerReturn _)).ite (.askWalk _)).ite (.askWalk _))
  split
  · split
    · exact .abortActive _ _
    · exact .refl t
  · exact .refl t

/-- R86, R87: a new record, with events raised and an exit disarmed: it is handed on, and the action concluded. -/
theorem Lawful.newRecord {s t : State} {m : Monitor} (k : Kept { s with monitor := m } t)
    (hd : t.moves.entries = s.moves.entries) : Lawful s ((handOn s t).1.conclude (handOn s t).2) := by
  rintro ⟨one, budget, out, snap⟩
  have hlist : t.listLaws := (k.list ⟨one, out⟩).1
  have hdrawn : t.drawn = s.drawn := by rw [t.drawn_eq, s.drawn_eq, hd]
  obtain ⟨hl, hb⟩ := handOn_within budget hlist hdrawn
  have hsnap : (handOn s t).1.snapshotInParking := (acted.handOn s t).snapshot (k.snapshot snap)
  exact (Within.conclude (handOn s t).1 (handOn s t).2).lawful ⟨hl.1, hb, hl.2, hsnap⟩

theorem State.disarm_entries (s : State) (c : ExitCause) : (s.disarm c).moves.entries = s.moves.entries := by
  unfold State.disarm
  split
  · rfl
  · rw [State.raiseExitState, ((s.setArm none).raiseAt_fields _ _).1]
    rfl

theorem Lawful.applyReport (s : State) (r : VehicleRecord) (c : Bool) : Lawful s (s.applyReport r c) := by
  unfold State.applyReport
  let m : Monitor := { fresh := true, record := r, freshTimer := some 500, lastIgnition := some r.ignition }
  have disarmed : ∀ (b : Prop) [Decidable b], Kept { s with monitor := m }
      (if b then { s with monitor := m }.disarm .ignition else { s with monitor := m }) ∧
      (if b then { s with monitor := m }.disarm .ignition else { s with monitor := m }).moves.entries =
        s.moves.entries := by
    intro b _
    split
    · exact ⟨.disarm _ _, State.disarm_entries _ _⟩
    · exact ⟨.refl _, rfl⟩
  obtain ⟨hk, he⟩ := disarmed (r.ignition = .run ∧ s.monitor.lastIgnition ≠ some .run)
  dsimp only
  split
  · exact .newRecord hk he
  · exact .newRecord (hk.trans (.raiseAt _ _ _)) ((congrArg _ (State.raiseAt_fields _ _ _).1).trans he)

theorem Lawful.freshnessExpiry (s : State) : Lawful s s.freshnessExpiry := by
  unfold State.freshnessExpiry
  split
  · exact .newRecord (m := { s.monitor with fresh := false, record := {}, freshTimer := none }) (.raiseAt _ _ _)
      (congrArg _ (State.raiseAt_fields _ _ _).1)
  · exact .refl s

/-! ## Requests -/

theorem Lawful.raiseKnown (s : State) (b : Bool) : Lawful s (s.raiseKnown b) := by
  unfold State.raiseKnown
  split
  · exact (Kept.raiseAt _ _ _).lawful
  · exact .refl s

theorem State.atRest_laws {s : State} (h : s.atRest = true) : s.still ∧ s.store.write = none := by
  simp only [State.atRest, Bool.and_eq_true, List.isEmpty_iff, Option.isNone_iff_eq_none] at h
  exact ⟨⟨h.1.1.1.1.1.2, h.1.1.1.1.2⟩, h.2⟩

theorem Lawful.snapshotOrWait (s : State) : Lawful s s.snapshotOrWait := by
  unfold State.snapshotOrWait
  split
  · exact .of_fields rfl rfl rfl rfl rfl
  · exact (Kept.commit s _).lawful

theorem Lawful.reqPark (s : State) : Lawful s s.reqPark.1 := by
  unfold State.reqPark
  split
  · rename_i h
    obtain ⟨still, hw⟩ := State.atRest_laws h
    have hparking : Lawful s
        { s with power := { s.power with state := .parking, wakePending := false, wakeCause := none } } := fun _ =>
      State.currentLaws_of_still still fun w hw' => by rw [hw] at hw'; cases hw'
    exact (hparking.trans (((Kept.disarm _ _).trans (.modJogs _ _ _)).conclude []).lawful).trans (.snapshotOrWait _)
  · exact .refl s

theorem Lawful.reqDeviceReset (s : State) : Lawful s s.reqDeviceReset.1 := by
  unfold State.reqDeviceReset State.resetPower
  obtain ⟨v, hv⟩ := s.mapAxes_eq AxisUnit.reset
  dsimp only
  rw [hv]
  have hreset : ∀ ps tb, Lawful s { s with axes := v, ports := ps, moves := {}, monitor := {}, table := tb, engine := {} } :=
    fun _ _ h => State.currentLaws_of_still ⟨rfl, rfl⟩ h.2.2.2
  split
  · exact (hreset _ _).trans (.wake _ _)
  · exact hreset _ _

theorem Within.assign (s : State) (id : Nat) : Within s (s.assign id) :=
  ((Kept.abortActive s .driverChanged).within.trans (.arbiter _ _)).trans
    (((Kept.table _ _).trans (.disarm _ _)).trans (.setAllowance _ _)).within

theorem Lawful.reqAssignDriver (s : State) (id : BitVec 32) (f : Byte) : Lawful s (s.reqAssignDriver id f).1 := by
  unfold State.reqAssignDriver
  split
  · dsimp only
    have h := Within.assign s id.toNat
    split
    · rename_i v slot hsome
      have hr : (s.assign id.toNat).power.state = .run := by
        split at hsome
        · rename_i hc
          simp only [State.autoRecallAllowed, Bool.and_eq_true, beq_iff_eq] at hc
          exact hc.2.2
        · cases hsome
      exact (((h.trans (.startRecall hr _ _ _)).trans (.conclude _ _)).trans (Kept.raiseAt _ _ _).within).lawful
    · exact ((h.trans (.conclude _ _)).trans (Kept.raiseAt _ _ _).within).lawful
  · exact .refl s

theorem Lawful.reqReleaseDriver (s : State) : Lawful s s.reqReleaseDriver.1 := by
  unfold State.reqReleaseDriver
  split
  · exact .refl s
  · refine Lawful.trans ?_ ((Kept.table _ _).trans (.raiseAt _ _ _)).lawful
    split
    · exact ((Kept.armExit s _).conclude []).lawful
    · exact .refl s

theorem Kept.modRecord (s : State) (i : SlotIx) (f : SlotRecord → SlotRecord) : Kept s (s.modRecord i f) := .table s _

theorem Kept.leaveDirty (s : State) (i : SlotIx) : Kept s (s.leaveDirty i) := .table s _

theorem Kept.becomeKnown (s : State) (b : Bool) (i : SlotIx) : Kept s (s.becomeKnown b i) := by
  unfold State.becomeKnown
  split
  · exact .table s _
  · exact .refl s

theorem Lawful.reqLoadProfile (s : State) (r : ProfileFields) (f : Byte) : Lawful s (s.reqLoadProfile r f).1 := by
  unfold State.reqLoadProfile
  dsimp only
  repeat' split
  · exact .refl s
  · exact .refl s
  · exact .refl s
  · exact .refl s
  · exact .refl s
  all_goals
    exact Lawful.trans (((Kept.modRecord s _ _).trans (.leaveDirty _ _)).trans (.becomeKnown _ _ _)).lawful
      ((Kept.commit _ _).lawful.trans (.raiseKnown _ _))

theorem Lawful.reqLoadDefault (s : State) (v : PositionFields) (e : Byte) : Lawful s (s.reqLoadDefault v e).1 := by
  unfold State.reqLoadDefault
  repeat' split
  · exact .refl s
  · exact .refl s
  · exact .refl s
  · exact ((Kept.table s _).trans (.commit _ _)).lawful

theorem Lawful.reqReadProfile (s : State) (x : Byte) (n : BitVec 32) : Lawful s (s.reqReadProfile x n).1 := by
  unfold State.reqReadProfile
  repeat' split
  all_goals exact .refl s

theorem Lawful.reqDeleteProfile (s : State) (id : BitVec 32) : Lawful s (s.reqDeleteProfile id).1 := by
  unfold State.reqDeleteProfile
  repeat' split
  · exact .refl s
  · exact .refl s
  · exact .refl s
  · exact .refl s
  · exact (((Kept.modRecord s _ _).trans (.leaveDirty _ _)).trans (.commit _ _)).lawful

theorem Lawful.reqPinProfile (s : State) (id : BitVec 32) (v : Byte) : Lawful s (s.reqPinProfile id v).1 := by
  unfold State.reqPinProfile
  repeat' split
  · exact .refl s
  · exact .refl s
  · exact .refl s
  · exact .refl s
  · exact ((Kept.table s _).trans (.commit _ _)).lawful

theorem Lawful.reqSyncMark (s : State) (i : Byte) (r : BitVec 16) : Lawful s (s.reqSyncMark i r).1 := by
  unfold State.reqSyncMark
  dsimp only
  repeat' split
  · exact .refl s
  · exact .refl s
  · exact .refl s
  · exact .refl s
  · exact .refl s
  · exact .refl s
  · exact (((Kept.modRecord s _ _).trans (.leaveDirty _ _)).trans (.commit _ _)).lawful

theorem Lawful.edit (s : State) (i : SlotIx) (f : Profile → Profile) : Lawful s (s.edit i f) := by
  rw [State.edit_eq]
  refine Lawful.trans (Kept.lawful ?_) (.raiseKnown _ _)
  refine Kept.trans (Kept.trans (Kept.trans ?_ (.becomeKnown _ _ _)) (.commit _ _)) (.raise _ _ _)
  refine Kept.trans (t := s.modRecord i fun _ => s.editedRecord i f) (.table s _) ?_
  unfold State.enterDirty
  split
  · exact .refl _
  · exact .table _ _

theorem Lawful.reqStore (s : State) : Lawful s s.reqStore.1 := by
  unfold State.reqStore
  repeat' split
  · exact .refl s
  · exact .refl s
  · exact .refl s
  · exact .refl s
  · exact .refl s
  · exact .edit s _ _

theorem Lawful.reqSetExitDistance (s : State) (d : Byte) : Lawful s (s.reqSetExitDistance d).1 := by
  unfold State.reqSetExitDistance
  repeat' split
  · exact .refl s
  · exact .refl s
  · exact .refl s
  · exact .refl s
  · exact .edit s _ fun p => { p with exit := d.toNat }

theorem Lawful.reqWriteCalibration (s : State) (y : Byte) (es : List CalEntry) :
    Lawful s (s.reqWriteCalibration y es).1 := by
  unfold State.reqWriteCalibration
  dsimp only
  repeat' split
  · exact .refl s
  · exact .refl s
  · exact .refl s
  · exact .refl s
  · exact ((Kept.van s _).trans (.commit _ _)).lawful

theorem Lawful.reqSetEnableMask (s : State) (m : BitVec 16) : Lawful s (s.reqSetEnableMask m).1 := by
  unfold State.reqSetEnableMask
  split
  · exact .refl s
  · dsimp only
    exact ((((Kept.van s _).trans (Kept.foldl Kept.depart _ _)).trans (.commit _ _)).conclude []).lawful

theorem Lawful.reqReadHistory (s : State) (i : Byte) : Lawful s (s.reqReadHistory i).1 := by
  unfold State.reqReadHistory
  split <;> exact .refl s

theorem State.run_of_not_refused {s : State} (h : ¬s.motionRefused = true) : s.power.state = .run := by
  simpa [State.motionRefused] using h

theorem Lawful.reqNormalise (s : State) (p : Port) (x : Byte) : Lawful s (s.reqNormalise p x).1 := by
  unfold State.reqNormalise
  split
  · exact .refl s
  · rename_i h
    repeat' split
    · exact .refl s
    · exact .refl s
    · exact .refl s
    · exact .refl s
    · exact .refl s
    · exact .refl s
    · dsimp only
      exact ((Within.startNormalise (State.run_of_not_refused h) _ _).trans (.conclude _ _)).lawful

theorem Kept.openNewJog {s : State} (hr : s.power.state = .run) (a : Axis) (d : Dir) : Kept s (s.openNewJog a d) := by
  unfold State.openNewJog
  have h : ∀ js, Kept s ({ s with moves := { s.moves with jogs := js } }.bumpId) := fun _ =>
    .of_entries (.of_fields rfl rfl rfl) rfl id
  exact (h _).trans (.place ((h _).run hr) _ (by simp))

theorem Within.newJog {s : State} (hr : s.power.state = .run) (a : Axis) (d : Dir) : Within s (s.newJog a d) := by
  have h : Within s (((((s.abortActive .user).arbiter []).modJogs (fun r => r.axis == a && !r.closing)
      JogRecord.supersede).modAxis a fun u => { u with halted := false })) :=
    ((Kept.abortActive s _).within.trans (.arbiter _ _)).trans ((Kept.modJogs _ _ _).trans (.modAxis _ _ _)).within
  exact h.trans ((Kept.openNewJog (h.run hr) a d).conclude [])

theorem Lawful.reqJog (s : State) (x d : Byte) : Lawful s (s.reqJog x d).1 := by
  unfold State.reqJog
  split
  · exact .refl s
  · rename_i h
    repeat' split
    · exact .refl s
    · exact (Kept.modJogs s _ _).lawful
    · exact .refl s
    · dsimp only
      exact (Within.newJog (State.run_of_not_refused h) _ _).lawful
    · exact .refl s

theorem Lawful.reqJogEnd (s : State) (x : Byte) : Lawful s (s.reqJogEnd x).1 := by
  unfold State.reqJogEnd
  repeat' split
  · exact .refl s
  · exact .refl s
  · exact .refl s
  · exact ((Kept.releaseJog s _).conclude []).lawful

theorem Lawful.reqRecall (s : State) : Lawful s s.reqRecall.1 := by
  unfold State.reqRecall
  split
  · exact .refl s
  · rename_i h
    repeat' split
    · exact .refl s
    · exact .refl s
    · exact .refl s
    · exact .refl s
    · exact .refl s
    · exact ((Within.startRecall (State.run_of_not_refused h) _ _ _).trans (.conclude _ _)).lawful

theorem Lawful.reqUndo (s : State) : Lawful s s.reqUndo.1 := by
  unfold State.reqUndo
  split
  · exact .refl s
  · rename_i h
    repeat' split
    · exact .refl s
    · exact .refl s
    · exact .refl s
    · exact .refl s
    · exact ((Within.startUndo (State.run_of_not_refused h) _ _).trans (.conclude _ _)).lawful

theorem Lawful.reqStopAll (s : State) : Lawful s s.reqStopAll.1 :=
  ((((Kept.abortActive s .stop).trans (.modJogs _ _ _)).trans (.stopEntries _ _ (by decide))).conclude []).lawful

theorem Lawful.handle (s : State) (p : Port) (r : Request) : Lawful s (s.handle p r).1 := by
  cases r with
  | vehicleState a b c d e => exact .applyReport s (decReport a b c d e).1 (decReport a b c d e).2
  | park => exact .reqPark s
  | deviceReset => exact .reqDeviceReset s
  | assignDriver id f => exact .reqAssignDriver s id f
  | releaseDriver => exact .reqReleaseDriver s
  | loadProfile r f => exact .reqLoadProfile s r f
  | loadDefault v e => exact .reqLoadDefault s v e
  | readProfile x n => exact .reqReadProfile s x n
  | deleteProfile id => exact .reqDeleteProfile s id
  | pinProfile id v => exact .reqPinProfile s id v
  | syncMark i r => exact .reqSyncMark s i r
  | writeCalibration y es => exact .reqWriteCalibration s y es
  | setEnableMask m => exact .reqSetEnableMask s m
  | readHistory i => exact .reqReadHistory s i
  | normalise a => exact .reqNormalise s p a
  | jog a d => exact .reqJog s a d
  | jogEnd a => exact .reqJogEnd s a
  | store => exact .reqStore s
  | undo => exact .reqUndo s
  | setExitDistance d => exact .reqSetExitDistance s d
  | stopAll => exact .reqStopAll s
  | readDirty | readVanRecord | readCounters | readStoreStatus | readAxes => exact .refl s
  -- RECALL alone is left: its name is a keyword of Mathlib's
  | _ => exact .reqRecall s

/-! ## Transactions -/

theorem Lawful.serve (s : State) (p : Port) (r : Request) : Lawful s (s.serve p r) :=
  (Lawful.handle s p r).trans (.modPort _ _ _)

theorem Lawful.takeRequest (s : State) (p : Port) : Lawful s (s.takeRequest p) := by
  unfold State.takeRequest
  repeat' split
  · exact .refl s
  · refine (Lawful.modPort s p fun u => { u with request := none }).trans ?_
    unfold State.answerFrame
    split
    · exact .serve _ _ _
    all_goals exact .modPort _ _ _
  · exact .refl s

theorem Lawful.openWrite (s : State) (p : Port) : Lawful s (s.openWrite p) := by
  unfold State.openWrite
  split
  · exact .refl s
  · exact .wake _ _

theorem Lawful.submit (s : State) (p : Port) (r : Request) : Lawful s (s.submit p r) := by
  have h := (Lawful.openWrite s p).trans (.modPort _ p fun u =>
    { u with selected := none, dataOut := List.replicate r.frame.length 0 })
  unfold State.submit
  dsimp only
  repeat' split
  · exact h.trans (.serve _ _ _)
  · exact h.trans (.modPort _ _ _)
  · exact (h.trans (.modPort _ _ _)).trans (.takeRequest _ _)

theorem Lawful.writeFrame (s : State) (p : Port) (f : List Byte) : Lawful s (s.writeFrame p f) :=
  (((Lawful.openWrite s p).trans (.modPort _ _ _)).trans (.modPort _ _ _)).trans (.takeRequest _ _)

theorem Lawful.readResponse (s : State) (p : Port) (n : Nat) : Lawful s (s.readResponse p n) := by
  unfold State.readResponse
  dsimp only
  split
  · exact (Lawful.modPort s p _).trans ((Lawful.modPort _ p _).trans (.takeRequest _ _))
  · exact .modPort _ _ _

theorem Lawful.readEvent (s : State) (p : Port) (n : Nat) : Lawful s (s.readEvent p n) := by
  unfold State.readEvent
  dsimp only
  split
  · exact (Lawful.modPort s p _).trans (.modPort _ _ _)
  · exact .modPort _ _ _

theorem Lawful.readPortStatus (s : State) (p : Port) (n : Nat) : Lawful s (s.readPortStatus p n) := by
  unfold State.readPortStatus
  dsimp only
  split
  · exact (Lawful.modPort s p _).trans (.modPort _ _ _)
  · exact .modPort _ _ _

theorem Lawful.transact (s : State) (p : Port) (h : Byte) (sent : List Byte) : Lawful s (s.transact p h sent) := by
  unfold State.transact
  split
  · exact .writeFrame s p sent
  · exact .readResponse s p _
  · exact .readEvent s p _
  · exact .readPortStatus s p _
  · exact .modPort s p _

theorem Lawful.takeHeld (s : State) : Lawful s s.takeHeld := by
  unfold State.takeHeld
  split
  · exact .refl s
  · exact .takeRequest s _
  · exact Lawful.trans (t := s.bumpFree) (.of_fields rfl rfl rfl rfl rfl) (Lawful.foldl Lawful.takeRequest _ _)

/-! ## The sensors and the axis timers -/

theorem Lawful.hallPulse (s : State) (a : Axis) : Lawful s (s.hallPulse a) := by
  unfold State.hallPulse
  split
  · split
    · unfold State.strayPulse
      dsimp only
      split
      · exact (Kept.setAxis s _ _).lawful
      · exact ((Kept.setAxis s _ _).trans (.raiseAt _ _ _)).lawful
    · rename_i d _
      have h := (Kept.modAxis s a (·.countPulse d)).trans (.modActive _ (·.countLeg1 a))
      dsimp only
      split
      · exact ((h.trans (.cutInto _ _ _ _)).conclude []).lawful
      · exact h.lawful
  · exact .refl s

theorem Lawful.driveSample (s : State) (a : Axis) : Lawful s (s.driveSample a) := by
  unfold State.driveSample
  repeat' split
  · exact ((((Kept.cutMotor s _ _).trans (.askWalk _)).trans (.judge _ _)).conclude []).lawful
  · exact (Kept.modAxis s _ _).lawful
  · exact (Kept.modAxis s _ _).lawful
  · exact (Kept.modAxis s _ _).lawful

theorem Lawful.setFault (s : State) (a : Axis) : Lawful s (s.setFault a) := by
  unfold State.setFault
  dsimp only
  split
  · exact ((((Kept.modAxis s _ _).trans (.raiseAt _ _ _)).trans (.cutEnding _ _ _)).conclude []).lawful
  · exact ((Kept.modAxis s _ _).trans (.raiseAt _ _ _)).lawful

theorem Lawful.mirrorSample (s : State) (a : Axis) (raw : BitVec 10) : Lawful s (s.mirrorSample a raw) := by
  unfold State.mirrorSample
  have h := (Kept.modAxis s a (·.takeSample raw)).lawful
  dsimp only
  repeat' split
  · exact h
  · exact h.trans (.setFault _ _)
  · exact h.trans (.driveSample _ _)
  · exact h.trans (Kept.modAxis _ _ _).lawful
  · exact .refl s

theorem Lawful.coastWaitOver (s : State) : Lawful s s.coastWaitOver := by
  unfold State.coastWaitOver
  split
  · have h : Lawful s { s with power := { s.power with coastWait := false } } := .of_fields rfl rfl rfl rfl rfl
    exact h.trans (Kept.commit _ _).lawful
  · exact .refl s

theorem Lawful.coastEnd (s : State) (a : Axis) : Lawful s (s.coastEnd a) := by
  unfold State.coastEnd
  split
  · exact (((Kept.modAxis s a (·.endCoast)).trans (.askWalk _)).trans (.resolveAxis _ a)).conclude [] |>.lawful.trans
      (.coastWaitOver _)
  · exact .refl s

theorem Lawful.stall (s : State) (a : Axis) : Lawful s (s.stall a) := by
  unfold State.stall
  have h := Kept.modAxis s a fun u => { u with stallPos := u.position }
  dsimp only
  repeat' split
  · exact ((h.trans (.cutEnding _ _ _)).conclude []).lawful
  · exact ((h.trans (.cutInto _ _ _ _)).conclude []).lawful
  · exact ((h.trans (.cutEnding _ _ _)).conclude []).lawful
  · exact .refl s

theorem Lawful.heatInterval (s : State) (a : Axis) : Lawful s (s.heatInterval a) := by
  unfold State.heatInterval
  have h := (Kept.modAxis s a (·.stepHeat)).lawful
  dsimp only
  split
  · split
    · refine h.trans ?_
      unfold State.becomeHot
      repeat' split
      · exact (((Kept.cutEnding _ a .hot).trans (.modAxis _ _ _)).conclude []).lawful
      · rename_i he _
        exact ((Kept.finishListed he .hot _).conclude []).lawful
      · exact .refl _
      · exact .refl _
    · exact h
  · exact .refl s

theorem Lawful.runTimeInterval (s : State) (a : Axis) : Lawful s (s.runTimeInterval a) := by
  unfold State.runTimeInterval
  split
  · exact (Kept.modAxis s _ _).lawful
  · exact .refl s

theorem Lawful.timeLimitExpiry (s : State) (a : Axis) : Lawful s (s.timeLimitExpiry a) := by
  unfold State.timeLimitExpiry
  repeat' split
  · exact .refl s
  · exact ((Kept.cutInto s _ _ _).conclude []).lawful
  · exact ((Kept.cutEnding s _ _).conclude []).lawful
  · exact .refl s

theorem Lawful.keepAliveExpiry (s : State) (a : Axis) : Lawful s (s.keepAliveExpiry a) := by
  unfold State.keepAliveExpiry
  repeat' split
  · exact .refl s
  · exact ((Kept.releaseJog s _).conclude []).lawful
  · exact .refl s

theorem Lawful.progressExpiry (s : State) : Lawful s s.progressExpiry := by
  unfold State.progressExpiry
  split
  · exact ((Kept.abortActive s _).conclude []).lawful
  · exact .refl s

/-! ## Supply -/

theorem Lawful.settleExpiry (s : State) : Lawful s s.settleExpiry := by
  unfold State.settleExpiry
  split
  · rename_i hw
    obtain ⟨v, hv⟩ := s.mapAxes_eq fun _ u => u.newIdle
    dsimp only
    rw [hv]
    have hrun : Lawful s { s with axes := v, monitor := {}, power := { s.power with state := .run, settleTimer := none } } :=
      fun h => State.currentLaws_of_still (State.still_of_laws (s := s) h (by rw [hw.1]; decide)) fun x hx i hxi hc => by
        have := State.no_snapshot h (by rw [hw.1]; decide) hx hxi
        simp [hc] at this
    exact (hrun.trans ((Kept.commit _ _).trans (.raise _ _ _)).lawful).trans (.takeHeld _)
  · exact .refl s

theorem State.applySupply_currentLaws (s : State) (x : BitVec 10) (l : List PhysIx) : (s.applySupply x l).currentLaws := by
  unfold State.applySupply
  have h : (loaded (decay s.store.blocks l) (fittedFrom x) s.model s.pending).currentLaws :=
    State.currentLaws_of_still ⟨rfl, rfl⟩ fun _ hw => by cases hw
  dsimp only
  split
  · exact (Kept.commit _ _).lawful h
  · exact h

theorem State.loseSupply_currentLaws (s : State) (t : TornAs) : (s.loseSupply t).currentLaws :=
  State.currentLaws_of_still ⟨rfl, rfl⟩ fun _ hw => by cases hw

/-! ## The commands -/

theorem Lawful.live {f : State → State} (h : ∀ s, Lawful s (f s)) {s t : State} (e : Machine.live f s = .next t) :
    Lawful s t := by
  unfold Machine.live at e
  cases e
  split
  · exact h s
  · exact .refl s

/-- Every command keeps the current law. -/
theorem Lawful.exec (c : Instr) {s t : State} (e : Machine.exec c s = .next t) : Lawful s t := by
  by_cases h : ∃ p r, c.request = some (p, r)
  · obtain ⟨p, r, h⟩ := h
    exact .live (Lawful.submit · p r) ((exec_request h s).symm.trans e)
  · cases c with
    | writeRequest p f => exact .live (Lawful.writeFrame · p f) e
    | writeRequestHeader p => exact .live (fun s => (Lawful.modPort s p _).trans (.wake _ _)) e
    | readResponse p n => exact .live (Lawful.readResponse · p n) e
    | readEvent p n => exact .live (Lawful.readEvent · p n) e
    | readPortStatus p n => exact .live (Lawful.readPortStatus · p n) e
    | disregardedTransaction p x n => exact .live (Lawful.transact · p x (List.replicate n 0)) e
    | hallPulse a => exact .live (Lawful.hallPulse · a) e
    | mirrorSample a raw => exact .live (Lawful.mirrorSample · a raw) e
    | doorWakeEdge => exact .live (Lawful.wake · .door) e
    | powerOn x l =>
      cases e
      split
      · exact .refl s
      · exact fun _ => s.applySupply_currentLaws x l
    | supplyLoss t => exact .live (fun s _ => s.loseSupply_currentLaws t) e
    | coastEnd a => exact .live (Lawful.coastEnd · a) e
    | stall a => exact .live (Lawful.stall · a) e
    | heatInterval a => exact .live (Lawful.heatInterval · a) e
    | runTimeInterval a => exact .live (Lawful.runTimeInterval · a) e
    | timeLimitExpiry a => exact .live (Lawful.timeLimitExpiry · a) e
    | keepAliveExpiry a => exact .live (Lawful.keepAliveExpiry · a) e
    | progressTimerExpiry => exact .live Lawful.progressExpiry e
    | freshnessExpiry => exact .live Lawful.freshnessExpiry e
    | settleExpiry => exact .live Lawful.settleExpiry e
    | eraseTimerExpiry => exact .live Lawful.eraseTimerExpiry e
    | eraseComplete g l => exact .live (Lawful.eraseComplete · g l) e
    | programTimerExpiry => exact .live Lawful.programTimerExpiry e
    | programComplete g l => exact .live (Lawful.programComplete · g l) e
    | chipSelectAsserted p => exact .live (fun s => Lawful.modPort s p _) e
    | _ => exact absurd ⟨_, _, rfl⟩ h

end Sys2Proof.Machine

namespace Sys2Proof

open Machine

/-- Settles O8: an entry comes to drive by a grant that the budget covers; a fall of the budget revokes until the demands
fit; and outside RUN nothing is admitted. -/
theorem budgetNeverExceeded : Obligations.BudgetNeverExceeded := by
  unfold Obligations.BudgetNeverExceeded
  intro s t h e
  unfold step at e
  split at e
  · cases e; exact h
  · exact Lawful.exec _ e h

end Sys2Proof
end

section
/-! PROOF. Request frames (11): a frame of a request parses as that request at the ports that carry it; a request command
is the WRITE_REQUEST of its frame (10, log 12). -/

namespace Sys2Proof

/-! ## Fields -/

@[simp] theorem dec16_extract (x : BitVec 16) : dec16 (x.extractLsb' 8 8) (x.extractLsb' 0 8) = x :=
  (BitVec.extractLsb'_append_extractLsb'_eq_extractLsb' rfl).trans BitVec.extractLsb'_eq_self

@[simp] theorem dec32_extract (x : BitVec 32) :
    dec32 (x.extractLsb' 24 8) (x.extractLsb' 16 8) (x.extractLsb' 8 8) (x.extractLsb' 0 8) = x := by
  have high : x.extractLsb' 24 8 ++ x.extractLsb' 16 8 = x.extractLsb' 16 16 :=
    BitVec.extractLsb'_append_extractLsb'_eq_extractLsb' rfl
  have low : x.extractLsb' 8 8 ++ x.extractLsb' 0 8 = x.extractLsb' 0 16 :=
    BitVec.extractLsb'_append_extractLsb'_eq_extractLsb' rfl
  show (x.extractLsb' 24 8 ++ x.extractLsb' 16 8) ++ (x.extractLsb' 8 8 ++ x.extractLsb' 0 8) = x
  rw [high, low]
  exact (BitVec.extractLsb'_append_extractLsb'_eq_extractLsb' rfl).trans BitVec.extractLsb'_eq_self

/-- R190: the ten position fields, read back. -/
theorem decPositions_bytes (v : PositionFields) : decPositions v.bytes = some v := by
  obtain ⟨⟨l⟩, hl⟩ := v
  match l, hl with
  | [_, _, _, _, _, _, _, _, _, _], _ => simp [PositionFields.bytes, enc16, decPositions]

/-- R191: the entries of a WRITE_CALIBRATION, read back. -/
theorem decEntries_flatMap (es : List CalEntry) : decEntries es.length (es.flatMap CalEntry.bytes) = some es := by
  induction es with
  | nil => rfl
  | cons e es ih => simp [CalEntry.bytes, enc16, decEntries, ih]

/-- The fields of a profile record, split behind the positions. -/
theorem PositionFields.take_drop_bytes (v : PositionFields) (rest : List Byte) :
    decPositions ((v.bytes ++ rest).take 20) = some v ∧ (v.bytes ++ rest).drop 20 = rest :=
  ⟨by rw [List.take_left' v.length_bytes, decPositions_bytes], List.drop_left' v.length_bytes⟩

/-- R190: the fields of LOAD_PROFILE. -/
theorem decBody_loadProfile (r : ProfileFields) (f : Byte) :
    decBody 6 (Request.loadProfile r f).body = some (.loadProfile r f) := by
  obtain ⟨htake, hdrop⟩ := r.positions.take_drop_bytes [r.exit, f]
  show (match decPositions ((r.positions.bytes ++ [r.exit, f]).take 20), (r.positions.bytes ++ [r.exit, f]).drop 20 with
    | some v, [e, f] => some (Request.loadProfile ⟨dec32 _ _ _ _, dec16 _ _, v, e⟩ f)
    | _, _ => none) = _
  rw [htake, hdrop, dec32_extract, dec16_extract]

/-- R190: the fields of LOAD_DEFAULT. -/
theorem decBody_loadDefault (v : PositionFields) (e : Byte) :
    decBody 7 (Request.loadDefault v e).body = some (.loadDefault v e) := by
  obtain ⟨htake, hdrop⟩ := v.take_drop_bytes [e]
  show (match decPositions ((v.bytes ++ [e]).take 20), (v.bytes ++ [e]).drop 20 with
    | some v, [e] => some (Request.loadDefault v e)
    | _, _ => none) = _
  rw [htake, hdrop]

/-- R191: the fields of WRITE_CALIBRATION. -/
theorem decBody_writeCalibration (y : Byte) {es : List CalEntry} (h : es.length ≤ 10) :
    decBody 13 (Request.writeCalibration y es).body = some (.writeCalibration y es) := by
  have hlen : (BitVec.ofNat 8 es.length).toNat = es.length := by
    rw [BitVec.toNat_ofNat]; exact Nat.mod_eq_of_lt (by omega)
  show (decEntries (BitVec.ofNat 8 es.length).toNat (es.flatMap CalEntry.bytes)).map (Request.writeCalibration y ·) = _
  rw [hlen, decEntries_flatMap]
  rfl

/-- R188 to R191: a request's fields, read by its code, are that request. -/
theorem decBody_body (r : Request) (h : ∀ y es, r = .writeCalibration y es → es.length ≤ 10) :
    decBody r.code.toNat r.body = some r := by
  cases r with
  | loadProfile r f => exact decBody_loadProfile r f
  | loadDefault v e => exact decBody_loadDefault v e
  | writeCalibration y es => exact decBody_writeCalibration y (h y es rfl)
  | assignDriver id f => exact congrArg (fun id => some (Request.assignDriver id f)) (dec32_extract id)
  | readProfile x n => exact congrArg (fun n => some (Request.readProfile x n)) (dec32_extract n)
  | deleteProfile id => exact congrArg (fun id => some (Request.deleteProfile id)) (dec32_extract id)
  | pinProfile id v => exact congrArg (fun id => some (Request.pinProfile id v)) (dec32_extract id)
  | syncMark i r => exact congrArg (fun r => some (Request.syncMark i r)) (dec16_extract r)
  | setEnableMask m => exact congrArg (fun m => some (Request.setEnableMask m)) (dec16_extract m)
  | _ => rfl

theorem Request.code_range (r : Request) : 1 ≤ r.code.toNat ∧ r.code.toNat ≤ lastRequestCode := by
  cases r <;> exact ⟨by simp [Request.code], by simp [Request.code, lastRequestCode]⟩

/-- R179: a frame that fits a request buffer passes the checks up to that of the port. -/
theorem Request.parse_frame (p : Port) (r : Request) (h : r.frame.length ≤ 100) :
    Request.parse p r.frame = if codeCarriedAt r.code.toNat p then .request r else .wrongPort r.code := by
  have hcal : ∀ y es, r = .writeCalibration y es → es.length ≤ 10 := by
    rintro y es rfl
    simp [Request.frame, Request.body, List.length_flatMap] at h
    omega
  have hframe : r.frame.length = r.body.length + 2 := rfl
  have hlen : (BitVec.ofNat 8 (r.body.length + 2)).toNat = r.body.length + 2 := by
    rw [BitVec.toNat_ofNat]; exact Nat.mod_eq_of_lt (by omega)
  obtain ⟨hlow, hhigh⟩ := r.code_range
  unfold Request.frame Request.parse
  dsimp only
  rw [if_neg (by rw [hlen]; simp; omega), if_neg (by omega)]
  cases hc : codeCarriedAt r.code.toNat p
  · rfl
  · simp [decBody_body r hcal]

/-- Settles O3, by the reading of each request's fields. -/
theorem requestFrameRoundTrip : Obligations.RequestFrameRoundTrip := by
  unfold Obligations.RequestFrameRoundTrip
  intro p r hc h
  rw [r.parse_frame p (r.length_frame_le h), if_pos hc]

namespace Machine

/-- R188: a frame that fits a request buffer is kept whole. -/
theorem received_fits {frame : List Byte} (h : frame.length ≤ 100) : received frame = { bytes := frame } := by
  unfold received maxFrame
  rw [List.take_of_length_le h, decide_eq_false (by omega)]

@[simp] theorem State.setPort_port (s : State) (p : Port) : s.setPort p (s.port p) = s := by
  cases p <;> rfl

/-- R178, R179: a frame that finds both buffers empty, in RUN or PARKING, is checked at once. -/
theorem State.takeRequest_receive {t : State} {p : Port} {frame : List Byte} (hq : (t.port p).request = none)
    (hr : (t.port p).response = none) (ht : t.takes = true) :
    (t.modPort p (·.receive frame)).takeRequest p = t.answerFrame p (received frame) := by
  have hport : (t.modPort p (·.receive frame)).port p = { t.port p with request := some (received frame) } := by
    rw [State.port_modPort_same]; unfold PortUnit.receive; rw [hq]
  have htaken : (t.modPort p (·.receive frame)).takes = true := ht
  have hback : (t.modPort p (·.receive frame)).modPort p (fun u => { u with request := none }) = t := by
    unfold State.modPort at hport ⊢
    rw [hport, State.setPort_setPort]
    have hunit : ({ t.port p with request := none } : PortUnit) = t.port p := by rw [← hq]
    show t.setPort p { t.port p with request := none } = t
    rw [hunit, State.setPort_port]
  unfold State.takeRequest
  rw [hport]
  dsimp only
  rw [if_pos ⟨by rw [hr]; rfl, htaken⟩, hback]

/-- Log 12: a request's submission is the writing of its frame. -/
theorem State.submit_eq_writeFrame (s : State) (p : Port) (r : Request) : s.submit p r = s.writeFrame p r.frame := by
  unfold State.submit State.writeFrame
  generalize (s.openWrite p).endTransaction p _ = t
  dsimp only
  split
  · rename_i h
    simp only [State.takesNow, Bool.and_eq_true, Option.isNone_iff_eq_none, decide_eq_true_eq] at h
    obtain ⟨⟨⟨hq, hr⟩, ht⟩, hl⟩ := h
    rw [State.takeRequest_receive hq hr ht, received_fits hl, State.answerFrame, r.parse_frame p hl]
    split <;> rfl
  · rfl

end Machine

open Machine

/-- Settles O4: the frame is parsed back into its request, so that taking it at once or from the buffer is the same. -/
theorem requestCommandIsItsWrite : Obligations.RequestCommandIsItsWrite := by
  unfold Obligations.RequestCommandIsItsWrite
  intro c p r s h
  rw [exec_request h]
  exact congrArg (fun t => Host.Outcome.next (if s.powered then t else s)) (s.submit_eq_writeFrame p r)

end Sys2Proof
end

section
/-! PROOF. The port units' transactions (10), the wake causes (09) and the state after reset. -/

namespace Sys2Proof.Machine

/-! ## Every axis unit -/

theorem State.axis_foldl_modAxis (f : Axis → AxisUnit → AxisUnit) (l : List Axis) (hl : l.Nodup) (s : State) (b : Axis) :
    (l.foldl (fun t a => t.modAxis a (f a)) s).axis b = if b ∈ l then f b (s.axis b) else s.axis b := by
  induction l generalizing s with
  | nil => simp
  | cons a l ih =>
    obtain ⟨ha, hl'⟩ := List.nodup_cons.mp hl
    rw [List.foldl_cons, ih hl']
    by_cases h : b = a
    · subst h; simp [ha]
    · simp [h]

@[simp] theorem State.axis_mapAxes (s : State) (f : Axis → AxisUnit → AxisUnit) (a : Axis) :
    (s.mapAxes f).axis a = f a (s.axis a) := by
  rw [State.mapAxes, State.axis_foldl_modAxis f allAxes (by decide), if_pos (by revert a; decide)]

theorem State.axis_congr {s t : State} (h : t.axes = s.axes) (a : Axis) : t.axis a = s.axis a := by
  unfold State.axis; rw [h]

/-! ## Wake causes -/

/-- R170: a powered part takes the door wake edge, or header byte 51 after it is noted for the transaction. -/
theorem exec_doorWakeEdge {s : State} (h : s.powered = true) : exec .doorWakeEdge s = .next (s.wake .door) :=
  congrArg Host.Outcome.next (if_pos h)

theorem exec_writeRequestHeader {s : State} (h : s.powered = true) (p : Port) :
    exec (.writeRequestHeader p) s = .next (State.wake (s.setPort p { s.port p with
      selected := some { s.selected p with header := true } }) (.port p)) := congrArg Host.Outcome.next (if_pos h)

theorem State.wake_waking {s : State} (h : s.power.state = .waking) (c : WakeCause) : s.wake c = s := by
  unfold State.wake; simp [h]

theorem State.wake_parking {s : State} (h : s.power.state = .parking) (c : WakeCause) : s.wake c = s.wakeNoted c := by
  unfold State.wake; simp [h, State.wakeNoted]

theorem State.wake_park {s : State} (h : s.power.state = .park) (c : WakeCause) :
    s.wake c = { s with power := { s.power with wakeCause := s.power.wakeCause.or (some c) } }.enterWaking := by
  unfold State.wake; simp [h]

/-- R171: entry into WAKING, part by part. -/
theorem State.enterWaking_effect (s : State) : s.onlyIn s.enterWaking [.power, .monitor, .axes] ∧
    s.enterWaking.power = { s.power with state := .waking, wakePending := false, settleTimer := some 40 } ∧
    s.enterWaking.monitor = {} ∧
    ∀ a, s.enterWaking.axis a = { s.axis a with intervalTimer := some 100, drove := false } := by
  have haxes : s.enterWaking.axes = (s.mapAxes fun _ u => { u with intervalTimer := some 100, drove := false }).axes := rfl
  refine ⟨?_, rfl, rfl, fun a => (State.axis_congr haxes a).trans (s.axis_mapAxes _ a)⟩
  obtain ⟨v, hv⟩ := s.mapAxes_eq fun _ u => { u with intervalTimer := some 100, drove := false }
  unfold State.enterWaking
  rw [hv]
  intro p hp
  cases p with
  | power | monitor | axes => simp at hp
  | _ => rfl

/-! ## Transactions -/

theorem exec_writeRequest {s : State} (h : s.powered = true) (p : Port) (frame : List Byte) :
    exec (.writeRequest p frame) s = .next (s.writeFrame p frame) := congrArg Host.Outcome.next (if_pos h)

theorem exec_readResponse {s : State} (h : s.powered = true) (p : Port) (n : Nat) :
    exec (.readResponse p n) s = .next (s.readResponse p n) := congrArg Host.Outcome.next (if_pos h)

theorem exec_readEvent {s : State} (h : s.powered = true) (p : Port) (n : Nat) :
    exec (.readEvent p n) s = .next (s.readEvent p n) := congrArg Host.Outcome.next (if_pos h)

/-- R170: where no wake cause is taken, a WRITE_REQUEST brings none. -/
theorem State.openWrite_waking {s : State} (h : s.power.state = .waking) (p : Port) : s.openWrite p = s := by
  unfold State.openWrite
  split
  · rfl
  · exact State.wake_waking h _

/-- R179: with a response unread, or in WAKING, a waiting request stays. -/
theorem State.takeRequest_stays {s : State} {p : Port} (h : (s.port p).response.isSome ∨ s.power.state = .waking) :
    s.takeRequest p = s := by
  unfold State.takeRequest
  split
  · rfl
  · refine if_neg fun ⟨hr, ht⟩ => ?_
    rcases h with h | h
    · simp [Option.isNone_iff_eq_none.mp hr] at h
    · simp [State.takes, h] at ht

theorem State.takeRequest_none {s : State} {p : Port} (h : (s.port p).request = none) : s.takeRequest p = s := by
  unfold State.takeRequest; rw [h]

theorem State.takeRequest_some {s : State} {p : Port} {f : Received} (h : (s.port p).request = some f)
    (hr : (s.port p).response = none) (ht : s.takes = true) :
    s.takeRequest p = (s.setPort p { s.port p with request := none }).answerFrame p f := by
  unfold State.takeRequest
  rw [h, hr]
  exact if_pos ⟨rfl, ht⟩

/-- R178: a WRITE_REQUEST of a powered part in RUN, or in WAKING, before its frame is taken. -/
theorem State.writeFrame_unwoken {s : State} (h : s.power.state = .run ∨ s.power.state = .waking) (p : Port)
    (frame : List Byte) : s.writeFrame p frame = (s.setPort p (PortUnit.receive { s.port p with
      selected := none, dataOut := List.replicate frame.length 0 } frame)).takeRequest p := by
  have hopen : s.openWrite p = s := h.elim (State.openWrite_run · p) (State.openWrite_waking · p)
  rw [State.writeFrame, hopen, State.modPort_endTransaction]

/-- R178: a frame that cannot be taken yet stays in the buffer, or is dropped. -/
theorem State.writeFrame_stays {s : State} {p : Port}
    (h : (s.power.state = .run ∧ (s.port p).response.isSome) ∨ s.power.state = .waking) (frame : List Byte) :
    s.writeFrame p frame = s.setPort p (PortUnit.receive { s.port p with
      selected := none, dataOut := List.replicate frame.length 0 } frame) := by
  rw [State.writeFrame_unwoken (h.imp And.left id)]
  refine State.takeRequest_stays (h.imp (fun h => ?_) id)
  rw [State.port_setPort_same]
  unfold PortUnit.receive
  split <;> exact h.2

/-- R178: at a ready port the frame is taken, as the buffer keeps it. -/
theorem State.writeFrame_ready {s : State} {p : Port} (h : s.ready p) (frame : List Byte) :
    s.writeFrame p frame = (s.endTransaction p (List.replicate frame.length 0)).answerFrame p (received frame) := by
  obtain ⟨_, hrun, hq, hr⟩ := h
  rw [State.writeFrame, State.openWrite_run hrun]
  refine State.takeRequest_receive ?_ ?_ ?_
  · simpa [State.endTransaction] using hq
  · simpa [State.endTransaction] using hr
  · simp [State.takes, hrun]

/-- R179: an answer placed at the end of a transaction is one change of the port. -/
theorem State.placeResponse_endTransaction (s : State) (p : Port) (d : List Byte) (code : Byte) (c : RespCode) :
    (s.endTransaction p d).placeResponse p code (refusal c) = s.setPort p { s.port p with
      response := some { request := code, code := c }, selected := none, dataOut := d } := by
  rw [State.placeResponse, State.modPort_endTransaction]
  rfl

/-- R179: the checks of a frame with a code byte, in order. -/
theorem parse_cons (p : Port) (len code : Byte) (body : List Byte) (overlong : Bool) :
    Request.parse p (len :: code :: body) overlong =
      if overlong = true ∨ len.toNat ≠ body.length + 2 ∨ 100 < len.toNat then .badFrame (some code)
      else if code.toNat = 0 ∨ 27 < code.toNat then .unknown code
      else if !codeCarriedAt code.toNat p then .wrongPort code
      else match decBody code.toNat body with
        | some r => .request r
        | none => .badFrame (some code) := rfl

/-- R179, R188: what the checks find in a frame as the buffer keeps it. -/
theorem parse_received (p : Port) (len code : Byte) (body : List Byte) :
    Request.parse p (received (len :: code :: body)).bytes (received (len :: code :: body)).overlong =
      if len.toNat ≠ body.length + 2 ∨ 100 < body.length + 2 then .badFrame (some code)
      else if code.toNat = 0 ∨ 27 < code.toNat then .unknown code
      else if !codeCarriedAt code.toNat p then .wrongPort code
      else match decBody code.toNat body with
        | some r => .request r
        | none => .badFrame (some code) := by
  by_cases hl : 100 < body.length + 2
  · have hover : (received (len :: code :: body)).overlong = true := decide_eq_true hl
    rw [hover, show (received (len :: code :: body)).bytes = len :: code :: body.take 98 from rfl, parse_cons,
      if_pos (Or.inl rfl), if_pos (Or.inr hl)]
  · have hfit : (len :: code :: body).length ≤ 100 := by simp only [List.length_cons]; omega
    rw [received_fits hfit, parse_cons]
    by_cases hn : len.toNat = body.length + 2
    · rw [if_neg (show ¬(false = true ∨ len.toNat ≠ body.length + 2 ∨ 100 < len.toNat) by simp; omega),
        if_neg (show ¬(len.toNat ≠ body.length + 2 ∨ 100 < body.length + 2) by omega)]
    · rw [if_pos (Or.inr (Or.inl hn)), if_pos (Or.inl hn)]

/-- R188: a frame whose length byte holds its length is complete with its last byte. -/
theorem bytesToComplete_frameOf {code : Byte} {fields : List Byte} (h : (frameOf code fields).length ≤ 255) :
    bytesToComplete (frameOf code fields) = (frameOf code fields).length := by
  have hlen : fields.length + 2 ≤ 255 := h
  have hval : (BitVec.ofNat 8 (fields.length + 2)).toNat = fields.length + 2 := by
    rw [BitVec.toNat_ofNat]; exact Nat.mod_eq_of_lt (by omega)
  have hne : BitVec.ofNat 8 (fields.length + 2) ≠ 0 := fun h0 => by
    rw [h0] at hval; simp at hval
  unfold frameOf bytesToComplete
  dsimp only
  rw [if_neg hne, hval]
  rfl

theorem clockOut_early {frame : List Byte} {n : Nat} (h : n < frame.length) : clockOut frame n = frame.take n := by
  unfold clockOut
  rw [List.take_append_of_le_length h.le]

theorem clockOut_whole {frame : List Byte} {n : Nat} (h : frame.length ≤ n) :
    clockOut frame n = frame ++ List.replicate (n - frame.length) 0 := by
  unfold clockOut
  rw [List.take_append, List.take_of_length_le h, List.take_replicate, Nat.min_eq_left (by omega)]

theorem clockOut_noneFrame (n : Nat) : clockOut noneFrame n = List.replicate n 0 := by
  have : noneFrame ++ List.replicate n 0 = List.replicate (n + 1) 0 := rfl
  rw [clockOut, this, List.take_replicate, Nat.min_eq_left (Nat.le_succ n)]

/-- R180: a read of an empty response buffer, or one ended early, changes the data output alone. -/
theorem State.readResponse_idle {s : State} {p : Port} {n : Nat} {x : Selected} {frame : List Byte}
    (hx : (s.port p).selected = some x) (hf : (x.response.map Response.frame).getD noneFrame = frame)
    (h : x.response = none ∨ n < bytesToComplete frame) :
    s.readResponse p n = s.setPort p { s.port p with selected := none, dataOut := clockOut frame n } := by
  unfold State.readResponse
  rw [State.selected_of_some hx]
  dsimp only
  rw [hf, if_neg]
  · rfl
  · rintro ⟨h1, h2, _⟩
    rcases h with h | h
    · simp [h] at h2
    · omega

/-- R180: a read in which the whole frame was clocked out. -/
theorem State.readResponse_whole {s : State} {p : Port} {n : Nat} {x : Selected} {r : Response}
    (hx : (s.port p).selected = some x) (he : x.emptied = false) (hr : x.response = some r)
    (h : bytesToComplete r.frame ≤ n) :
    s.readResponse p n = (s.setPort p { s.port p with
      response := none, selected := none, dataOut := clockOut r.frame n }).takeRequest p := by
  unfold State.readResponse
  rw [State.selected_of_some hx]
  dsimp only
  rw [hr]
  rw [if_pos ⟨h, rfl, by simp [he]⟩, State.dropResponse, State.modPort_endTransaction]
  rfl

/-- R182: a read of an empty event queue, or one ended early, changes the data output alone. -/
theorem State.readEvent_idle {s : State} {p : Port} {n : Nat} {x : Selected} {frame : List Byte}
    (hx : (s.port p).selected = some x) (hf : (x.event.map Event.frame).getD noneFrame = frame)
    (h : x.event = none ∨ n < bytesToComplete frame) :
    s.readEvent p n = s.setPort p { s.port p with selected := none, dataOut := clockOut frame n } := by
  unfold State.readEvent
  rw [State.selected_of_some hx]
  dsimp only
  rw [hf, if_neg]
  · rfl
  · rintro ⟨h1, h2, _⟩
    rcases h with h | h
    · simp [h] at h2
    · omega

/-- R182: a read in which the whole frame was clocked out takes the oldest event from the queue. -/
theorem State.readEvent_whole {s : State} {p : Port} {n : Nat} {x : Selected} {e : Event}
    (hx : (s.port p).selected = some x) (he : x.emptied = false) (hr : x.event = some e)
    (h : bytesToComplete e.frame ≤ n) :
    s.readEvent p n = s.setPort p { s.port p with
      events := (s.port p).events.tail, selected := none, dataOut := clockOut e.frame n } := by
  unfold State.readEvent
  rw [State.selected_of_some hx]
  dsimp only
  rw [hr]
  rw [if_pos ⟨h, rfl, by simp [he]⟩, State.modPort_endTransaction]
  rfl

end Sys2Proof.Machine

namespace Sys2Proof

open Machine

/-- Settles O9, by evaluating the state after reset. -/
theorem resetObeysTheLaws : Obligations.ResetObeysTheLaws := by
  unfold Obligations.ResetObeysTheLaws
  intro s
  have bounded : s.portsBounded := fun p => by cases p <;> exact ⟨by decide, by decide, by decide⟩
  have laws : s.currentLaws := State.currentLaws_of_still ⟨rfl, rfl⟩ fun _ hw => by cases hw
  have slots : ∀ i, (s.slot i).record.inUse = false ∧ (s.slot i).storage = .stored := fun i => by
    simp [s, State.slot, State.reset]
  exact ⟨⟨bounded, ⟨by decide, by decide, by decide⟩, Nat.zero_le _, by decide, Monitor.sound_default,
    ProfileTable.sound_default, laws⟩, by decide, rfl, rfl, rfl, slots, rfl, rfl, rfl, rfl, rfl, rfl, rfl, rfl, rfl, rfl,
    rfl, rfl, rfl⟩

/-- Settles O10: a wake cause by the power state, for the door edge and for header byte 51 alike. -/
theorem wakeCausesAct : Obligations.WakeCausesAct := by
  unfold Obligations.WakeCausesAct
  intro s p hs noted c w u h
  have wakes : exec c s = .next (u.wake w) ∧ u.power = s.power ∧ u.axes = s.axes := by
    rcases h with ⟨rfl, rfl, rfl⟩ | ⟨rfl, rfl, rfl⟩
    · exact ⟨exec_doorWakeEdge hs, rfl, rfl⟩
    · exact ⟨exec_writeRequestHeader hs p, rfl, rfl⟩
  obtain ⟨hexec, hpower, haxes⟩ := wakes
  rw [hexec]
  refine ⟨fun hp => ?_, fun hp => ?_, fun hp => ?_⟩
  · rw [← hpower] at hp
    exact congrArg _ (hp.elim (State.wake_run · w) (State.wake_waking · w))
  · rw [State.wake_parking (hpower ▸ hp), State.wakeNoted, hpower]
  · refine ⟨_, rfl, ?_⟩
    rw [State.wake_park (hpower ▸ hp)]
    obtain ⟨honly, hpow, hmon, hax⟩ := State.enterWaking_effect
      { u with power := { u.power with wakeCause := u.power.wakeCause.or (some w) } }
    refine ⟨fun q hq => ?_, by rw [hpow, hpower], hmon, fun a => ?_⟩
    · have := honly q hq
      cases q with
      | power => simp at hq
      | _ => exact this
    · rw [hax a]
      unfold State.axis
      rw [← haxes]

/-- Settles O11: a frame that cannot be taken goes to the empty buffer or is counted. -/
theorem writeRequestHeldOrDropped : Obligations.WriteRequestHeldOrDropped := by
  unfold Obligations.WriteRequestHeldOrDropped
  intro s p frame hs h
  rw [exec_writeRequest hs, State.writeFrame_stays h]
  refine ⟨fun hq => ?_, fun hq => ?_⟩
  · unfold PortUnit.receive
    dsimp only
    rw [hq]
    rfl
  · obtain ⟨f, hf⟩ := Option.isSome_iff_exists.mp hq
    unfold PortUnit.receive
    dsimp only
    rw [hf]
    rfl

/-- Settles O12: the first check of R179 that fails gives the answer. -/
theorem writeRequestChecks : Obligations.WriteRequestChecks := by
  unfold Obligations.WriteRequestChecks
  intro s p len code body h frame answer
  rw [exec_writeRequest h.1, State.writeFrame_ready h, State.answerFrame, parse_received]
  have placed : ∀ c, Host.Outcome.next (ρ := Refusal) (φ := Fault)
      ((s.endTransaction p (List.replicate frame.length 0)).placeResponse p code (refusal c)) = .next (answer c) :=
    fun c => congrArg _ (s.placeResponse_endTransaction p _ code c)
  refine ⟨fun hbad => ?_, fun hlen hfit => ⟨fun hcode => ?_, fun hcode => ⟨fun hport => ?_, fun hport hbody => ?_⟩⟩⟩
  · rw [if_pos (show len.toNat ≠ body.length + 2 ∨ 100 < body.length + 2 from hbad)]; exact placed .badFrame
  all_goals rw [if_neg (by simp only [frame, List.length_cons] at hlen hfit; omega)]
  · have : code.toNat = 0 ∨ 27 < code.toNat := hcode.imp_left fun hc => by rw [hc]; rfl
    rw [if_pos this]; exact placed .unknownRequest
  all_goals rw [if_neg (by omega)]
  · rw [if_pos (by simp [hport])]; exact placed .wrongPort
  · rw [if_neg (by simp [hport]), hbody]; exact placed .badFrame

/-- Settles O13: the frame fixed at the assertion is clocked out; the whole of it empties the buffer. -/
theorem readResponseCompletes : Obligations.ReadResponseCompletes := by
  unfold Obligations.ReadResponseCompletes
  intro s p n x hs hx he
  rw [exec_readResponse hs]
  refine ⟨fun hr => ?_, fun r hr hl => ?_⟩
  · rw [State.readResponse_idle (frame := noneFrame) hx (by rw [hr]; rfl) (.inl hr), clockOut_noneFrame]
  · have hcomplete : bytesToComplete r.frame = r.frame.length := bytesToComplete_frameOf hl
    refine ⟨fun hn => ?_, fun hn => ⟨fun hq => ?_, fun f hf hrun => ?_⟩⟩
    · rw [State.readResponse_idle (frame := r.frame) hx (by rw [hr]; rfl) (.inr (hcomplete ▸ hn)), clockOut_early hn]
    all_goals rw [State.readResponse_whole hx he hr (hcomplete ▸ hn), clockOut_whole hn]
    · rw [State.takeRequest_none (by simpa using hq)]
    · rw [State.takeRequest_some (f := f) (by simpa using hf) (by simp) (by simp [State.takes, hrun])]
      simp

/-- Settles O14: the event fixed at the assertion is clocked out; the whole of it leaves the queue. -/
theorem readEventCompletes : Obligations.ReadEventCompletes := by
  unfold Obligations.ReadEventCompletes
  intro s p n x hs hx he
  rw [exec_readEvent hs]
  refine ⟨fun hr => ?_, fun e rest hr hev hl => ?_⟩
  · rw [State.readEvent_idle (frame := noneFrame) hx (by rw [hr]; rfl) (.inl hr), clockOut_noneFrame]
  · have hcomplete : bytesToComplete e.frame = e.frame.length := bytesToComplete_frameOf hl
    refine ⟨fun hn => ?_, fun hn => ?_⟩
    · rw [State.readEvent_idle (frame := e.frame) hx (by rw [hr]; rfl) (.inr (hcomplete ▸ hn)), clockOut_early hn]
    · rw [State.readEvent_whole hx he hr (hcomplete ▸ hn), clockOut_whole hn, hev]
      rfl

/-- Settles O16: what an assertion fixes, and the transaction a header byte names. -/
theorem selectionFixedAndFillerReturned : Obligations.SelectionFixedAndFillerReturned := by
  unfold Obligations.SelectionFixedAndFillerReturned
  intro s p h n hs
  refine ⟨exec_chipSelectAsserted hs p, rfl, ?_⟩
  have hexec : exec (.disregardedTransaction p h n) s = .next (s.transact p h (List.replicate n 0)) :=
    congrArg Host.Outcome.next (if_pos hs)
  rw [hexec, exec_writeRequest hs, exec_readResponse hs, exec_readEvent hs, exec_readPortStatus hs]
  unfold State.transact decHeader
  repeat' split
  all_goals simp_all [State.disregard, State.endTransaction, State.modPort]

end Sys2Proof
end

section
/-! PROOF. The reads of the axes, the van record, the history and the store (01, 02, 07, 08). -/

namespace Sys2Proof.Machine

/-! ## Fields of one length in a row, and axis masks -/

/-- R188: of fields that each take the same number of bytes, those of one axis. -/
theorem take_drop_flatMap {α β : Type} (g : α → List β) {k : Nat} (h : ∀ x, (g x).length = k) (l : List α) (i : Nat)
    (hi : i < l.length) : ((l.flatMap g).drop (k * i)).take k = g l[i] := by
  induction l generalizing i with
  | nil => cases hi
  | cons x l ih =>
    rw [List.flatMap_cons]
    cases i with
    | zero =>
      rw [Nat.mul_zero, List.drop_zero, List.take_append_of_le_length (h x).ge, List.take_of_length_le (h x).le]
      rfl
    | succ i =>
      rw [List.drop_append, h x, List.drop_eq_nil_of_le (by rw [h x]; exact Nat.le_mul_of_pos_right k i.succ_pos),
        Nat.mul_succ, Nat.add_sub_cancel, List.nil_append, ih i (Nat.lt_of_succ_lt_succ hi)]
      rfl

theorem length_flatMap_const {α β : Type} (g : α → List β) {k : Nat} (h : ∀ x, (g x).length = k) (l : List α) :
    (l.flatMap g).length = k * l.length := by
  induction l with
  | nil => rfl
  | cons x l ih => rw [List.flatMap_cons, List.length_append, ih, h, List.length_cons, Nat.mul_succ, Nat.add_comm]

theorem allAxes_get (a : Axis) (h : a.val < allAxes.length) : allAxes[a.val] = a := by revert a; decide

/-- R5, R22, R33: of eight bytes for each axis in order, those of one axis. -/
theorem take_drop_axes {g : Axis → List Byte} (h : ∀ a, (g a).length = 8) (a : Axis) :
    ((allAxes.flatMap g).drop (8 * a.val)).take 8 = g a := by
  have hi : a.val < allAxes.length := a.isLt
  rw [take_drop_flatMap g h allAxes a.val hi, allAxes_get]

/-- R189: the bits of a number put together from flags, the first flag being the lowest. -/
theorem testBit_foldr_flags (bs : List Bool) (i : Nat) :
    (bs.foldr (fun (b : Bool) n => (if b then 1 else 0) + 2 * n) 0).testBit i = (bs[i]?).getD false := by
  induction bs generalizing i with
  | nil => simp
  | cons b bs ih =>
    have hbit : ∀ n : Nat, (if b then 1 else 0) + 2 * n = Nat.bit b n := fun n => by
      cases b <;> simp [Nat.bit, Nat.add_comm]
    rw [List.foldr_cons, hbit]
    cases i with
    | zero => rw [Nat.testBit_bit_zero]; rfl
    | succ i => rw [Nat.testBit_bit_succ, ih]; rfl

theorem axisMask_eq (f : Axis → Bool) : axisMask f =
    BitVec.ofNat 16 ((allAxes.map f).foldr (fun (b : Bool) n => (if b then 1 else 0) + 2 * n) 0) := by
  rw [List.foldr_map]; rfl

/-- R189: bit `a` of an axis mask is the predicate of axis `a`. -/
theorem axisMask_getLsbD (f : Axis → Bool) (a : Axis) : (axisMask f).getLsbD a.val = f a := by
  rw [axisMask_eq, BitVec.getLsbD_ofNat, testBit_foldr_flags, List.getElem?_map]
  have ha : allAxes[a.val]? = some a := by revert a; decide
  have : a.val < 16 := by omega
  simp [ha, this]

/-- R189: a mask has no bit beyond the axes that its predicate names. -/
theorem axisMask_lt (f : Axis → Bool) {n : Nat} (h : ∀ a : Axis, n ≤ a.val → f a = false) :
    (axisMask f).toNat < 2 ^ n := by
  refine Nat.lt_pow_two_of_testBit _ fun i hi => ?_
  rw [axisMask_eq, BitVec.testBit_toNat, BitVec.getLsbD_ofNat, testBit_foldr_flags, List.getElem?_map]
  by_cases hlt : i < 10
  · have ha : allAxes[i]? = some ⟨i, hlt⟩ := by interval_cases i <;> rfl
    simp [ha, h ⟨i, hlt⟩ hi]
  · have ha : allAxes[i]? = none := List.getElem?_eq_none (by simp [allAxes]; omega)
    simp [ha]

/-! ## READ_AXES and READ_COUNTERS -/

@[simp] theorem length_encInt (i : Int) : (encInt i).length = 2 := rfl

@[simp] theorem length_encNat16 (n : Nat) : (encNat16 n).length = 2 := rfl

@[simp] theorem length_encPosition (x : Option Int) : (encPosition x).length = 2 := by cases x <;> rfl

theorem State.length_axisBytes (s : State) (a : Axis) : (s.axisBytes a).length = 8 := by
  simp [State.axisBytes, enc8, encFlags]

theorem State.length_vanAxisBytes (s : State) (a : Axis) : (s.vanAxisBytes a).length = 8 := by
  unfold State.vanAxisBytes
  split <;> simp [enc8]

/-- R5, R51, R188: the eight bytes of an axis. -/
theorem State.axisBytes_eq (s : State) (a : Axis) :
    s.axisBytes a = encInt (s.axis a).position ++
      (match if (if a.counted then (s.axis a).confidence ≠ .lost else (s.axis a).sensorFault = false)
          then s.storeConversion a (s.axis a).position else none with
        | some x => encInt x
        | none => [0x80, 0x00]) ++
      [BitVec.ofNat 8 (if a.counted then (s.axis a).confidence
          else if (s.axis a).sensorFault then .lost else .normalised).code,
        BitVec.ofNat 8 (s.axis a).motion.code,
        BitVec.ofNat 8 ((if (s.axis a).halted then 1 else 0) + (if (s.axis a).hot then 2 else 0) +
          (if (s.axis a).sensorFault then 4 else 0)), 0] := by
  have hu : s.axes[a.val] = s.axis a := rfl
  have hposition : encPosition (s.reportedPosition a (s.axis a)) =
      match if (if a.counted then (s.axis a).confidence ≠ .lost else (s.axis a).sensorFault = false)
          then s.storeConversion a (s.axis a).position else none with
        | some x => encInt x
        | none => [0x80, 0x00] := by
    unfold State.reportedPosition
    by_cases hc : a.counted = true
    · by_cases hl : (s.axis a).confidence = .lost
      · simp [hc, hl, encPosition, enc16, absentMark]
      · simp only [hc, hl, beq_iff_eq, if_true, if_false, ne_eq, not_false_eq_true]
        cases s.storeConversion a (s.axis a).position <;> rfl
    · cases hf : (s.axis a).sensorFault with
      | true => simp [hc, encPosition, enc16, absentMark]
      | false =>
        simp only [hc, Bool.false_eq_true, if_false, if_true]
        cases s.storeConversion a (s.axis a).position <;> rfl
  have hflags : encFlags [(s.axis a).halted, (s.axis a).hot, (s.axis a).sensorFault] =
      [BitVec.ofNat 8 ((if (s.axis a).halted then 1 else 0) + (if (s.axis a).hot then 2 else 0) +
          (if (s.axis a).sensorFault then 4 else 0))] := by
    cases (s.axis a).halted <;> cases (s.axis a).hot <;> cases (s.axis a).sensorFault <;> rfl
  have hconfidence : (s.axis a).reportedConfidence a = if a.counted then (s.axis a).confidence
      else if (s.axis a).sensorFault then .lost else .normalised := rfl
  unfold State.axisBytes
  dsimp only
  rw [hu, hposition, hflags, hconfidence]
  simp only [enc8, List.append_assoc, List.cons_append, List.nil_append]

/-! ## READ_VAN_RECORD -/

/-- R33, R191: what stands before the eight bytes of each axis. -/
theorem State.vanFields_eq (s : State) : ∃ head : List Byte, s.vanFields = head ++ allAxes.flatMap s.vanAxisBytes ∧
    head.length = 11 ∧ head = enc16 (s.fitted.setWidth 16) ++ enc16 (s.van.enable.setWidth 16) ++
      enc16 ((s.fitted &&& s.van.enable).setWidth 16) ++ enc16 (axisMask s.isCommissioned) ++
      enc16 (axisMask fun a => (s.stopsOf a).isSome) ++
      [BitVec.ofNat 8 ((if s.van.recallDefault then 1 else 0) + (if s.van.exitAllowed then 2 else 0) +
        (if s.van.doorOpenOnly then 4 else 0) + (if s.van.commissioned then 8 else 0))] := by
  have hflags : encFlags [s.van.recallDefault, s.van.exitAllowed, s.van.doorOpenOnly, s.van.commissioned] =
      [BitVec.ofNat 8 ((if s.van.recallDefault then 1 else 0) + (if s.van.exitAllowed then 2 else 0) +
        (if s.van.doorOpenOnly then 4 else 0) + (if s.van.commissioned then 8 else 0))] := by
    cases s.van.recallDefault <;> cases s.van.exitAllowed <;> cases s.van.doorOpenOnly <;>
      cases s.van.commissioned <;> rfl
  refine ⟨_, ?_, ?_, rfl⟩
  · rw [← hflags]; rfl
  · simp [enc16]

theorem State.stopsOf_mirror (s : State) {a : Axis} (h : 6 ≤ a.val) : s.stopsOf a = none := by
  unfold State.stopsOf; rw [dif_neg (by omega)]

/-- R191: the eight bytes of a counted axis. -/
theorem State.vanAxisBytes_counted (s : State) (i : Fin 6) : s.vanAxisBytes ⟨i.val, by omega⟩ =
    encInt (((s.van.counted[i]).getD ⟨0, 0, 0, 0⟩).c0) ++ encNat16 (((s.van.counted[i]).getD ⟨0, 0, 0, 0⟩).k) ++
      [BitVec.ofNat 8 (((s.van.counted[i]).getD ⟨0, 0, 0, 0⟩).m),
        BitVec.ofNat 8 (((s.van.counted[i]).getD ⟨0, 0, 0, 0⟩).t)] ++
      encInt (((s.van.stops[i]).map (·.hi)).getD 0) := by
  have hcal : s.countedCal ⟨i.val, by omega⟩ = s.van.counted[i] := by
    unfold State.countedCal; rw [dif_pos i.isLt]; rfl
  have hstops : s.stopsOf ⟨i.val, by omega⟩ = s.van.stops[i] := by
    unfold State.stopsOf; rw [dif_pos i.isLt]; rfl
  have hhi : ((s.van.stops[i]).getD ⟨0, 0⟩).hi = ((s.van.stops[i]).map (·.hi)).getD 0 := by
    cases s.van.stops[i] <;> rfl
  unfold State.vanAxisBytes
  rw [if_pos (by simp [Axis.counted]), hcal, hstops, hhi]
  simp only [enc8, List.append_assoc, List.cons_append, List.nil_append]

/-- R191: the eight bytes of a mirror axis. -/
theorem State.vanAxisBytes_mirror (s : State) (m : Fin 4) : s.vanAxisBytes ⟨m.val + 6, by omega⟩ =
    encNat16 (((s.van.mirror[m]).getD ⟨0, 0, 0, 0⟩).z) ++ encNat16 (((s.van.mirror[m]).getD ⟨0, 0, 0, 0⟩).kr) ++
      encNat16 (((s.van.mirror[m]).getD ⟨0, 0, 0, 0⟩).rlo) ++ encNat16 (((s.van.mirror[m]).getD ⟨0, 0, 0, 0⟩).rhi) := by
  have hcal : s.mirrorCal ⟨m.val + 6, by omega⟩ = s.van.mirror[m] := by
    unfold State.mirrorCal
    simp
  unfold State.vanAxisBytes
  rw [if_neg (by simp [Axis.counted]), hcal]

/-! ## READ_HISTORY and READ_STORE_STATUS -/

/-- R190: a history record in bytes. -/
theorem HistoryRecord.bytes_eq (h : HistoryRecord) : h.bytes = encNat32 h.tag ++
    [BitVec.ofNat 8 h.cause.code, BitVec.ofNat 8 (portCode h.port), BitVec.ofNat 8 h.result.code,
      BitVec.ofNat 8 (abortCode h.abortCause), if h.undone then 1 else 0, BitVec.ofNat 8 h.entries.length] ++
    h.entries.flatMap fun x => [BitVec.ofNat 8 x.axis.val] ++ encInt x.from_ ++ encInt x.to_ ++
      [BitVec.ofNat 8 x.outcome.code] := by
  simp [HistoryRecord.bytes, enc8, encFlag]

theorem flatMap_enc8 (l : List BlockIx) : l.flatMap (fun b => enc8 b.val) = l.map fun b => BitVec.ofNat 8 b.val := by
  induction l with
  | nil => rfl
  | cons b l ih => rw [List.flatMap_cons, ih]; rfl

end Sys2Proof.Machine

namespace Sys2Proof

open Machine

/-- Settles O42: the fields of both reads, axis by axis. -/
theorem axisReadsAnswer : Obligations.AxisReadsAnswer := by
  unfold Obligations.AxisReadsAnswer
  intro s p k
  refine ⟨⟨s.axesFields, exec_answered rfl k (by cases p <;> rfl) (Request.length_frame_le _ nofun) fun _ => rfl, ?_, fun a => ?_⟩, ?_⟩
  · exact length_flatMap_const _ s.length_axisBytes allAxes
  · exact (take_drop_axes s.length_axisBytes a).trans (s.axisBytes_eq a)
  · rintro rfl
    have hcounters : ∀ a : Axis, (enc32 (s.axis a).travel ++ enc32 (s.axis a).runTime).length = 8 := fun _ => rfl
    refine ⟨s.counterFields, exec_answered rfl k rfl (Request.length_frame_le _ nofun) fun _ => rfl, ?_, fun a => ?_⟩
    · exact length_flatMap_const _ hcounters allAxes
    · exact take_drop_axes hcounters a

/-- Settles O43: eleven bytes of masks and flags, then eight for each axis. -/
theorem readVanRecordAnswers : Obligations.ReadVanRecordAnswers := by
  unfold Obligations.ReadVanRecordAnswers
  intro s k
  obtain ⟨head, hfields, hlength, hhead⟩ := s.vanFields_eq
  have hbytes := s.length_vanAxisBytes
  have hdrop : ∀ a : Axis, (s.vanFields.drop (11 + 8 * a.val)).take 8 = s.vanAxisBytes a := fun a => by
    rw [hfields, ← hlength, List.drop_append, List.drop_eq_nil_of_le (Nat.le_add_right _ _), List.nil_append,
      Nat.add_sub_cancel_left]
    exact take_drop_axes hbytes a
  refine ⟨s.vanFields, axisMask s.isCommissioned, axisMask fun a => (s.stopsOf a).isSome,
    exec_answered rfl k rfl (Request.length_frame_le _ nofun) fun _ => rfl, ?_, ?_,
    fun a => ⟨axisMask_getLsbD _ a, axisMask_getLsbD _ a⟩, axisMask_lt (n := 10) _ fun a h => ?_,
    axisMask_lt (n := 6) _ fun a h => ?_, fun i => ?_, fun m => ?_⟩
  · rw [hfields, List.length_append, hlength, length_flatMap_const _ hbytes]; rfl
  · rw [hfields, List.take_append_of_le_length hlength.ge, List.take_of_length_le hlength.le, hhead]
  · exact absurd a.isLt (by omega)
  · rw [s.stopsOf_mirror h]; rfl
  · exact (hdrop ⟨i.val, by omega⟩).trans (s.vanAxisBytes_counted i)
  · have := (hdrop ⟨m.val + 6, by omega⟩).trans (s.vanAxisBytes_mirror m)
    rwa [show 11 + 8 * (m.val + 6) = 59 + 8 * m.val by omega] at this

/-- Settles O44: READ_HISTORY by its index, and READ_STORE_STATUS in the order of R160. -/
theorem historyAndStoreReadsAnswer : Obligations.HistoryAndStoreReadsAnswer := by
  unfold Obligations.HistoryAndStoreReadsAnswer
  intro s i k
  have reads : ∀ {reply : Reply}, (∀ u, (s.setPort .fleet u).reqReadHistory i = (s.setPort .fleet u, reply)) →
      exec (.readHistory i) s = .next (s.answered .fleet (.readHistory i) reply) :=
    fun h => exec_answered rfl k rfl (Request.length_frame_le _ nofun) h
  have answers : i.toNat ≤ 7 → ∀ u, (s.setPort .fleet u).reqReadHistory i =
      (s.setPort .fleet u, okWith (s.historyFields i.toNat)) := fun h u => if_neg (by omega)
  refine ⟨⟨fun h => reads fun u => if_pos h, fun h hn => reads fun u => (answers h u).trans ?_,
    fun x h hx => reads fun u => (answers h u).trans ?_⟩, ?_⟩
  · rw [State.historyFields, List.getElem?_eq_none hn]; rfl
  · rw [State.historyFields, hx, Option.map_some, Option.getD_some, HistoryRecord.bytes_eq, enc8, List.append_assoc]
    rfl
  · refine exec_answered rfl k rfl (Request.length_frame_le _ nofun) fun u =>
      congrArg (fun fields => (s.setPort .fleet u, okWith fields)) ?_
    unfold State.storeFields
    rw [List.map_append, ← flatMap_enc8, ← flatMap_enc8]
    cases hw : s.store.write <;> cases hs : s.store.spare <;> cases hr : s.store.lastResult <;>
      simp [hw, hs, hr, enc8, encFlag]

end Sys2Proof
end

section
/-! PROOF. The profile table's requests: LOAD_PROFILE, DELETE_PROFILE, PIN_PROFILE and STORE (06). -/

namespace Sys2Proof.Machine

/-! ## Requests that commit a block -/

/-- The commit of a block that is no slot's touches the store alone. -/
theorem State.commit_only_store {b : BlockIx} (h : blockSlot b = none) (s : State) : s.onlyIn (s.commit b) [.store] := by
  intro p hp
  by_cases ht : p = .table
  · subst ht; exact State.commit_table h s
  · exact s.commit_only b p (by simp_all)

/-- R99: a request taken at once that changes some parts, commits a block with a place and raises some events. -/
theorem exec_commitsRaising {c : Instr} {p : Port} {r : Request} (h : c.request = some (p, r)) {s : State} (k : s.ready p)
    (hc : codeCarriedAt r.code.toNat p = true) (hl : r.frame.length ≤ 100) {b : BlockIx}
    (hb : s.commitPlace b = true) {u v : State} {reply : Reply} {ps qs rs : List Part} {events : Port → List Event}
    (hv : (s.written p r).handle p r = (v, reply)) (hu : (s.written p r).onlyIn u ps)
    (hkept : Part.ports ∉ ps ∧ Part.store ∉ ps ∧ Part.power ∉ ps) (hq : u.onlyIn (u.commit b) qs)
    (hw : (u.commit b).onlyIn v [.ports]) (hg : (u.commit b).gains v events)
    (hr : ps ⊆ rs ∧ qs ⊆ rs ∧ [.ports] ⊆ rs) :
    ∃ t, exec c s = .next t ∧ s.onlyIn t rs ∧ (u.commit b).onlyIn t [.ports] ∧ s.tookCommit t b ∧
      s.answersWith t p r reply events := by
  obtain ⟨hports, hstore, hpower⟩ := hkept
  have hsame : (u.commit b).ports = (s.written p r).ports := (u.commit_frame b).ports.trans (hu .ports hports)
  have hpark : u.power.state ≠ .park := by
    have hpow : u.power = s.power := hu .power hpower
    rw [hpow, k.2.1]; decide
  have hgains : (s.written p r).gains v events := by
    simpa [noEvents] using (State.gains_of_ports hsame).trans hg
  obtain ⟨t, ht, hs, hvt, ha⟩ := exec_changes h k hc hl hv
    (((hu.mono hr.1).trans (hq.mono hr.2.1)).trans (hw.mono hr.2.2)) hr.2.2 hgains
  have took : s.tookCommit (u.commit b) b := State.tookCommit_commit (hu .store hstore) hpark hb
  exact ⟨t, ht, hs, hw.trans hvt, took.after_ports (hw.trans hvt), ha⟩

/-! ## ASSIGN_DRIVER -/

theorem not_validDriver {id : BitVec 32} (h : id = 0 ∨ id = 0xFFFFFFFF) : validDriver id = false := by
  rcases h with rfl | rfl <;> rfl

theorem validDriver_of_ne {id : BitVec 32} (h0 : id ≠ 0) (hF : id ≠ 0xFFFFFFFF) : validDriver id = true :=
  (validDriver_iff id).2 ⟨h0, hF⟩

/-! ## DELETE_PROFILE -/

/-- R117: the table once a slot's record has been deleted, before the commit. -/
def State.deleted (s : State) (i : SlotIx) : State :=
  (s.modRecord i fun r => { r with inUse := false, pinned := false, dirty := false }).leaveDirty i

theorem State.onlyIn_deleted (s : State) (i : SlotIx) : s.onlyIn (s.deleted i) [.table] :=
  (s.onlyIn_modRecord i _).trans (State.onlyIn_leaveDirty _ i)

/-- R117: no driver's ID. -/
theorem State.reqDeleteProfile_badField (s : State) {id : BitVec 32} (h : id = 0 ∨ id = 0xFFFFFFFF) :
    s.reqDeleteProfile id = (s, refusal .badField) := by
  simp [State.reqDeleteProfile, not_validDriver h]

/-- R117: an ID that no slot holds. -/
theorem State.reqDeleteProfile_noProfile {s : State} {id : BitVec 32} (hv : validDriver id = true)
    (hf : s.findSlot id.toNat = none) : s.reqDeleteProfile id = (s, refusal .noProfile) := by
  simp [State.reqDeleteProfile, hv, hf]

/-- R117: with a slot found, the active driver and the commit's place decide. -/
theorem State.reqDeleteProfile_found {s : State} {id : BitVec 32} {i : SlotIx} (hv : validDriver id = true)
    (hf : s.findSlot id.toNat = some i) : s.reqDeleteProfile id =
      if s.table.driver = .known i then (s, refusal .active)
      else if s.commitPlace (slotBlock i) = false then (s, refusal .queueFull)
      else ((s.deleted i).commit (slotBlock i), okWith (encFlag (s.slot i).record.dirty)) := by
  simp [State.reqDeleteProfile, hv, hf, State.deleted]

/-- R98: an EMPTY slot is given, or one before it. -/
theorem State.emptySlot_le {s : State} {i : SlotIx} (h : (s.slot i).record.inUse = false) :
    ∃ j, s.emptySlot = some j ∧ j ≤ i := by
  have hmem : i ∈ allSlots := List.mem_finRange i
  obtain ⟨j, hj⟩ : ∃ j, s.emptySlot = some j := by
    cases he : s.emptySlot with
    | some j => exact ⟨j, rfl⟩
    | none => exact absurd (List.find?_eq_none.mp he i hmem) (by simp [h])
  refine ⟨j, hj, ?_⟩
  obtain ⟨_, l, r, hlr, hbefore⟩ := List.find?_eq_some_iff_append.mp hj
  have hi : i ∉ l := fun hi => by simpa [h] using hbefore i hi
  have hsorted : (l ++ j :: r).Pairwise (· < ·) := hlr ▸ List.pairwise_lt_finRange 48
  rw [hlr, List.mem_append, List.mem_cons] at hmem
  rcases hmem with hmem | rfl | hmem
  · exact absurd hmem hi
  · exact le_refl _
  · exact (List.rel_of_pairwise_cons (List.pairwise_append.mp hsorted).2.1 hmem).le

/-- R150: in a busy store a commit that was taken has its place. -/
theorem State.tookCommit.commitPlace {s t : State} {b : BlockIx} (h : s.tookCommit t b) (hs : s.store.state ≠ .idle) :
    t.commitPlace b = true := by
  obtain ⟨_, _, hbusy, _⟩ := h
  obtain ⟨hq, _, _⟩ := hbusy hs
  unfold State.commitPlace
  rw [hq]
  by_cases hb : b ∈ s.store.queue <;> simp [hb]

/-! ## PIN_PROFILE -/

/-- R118: no driver's ID. -/
theorem State.reqPinProfile_badField (s : State) {id : BitVec 32} {pin : Byte} (h : id = 0 ∨ id = 0xFFFFFFFF) :
    s.reqPinProfile id pin = (s, refusal .badField) := by
  simp [State.reqPinProfile, not_validDriver h]

/-- R118: an ID that no slot holds. -/
theorem State.reqPinProfile_noProfile {s : State} {id : BitVec 32} {pin : Byte} (hv : validDriver id = true)
    (hf : s.findSlot id.toNat = none) : s.reqPinProfile id pin = (s, refusal .noProfile) := by
  simp [State.reqPinProfile, hv, hf]

/-- R118: with a slot found, its pin and the commit's place decide. -/
theorem State.reqPinProfile_found {s : State} {id : BitVec 32} {pin : Byte} {i : SlotIx} (hv : validDriver id = true)
    (hf : s.findSlot id.toNat = some i) : s.reqPinProfile id pin =
      if (s.slot i).record.pinned = pin.getLsbD 0 then (s, okWith [])
      else if s.commitPlace (slotBlock i) = false then (s, refusal .queueFull)
      else ((s.modRecord i fun r => { r with pinned := pin.getLsbD 0 }).commit (slotBlock i), okWith []) := by
  simp [State.reqPinProfile, hv, hf]

/-- R102: a slot that can be evicted is not active, pinned, DIRTY or PENDING. -/
theorem State.evictable_iff (s : State) (i : SlotIx) : s.evictable i = true ↔
    (s.slot i).record.inUse = true ∧ (s.slot i).record.pinned = false ∧ (s.slot i).record.dirty = false ∧
      (s.slot i).storage ≠ .pending ∧ s.table.driver ≠ .known i := by
  simp [State.evictable, and_assoc]

/-! ## LOAD_PROFILE -/

/-- R114, R115: the table once a slot has been loaded, before the commit. -/
def State.profileLoaded (s : State) (i : SlotIx) (r : SlotRecord) (known : Bool) : State :=
  ((s.modRecord i fun _ => r).leaveDirty i).becomeKnown known i

theorem State.onlyIn_profileLoaded (s : State) (i : SlotIx) (r : SlotRecord) (known : Bool) :
    s.onlyIn (s.profileLoaded i r known) [.table] :=
  ((s.onlyIn_modRecord i _).trans (State.onlyIn_leaveDirty _ i)).trans (State.onlyIn_becomeKnown _ _ i)

/-- R113: the fields of a LOAD_PROFILE are in range. -/
abbrev loadable (f : ProfileFields) : Prop :=
  f.driver ≠ 0 ∧ f.driver ≠ 0xFFFFFFFF ∧ f.revision ≠ 0 ∧ f.exit.toNat ≤ 200 ∧ (decProfilePositions f.positions).isSome

/-- R113: a field out of range. -/
theorem State.reqLoadProfile_badField (s : State) {f : ProfileFields} {force : Byte} (h : ¬loadable f) :
    s.reqLoadProfile f force = (s, refusal .badField) := by
  unfold State.reqLoadProfile
  cases hd : decProfilePositions f.positions with
  | none => rfl
  | some positions =>
    refine if_pos ?_
    by_contra hn
    simp only [Bool.or_eq_true, Bool.not_eq_true', not_or, Bool.not_eq_false, validDriver_iff, beq_iff_eq, validExit,
      decide_eq_true_eq] at hn
    exact h ⟨hn.1.1.1, hn.1.1.2, hn.1.2, hn.2, by rw [hd]; rfl⟩

theorem loadable_checks {f : ProfileFields} (h : loadable f) :
    ¬(!validDriver f.driver || f.revision == 0 || !validExit f.exit) = true := by
  obtain ⟨h0, hF, hr, he, _⟩ := h
  simp [validDriver_of_ne h0 hF, validExit, he]
  exact hr

/-- R113: with every field in range, no slot to give. -/
theorem State.reqLoadProfile_tableFull {s : State} {f : ProfileFields} {force : Byte} (h : loadable f)
    (ht : (s.findSlot f.driver.toNat).or s.slotToGive = none) :
    s.reqLoadProfile f force = (s, refusal .tableFull) := by
  obtain ⟨positions, hd⟩ := Option.isSome_iff_exists.mp h.2.2.2.2
  unfold State.reqLoadProfile
  rw [hd]
  dsimp only
  rw [if_neg (loadable_checks h), ht]

/-- R113, R114: with a target slot, its sync state, the force bit and the commit's place decide. -/
theorem State.reqLoadProfile_target {s : State} {f : ProfileFields} {force : Byte} {positions : Vector (Option Int) 10}
    {i : SlotIx} (h : loadable f) (hd : decProfilePositions f.positions = some positions)
    (ht : (s.findSlot f.driver.toNat).or s.slotToGive = some i) :
    s.reqLoadProfile f force =
      if ((s.slot i).record.dirty && !force.getLsbD 0) = true then (s, refusal .conflict)
      else if (!s.commitPlace (slotBlock i)) = true then (s, refusal .queueFull)
      else
        ((((s.profileLoaded i (loadedRecord (s.slot i).record (s.findSlot f.driver.toNat).isSome f.driver.toNat
          f.revision.toNat ⟨positions, f.exit.toNat⟩) (s.slotlessIs f.driver.toNat)).commit (slotBlock i)).raiseKnown
            (s.slotlessIs f.driver.toNat)),
          okWith (enc8 i.val ++ encFlag (s.slot i).record.dirty ++
            encNat32 (if (s.findSlot f.driver.toNat).isSome then 0 else s.evictedFrom i))) := by
  unfold State.reqLoadProfile
  rw [hd]
  dsimp only
  rw [if_neg (loadable_checks h), ht]
  rfl

/-- R115: a driver without a slot whose ID is loaded is KNOWN. -/
theorem State.slotlessIs_iff (s : State) (id : Nat) :
    s.slotlessIs id = decide (s.table.driver = .new id ∨ s.table.driver = .dflt id) := by
  simp [State.slotlessIs, beq_eq_decide]

/-- R115, R121: DRIVER_CHANGED of a driver that became KNOWN. -/
theorem State.gains_raiseKnown {s : State} {b : Bool} {i : SlotIx} {id : Nat} (hd : b = true → s.table.driver = .known i)
    (hid : (s.slot i).record.driver = id) :
    s.gains (s.raiseKnown b) fun _ => if b then [.driverChanged (.known i) id] else [] := by
  cases b with
  | false => exact State.gains_of_ports rfl
  | true =>
    have := s.gains_raiseDriverChanged
    rw [hd rfl] at this
    simpa [State.raiseKnown, State.driverId, hid] using this

end Sys2Proof.Machine

namespace Sys2Proof

open Machine

/-- Settles O33: DELETE_PROFILE's checks in their order, then the slot's change and the commit of its block. -/
theorem deleteProfileEmptiesTheSlot : Obligations.DeleteProfileEmptiesTheSlot := by
  unfold Obligations.DeleteProfileEmptiesTheSlot
  intro s id k refused
  have hl : (Request.deleteProfile id).frame.length ≤ 100 := Request.length_frame_le _ nofun
  have same : ∀ {c : RespCode},
      (∀ u, (s.setPort .fleet u).reqDeleteProfile id = (s.setPort .fleet u, refusal c)) → refused c :=
    fun h => exec_answered rfl k rfl hl h
  refine ⟨fun h => same fun u => State.reqDeleteProfile_badField _ h, fun h0 hF => ?_⟩
  have hv := validDriver_of_ne h0 hF
  refine ⟨fun hf => same fun u => State.reqDeleteProfile_noProfile hv hf, fun i hf => ?_⟩
  have found := fun u => State.reqDeleteProfile_found (s := s.setPort .fleet u) hv hf
  refine ⟨fun ha => same fun u => ?active, fun ha => ⟨fun hp => same fun u => ?queueFull, fun hp => ?deleted⟩⟩
  case active => exact (found u).trans (if_pos ha)
  case queueFull => exact (found u).trans ((if_neg ha).trans (if_pos hp))
  case deleted =>
    have hp' : ¬s.commitPlace (slotBlock i) = false := by simp [hp]
    have hv := (State.reqDeleteProfile_found (s := s.written .fleet (.deleteProfile id)) hv hf).trans
      ((if_neg ha).trans (if_neg hp'))
    obtain ⟨t, ht, hs, hut, took, hans⟩ := exec_commits (c := .deleteProfile id) rfl k rfl hl hp hv
      (State.onlyIn_deleted _ i)
    obtain ⟨hsame, hother⟩ := State.slots_after_commit hut
    obtain ⟨hdirty, hdriver, hdflt, hcounter⟩ := State.table_after_commit hut
    have hslot : t.slot i = { storage := .pending, record :=
        { (s.slot i).record with inUse := false, pinned := false, dirty := false } } := by
      simp [hsame, State.deleted]
    refine ⟨t, ht, hs, hslot, State.emptySlot_le (by rw [hslot]), took.commitPlace, fun j hj => ?_, ?_, hdriver, hdflt,
      hcounter, took, hans⟩
    · simp [hother j hj, State.deleted, hj]
    · simp [hdirty, State.deleted, bne, beq_eq_decide]

/-- Settles O34: the slots that can be evicted, PIN_PROFILE's checks in their order, then the flag and its commit. -/
theorem pinProfileSetsThePin : Obligations.PinProfileSetsThePin := by
  unfold Obligations.PinProfileSetsThePin
  intro s id pin k answer
  have hl : (Request.pinProfile id pin).frame.length ≤ 100 := Request.length_frame_le _ nofun
  have same : ∀ {c : RespCode},
      (∀ u, (s.setPort .fleet u).reqPinProfile id pin = (s.setPort .fleet u, refusal c)) → answer c :=
    fun h => exec_answered rfl k rfl hl h
  refine ⟨fun i hpin hvictim => ?_, fun hall => ?_, fun h => same fun u => State.reqPinProfile_badField _ h,
    fun h0 hF => ?_⟩
  · obtain ⟨_, hfree, _⟩ := (s.evictable_iff i).mp (State.victim_some hvictim)
    simp [hpin] at hfree
  · have hnone : allSlots.filter s.evictable = [] := List.filter_eq_nil_iff.mpr fun i _ he => by
      obtain ⟨_, hpin, hdirty, hpending, hactive⟩ := (s.evictable_iff i).mp he
      rcases hall i with h | h | h | h
      · exact hactive h
      · simp [hpin] at h
      · simp [hdirty] at h
      · exact hpending h
    rw [State.victim, hnone]; rfl
  · have hv := validDriver_of_ne h0 hF
    refine ⟨fun hf => same fun u => State.reqPinProfile_noProfile hv hf, fun i hf => ?_⟩
    have found := fun u => State.reqPinProfile_found (s := s.setPort .fleet u) (pin := pin) hv hf
    refine ⟨fun ha => same fun u => ?already, fun ha => ⟨fun hp => same fun u => ?queueFull, fun hp => ?pins⟩⟩
    case already => exact (found u).trans (if_pos ha)
    case queueFull => exact (found u).trans ((if_neg ha).trans (if_pos hp))
    case pins =>
      have hp' : ¬s.commitPlace (slotBlock i) = false := by simp [hp]
      have hv := (State.reqPinProfile_found (s := s.written .fleet (.pinProfile id pin)) (pin := pin) hv hf).trans
        ((if_neg ha).trans (if_neg hp'))
      obtain ⟨t, ht, hs, hut, took, hans⟩ := exec_commits (c := .pinProfile id pin) rfl k rfl hl hp hv
        (State.onlyIn_modRecord _ i _)
      obtain ⟨hsame, hother⟩ := State.slots_after_commit hut
      obtain ⟨hdirty, hdriver, hdflt, hcounter⟩ := State.table_after_commit hut
      refine ⟨t, ht, hs, ?_, fun j hj => ?_, hdirty, hdriver, hdflt, hcounter, took, hans⟩
      · simp [hsame]
      · simp [hother j hj, hj]

/-- Settles O32: the target slot's new record, its commit, and the driver who becomes KNOWN. -/
theorem loadProfileWritesTheSlot : Obligations.LoadProfileWritesTheSlot := by
  unfold Obligations.LoadProfileWritesTheSlot
  intro s f force i k h0 hF hr he htarget hforce hp positions hd id kept known
  have hl : (Request.loadProfile f force).frame.length ≤ 100 := Request.length_frame_le _ nofun
  have hknown : s.slotlessIs id = known := s.slotlessIs_iff id
  let r := loadedRecord (s.slot i).record kept id f.revision.toNat ⟨positions, f.exit.toNat⟩
  let s0 := s.written .fleet (.loadProfile f force)
  have hv : s0.handle .fleet (.loadProfile f force) =
      (((s0.profileLoaded i r known).commit (slotBlock i)).raiseKnown known, okWith (enc8 i.val ++
        encFlag (s.slot i).record.dirty ++ encNat32 (if kept then 0 else s.evictedFrom i))) := by
    refine (State.reqLoadProfile_target (s := s0) ⟨h0, hF, hr, he, by rw [hd]; rfl⟩ hd htarget).trans ?_
    have hc : ¬((s.slot i).record.dirty && !force.getLsbD 0) = true := by
      rcases hforce with h | h <;> simp only [h] <;> simp
    have hq : ¬(!s.commitPlace (slotBlock i)) = true := by simp [hp]
    refine (if_neg hc).trans ((if_neg hq).trans ?_)
    rw [← hknown]
    rfl
  have hdriver : (((s0.profileLoaded i r known).commit (slotBlock i)).slot i).record.driver = id := by
    simp [State.profileLoaded, r, loadedRecord]
  have hdr : ∀ b : Bool, b = true → (s0.profileLoaded i r b).table.driver = .known i := fun b hb => by
    simp [State.profileLoaded, hb]
  obtain ⟨t, ht, hs, hut, took, hans⟩ := exec_commitsRaising (c := .loadProfile f force) rfl k rfl hl hp hv
    (State.onlyIn_profileLoaded s0 i r known) (by simp) (State.commit_only _ _) (State.onlyIn_raiseKnown _ _)
    (State.gains_raiseKnown (i := i) (fun h => ((State.commit_frame _ _).driver).trans (hdr known h)) hdriver)
    (rs := [.ports, .table, .store]) (by simp)
  obtain ⟨hsame, hother⟩ := State.slots_after_commit hut
  obtain ⟨hdirty, hdriver, hdflt, hcounter⟩ := State.table_after_commit hut
  refine ⟨t, ht, hs, ?_, fun j hj => ?_, ?_, ?_, ?_, ?_, took, ?_⟩
  · simp [hsame, State.profileLoaded, r, loadedRecord]
  · simp [hother j hj, State.profileLoaded, hj, s0]
  · simp [hdirty, State.profileLoaded, bne, beq_eq_decide, s0]
  · rw [hdflt]; unfold State.profileLoaded State.becomeKnown; split <;> rfl
  · rw [hcounter]; unfold State.profileLoaded State.becomeKnown; split <;> rfl
  · simp [hdriver, State.profileLoaded, s0]
  · exact hans

end Sys2Proof
end

section
/-! PROOF. STORE (06), the van record's requests WRITE_CALIBRATION and SET_ENABLE_MASK (02), and the checks of the table's
requests. -/

namespace Sys2Proof.Machine

/-! ## STORE -/

theorem mem_allAxes (a : Axis) : a ∈ allAxes := by revert a; decide

/-- R110: some effective axis is COASTING. -/
theorem State.effectiveCoasting_iff (s : State) :
    s.effectiveCoasting = true ↔ ∃ a, s.isEffective a = true ∧ (s.axis a).motion = .coasting := by
  simp [State.effectiveCoasting, mem_allAxes]

/-- R110: nothing stands in the way of a STORE. -/
abbrev State.storeBusy (s : State) : Prop :=
  s.moves.entries ≠ [] ∨ s.engine.active ≠ none ∨ ∃ a, s.isEffective a = true ∧ (s.axis a).motion = .coasting

theorem State.storeBusy_iff (s : State) :
    (!s.moves.entries.isEmpty || s.engine.active.isSome || s.effectiveCoasting) = true ↔ s.storeBusy := by
  rw [Bool.or_eq_true, Bool.or_eq_true, s.effectiveCoasting_iff, or_assoc, Option.isSome_iff_ne_none,
    Bool.not_eq_true', List.isEmpty_eq_false_iff]

/-- R110: STORE's checks, in order, up to the slot. -/
theorem State.reqStore_checks (s : State) :
    (s.van.commissioned = false → s.reqStore = (s, refusal .notCommissioned)) ∧
    (s.van.commissioned = true →
      (s.table.driver = .nobody → s.reqStore = (s, refusal .noDriver)) ∧
      (s.table.driver ≠ .nobody → s.storeBusy → s.reqStore = (s, refusal .busy))) := by
  unfold State.reqStore
  refine ⟨fun h => by simp [h], fun h => ⟨fun hd => by simp [h, hd], fun hd hb => ?_⟩⟩
  rw [if_neg (by simp [h]), if_neg hd, if_pos (s.storeBusy_iff.mpr hb)]

/-- R110, R111: STORE of a part at rest, with a driver. -/
theorem State.reqStore_free {s : State} (h : s.van.commissioned = true) (hd : s.table.driver ≠ .nobody)
    (hb : ¬s.storeBusy) :
    (s.slotToEdit = none → s.reqStore = (s, refusal .tableFull)) ∧
    (∀ i, s.slotToEdit = some i →
      (s.commitPlace (slotBlock i) = false → s.reqStore = (s, refusal .queueFull)) ∧
      (s.commitPlace (slotBlock i) = true → s.reqStore = (s.edit i s.storeInto,
        okWith (enc8 i.val ++ encNat16 (s.editedRecord i s.storeInto).revision ++
          enc16 (axisMask fun a => (s.storable a).isSome) ++ encNat32 (s.evictedByEdit i))))) := by
  unfold State.reqStore
  rw [if_neg (by simp [h]), if_neg hd, if_neg (mt s.storeBusy_iff.mp hb)]
  refine ⟨fun he => by rw [he], fun i he => ⟨fun hp => by simp [he, hp], fun hp => ?_⟩⟩
  simp [he, hp, State.slot_edit_same]

/-- R111: a STORE takes the position of an effective, commissioned axis that it trusts. -/
abbrev State.trusts (s : State) (a : Axis) : Prop :=
  s.isEffective a = true ∧ s.isCommissioned a = true ∧
    (a.counted = true → (s.axis a).confidence = .normalised) ∧ (a.mirror = true → (s.axis a).sensorFault = false)

theorem Axis.mirror_eq (a : Axis) : a.mirror = !a.counted := by revert a; decide

/-- R49, R50: an axis has a store conversion where it is commissioned. -/
theorem State.storeConversion_isSome (s : State) (a : Axis) (x : Int) :
    (s.storeConversion a x).isSome = s.isCommissioned a := by
  unfold State.storeConversion State.isCommissioned State.countedCal State.mirrorCal
  by_cases h : a.val < 6
  · have h6 : ¬6 ≤ a.val := by omega
    simp [Axis.counted, h, h6]
  · have h6 : 6 ≤ a.val := by omega
    simp [Axis.counted, h, h6]

/-- R111: the store conversion of the axes a STORE takes. -/
theorem State.storable_eq (s : State) (a : Axis) :
    (s.trusts a → s.storable a = s.storeConversion a (s.axis a).position) ∧ (¬s.trusts a → s.storable a = none) := by
  have hsome := s.storeConversion_isSome a (s.axis a).position
  unfold State.storable State.trusts
  rw [Axis.mirror_eq]
  cases he : s.isEffective a with
  | false => simp
  | true =>
    cases hc : s.isCommissioned a with
    | false =>
      have hnone : s.storeConversion a (s.axis a).position = none := by simpa [hc] using hsome
      simp [hnone]
    | true =>
      cases a.counted with
      | true => by_cases hn : (s.axis a).confidence = .normalised <;> simp [hn]
      | false => cases hf : (s.axis a).sensorFault <;> simp [hf]

theorem State.storable_isSome (s : State) (a : Axis) : (s.storable a).isSome = true ↔ s.trusts a := by
  by_cases h : s.trusts a
  · rw [(s.storable_eq a).1 h, s.storeConversion_isSome]
    exact iff_of_true h.2.1 h
  · rw [(s.storable_eq a).2 h]
    exact iff_of_false (by simp) h

/-! ## WRITE_CALIBRATION -/

/-- R30: the checks of the whole request. -/
theorem calibrationValid_iff (y : Byte) (es : List CalEntry) : calibrationValid y es = true ↔
    (∀ e ∈ es, e.valid = true) ∧ (es.map (·.axisNumber)).Nodup ∧ (y.getLsbD 0 = true ∨ es ≠ []) := by
  simp [calibrationValid, and_assoc]

theorem State.listedNumber_iff (s : State) (es : List CalEntry) :
    es.any (fun e => s.listedNumber e.axisNumber) = true ↔ ∃ e ∈ es, ∃ m ∈ s.moves.entries, m.axis.val = e.axisNumber := by
  simp [State.listedNumber]

theorem State.effectiveNumber_iff (s : State) (es : List CalEntry) :
    es.all (fun e => s.effectiveNumber e.axisNumber) = true ↔ ∀ e ∈ es, s.effective.getLsbD e.axisNumber = true := by
  simp [State.effectiveNumber]

/-- R30, R31: the van record a WRITE_CALIBRATION leaves. -/
def State.calibrated (s : State) (y : Byte) (es : List CalEntry) : VanRecord :=
  { (es.foldl VanRecord.setCal s.van).setPolicy y with commissioned := true }

/-- R30, R31: WRITE_CALIBRATION's checks in order, and its effect. -/
theorem State.reqWriteCalibration_eq (s : State) (y : Byte) (es : List CalEntry) :
    s.reqWriteCalibration y es =
      if ¬calibrationValid y es = true then (s, refusal .badField)
      else if ¬es.all (fun e => s.effectiveNumber e.axisNumber) = true then (s, refusal .notFitted)
      else if es.any (fun e => s.listedNumber e.axisNumber) = true then (s, refusal .busy)
      else if ¬s.commitPlace vanBlock = true then (s, refusal .queueFull)
      else ({ s with van := s.calibrated y es }.commit vanBlock, okWith []) := by
  simp only [State.reqWriteCalibration, Bool.not_eq_true', Bool.not_eq_true, State.calibrated]

/-- R31: calibration sets of distinct axes touch no more of the van record than their axes' sets. -/
theorem foldl_setCal (es : List CalEntry) (v : VanRecord) (hn : (es.map (·.axisNumber)).Nodup) :
    (∀ a : Fin 6, (∀ e ∈ es, e.axisNumber = a.val → (es.foldl VanRecord.setCal v).counted[a] = some e.countedSet) ∧
      ((∀ e ∈ es, e.axisNumber ≠ a.val) → (es.foldl VanRecord.setCal v).counted[a] = v.counted[a])) ∧
    (∀ m : Fin 4, (∀ e ∈ es, e.axisNumber = m.val + 6 → (es.foldl VanRecord.setCal v).mirror[m] = some e.mirrorSet) ∧
      ((∀ e ∈ es, e.axisNumber ≠ m.val + 6) → (es.foldl VanRecord.setCal v).mirror[m] = v.mirror[m])) ∧
    ∃ c k, es.foldl VanRecord.setCal v = { v with counted := c, mirror := k } := by
  induction es generalizing v with
  | nil => exact ⟨fun a => ⟨nofun, fun _ => rfl⟩, fun m => ⟨nofun, fun _ => rfl⟩, _, _, rfl⟩
  | cons e es ih =>
    rw [List.map_cons, List.nodup_cons] at hn
    obtain ⟨hnot, hn⟩ := hn
    obtain ⟨hcounted, hmirror, c, k, hrest⟩ := ih (v.setCal e) hn
    have hlater : ∀ n, e.axisNumber = n → ∀ x ∈ es, x.axisNumber ≠ n := fun n he x hx h =>
      hnot (List.mem_map.mpr ⟨x, hx, h.trans he.symm⟩)
    have hset : (∀ a : Fin 6, (e.axisNumber = a.val → (v.setCal e).counted[a] = some e.countedSet) ∧
          (e.axisNumber ≠ a.val → (v.setCal e).counted[a] = v.counted[a])) ∧
        (∀ m : Fin 4, (e.axisNumber = m.val + 6 → (v.setCal e).mirror[m] = some e.mirrorSet) ∧
          (e.axisNumber ≠ m.val + 6 → (v.setCal e).mirror[m] = v.mirror[m])) ∧
        ∃ c k, v.setCal e = { v with counted := c, mirror := k } := by
      unfold VanRecord.setCal
      split
      · rename_i h6
        refine ⟨fun a => ⟨fun h => ?_, fun h => ?_⟩, fun m => ⟨fun h => by omega, fun _ => rfl⟩, _, _, rfl⟩
        · simp [h]
        · simp [h]
      · rename_i h6
        split
        · rename_i h4
          refine ⟨fun a => ⟨fun h => by omega, fun _ => rfl⟩, fun m => ⟨fun h => ?_, fun h => ?_⟩, _, _, rfl⟩
          · simp [h]
          · have : e.axisNumber - 6 ≠ m.val := by omega
            simp [this]
        · rename_i h4
          exact ⟨fun a => ⟨fun h => by omega, fun _ => rfl⟩, fun m => ⟨fun h => by omega, fun _ => rfl⟩, _, _, rfl⟩
    obtain ⟨hsetc, hsetm, c', k', hone⟩ := hset
    refine ⟨fun a => ⟨fun x hx h => ?_, fun h => ?_⟩, fun m => ⟨fun x hx h => ?_, fun h => ?_⟩, c, k, ?_⟩
    · rcases List.mem_cons.mp hx with rfl | hx
      · exact ((hcounted a).2 (hlater _ h)).trans ((hsetc a).1 h)
      · exact (hcounted a).1 x hx h
    · exact ((hcounted a).2 fun x hx => h x (List.mem_cons_of_mem _ hx)).trans ((hsetc a).2 (h e List.mem_cons_self))
    · rcases List.mem_cons.mp hx with rfl | hx
      · exact ((hmirror m).2 (hlater _ h)).trans ((hsetm m).1 h)
      · exact (hmirror m).1 x hx h
    · exact ((hmirror m).2 fun x hx => h x (List.mem_cons_of_mem _ hx)).trans ((hsetm m).2 (h e List.mem_cons_self))
    · rw [List.foldl_cons, hrest, hone]

/-- R30 to R32: the van record after a WRITE_CALIBRATION, field by field. -/
theorem State.calibrated_fields (s : State) (y : Byte) (es : List CalEntry) :
    (s.calibrated y es).counted = (es.foldl VanRecord.setCal s.van).counted ∧
    (s.calibrated y es).mirror = (es.foldl VanRecord.setCal s.van).mirror ∧
    (s.calibrated y es).stops = (es.foldl VanRecord.setCal s.van).stops ∧
    (s.calibrated y es).enable = (es.foldl VanRecord.setCal s.van).enable ∧
    (s.calibrated y es).commissioned = true ∧
    (s.calibrated y es).recallDefault =
      (if y.getLsbD 0 then y.getLsbD 1 else (es.foldl VanRecord.setCal s.van).recallDefault) ∧
    (s.calibrated y es).exitAllowed =
      (if y.getLsbD 0 then y.getLsbD 2 else (es.foldl VanRecord.setCal s.van).exitAllowed) ∧
    (s.calibrated y es).doorOpenOnly =
      (if y.getLsbD 0 then y.getLsbD 3 else (es.foldl VanRecord.setCal s.van).doorOpenOnly) := by
  unfold State.calibrated VanRecord.setPolicy
  split <;> exact ⟨rfl, rfl, rfl, rfl, rfl, rfl, rfl, rfl⟩

theorem State.onlyIn_van (s : State) (v : VanRecord) : s.onlyIn { s with van := v } [.van] := by
  intro p hp
  cases p with
  | van => exact absurd (List.mem_singleton_self _) hp
  | _ => rfl

/-- R152: the storage states of the three blocks that are no slot's. -/
theorem State.setStorage_states (s : State) (b : BlockIx) (x : Storage) :
    (s.setStorage b x).store.dfltState = (if b = 48 then x else s.store.dfltState) ∧
      (s.setStorage b x).store.vanState = (if b = 49 then x else s.store.vanState) ∧
      (s.setStorage b x).store.snapState = (if b = 50 then x else s.store.snapState) := by
  unfold State.setStorage
  cases hb : blockSlot b with
  | some i =>
    have hlt : b.val < 48 := by
      by_contra h
      rw [blockSlot, dif_neg h] at hb
      cases hb
    have hne : b ≠ 48 ∧ b ≠ 49 ∧ b ≠ 50 :=
      ⟨by rintro rfl; revert hlt; decide, by rintro rfl; revert hlt; decide, by rintro rfl; revert hlt; decide⟩
    rw [if_neg hne.1, if_neg hne.2.1, if_neg hne.2.2]
    exact ⟨rfl, rfl, rfl⟩
  | none =>
    have hge : 48 ≤ b.val := by
      by_contra h
      rw [blockSlot, dif_pos (by omega)] at hb
      cases hb
    have hcases : b = 48 ∨ b = 49 ∨ b = 50 := by
      rcases (by omega : b.val = 48 ∨ b.val = 49 ∨ b.val = 50) with h | h | h
      · exact .inl (Fin.ext h)
      · exact .inr (.inl (Fin.ext h))
      · exact .inr (.inr (Fin.ext h))
    rcases hcases with rfl | rfl | rfl <;> exact ⟨rfl, rfl, rfl⟩

/-- R153: a write that starts leaves the storage states. -/
theorem State.startWrite_states (s : State) : s.startWrite.store.dfltState = s.store.dfltState ∧
    s.startWrite.store.vanState = s.store.vanState ∧ s.startWrite.store.snapState = s.store.snapState := by
  unfold State.startWrite; repeat' split
  all_goals exact ⟨rfl, rfl, rfl⟩

/-- R150: a commit that is placed leaves the storage states. -/
theorem State.placeCommit_states (s : State) (b : BlockIx) :
    (s.placeCommit b).store.dfltState = s.store.dfltState ∧ (s.placeCommit b).store.vanState = s.store.vanState ∧
      (s.placeCommit b).store.snapState = s.store.snapState := by
  unfold State.placeCommit; repeat' split
  all_goals exact ⟨rfl, rfl, rfl⟩

/-- R152: the storage states a commit sets, of the three blocks that are no slot's. -/
theorem State.commit_storage (s : State) (b : BlockIx) :
    (s.commit b).store.dfltState = (if b = 48 then .pending else s.store.dfltState) ∧
      (s.commit b).store.vanState = (if b = 49 then .pending else s.store.vanState) ∧
      (s.commit b).store.snapState = (if b = 50 then .pending else s.store.snapState) := by
  obtain ⟨h1, h2, h3⟩ := State.startWrite_states ((s.setStorage b .pending).placeCommit b)
  obtain ⟨k1, k2, k3⟩ := (s.setStorage b .pending).placeCommit_states b
  rw [State.commit, h1, h2, h3, k1, k2, k3]
  exact s.setStorage_states b .pending

/-- R35, R40: after the van record's commit, whatever the ports then gain. -/
theorem State.van_after_commit {u t : State} (h : (u.commit vanBlock).onlyIn t [.ports]) :
    t.van = u.van ∧ t.store.vanState = .pending := by
  have hstore : t.store = (u.commit vanBlock).store := h .store (by simp)
  have hvan : t.van = (u.commit vanBlock).van := h .van (by simp)
  exact ⟨hvan.trans (u.commit_frame vanBlock).van, by rw [hstore, (u.commit_storage vanBlock).2.1]; rfl⟩

/-! ## SET_ENABLE_MASK -/

/-- R35: the axes that leave the effective mask. -/
def State.leaving (s : State) (mask : BitVec 16) : List Axis :=
  allAxes.filter fun a => s.isEffective a && !{ s with van := { s.van with enable := mask.setWidth 10 } }.isEffective a

/-- R35, R37: SET_ENABLE_MASK. -/
theorem State.reqSetEnableMask_eq (s : State) (mask : BitVec 16) : s.reqSetEnableMask mask =
    if s.commitPlace vanBlock = false then (s, refusal .queueFull)
    else ((((s.leaving mask).foldl State.depart
        { s with van := { s.van with enable := mask.setWidth 10 } }).commit vanBlock).conclude [],
      okWith (encMask ((s.leaving mask).foldl State.depart
        { s with van := { s.van with enable := mask.setWidth 10 } }).effective)) := by
  simp only [State.reqSetEnableMask, Bool.not_eq_true', State.leaving]

/-- R35: an axis is effective under a mask where it is fitted and the mask enables it. -/
theorem State.isEffective_mask (s : State) (mask : BitVec 16) (a : Axis) :
    { s with van := { s.van with enable := mask.setWidth 10 } }.isEffective a = (s.isFitted a && mask.getLsbD a.val) := by
  have ha : a.val < 10 := a.isLt
  simp [State.isEffective, State.effective, State.isFitted, ha]

/-- R35: an axis leaves the effective mask where it is in it and the new mask does not enable it. -/
theorem State.mem_leaving (s : State) (mask : BitVec 16) (a : Axis) :
    a ∈ s.leaving mask ↔ s.isEffective a = true ∧ mask.getLsbD a.val = false := by
  unfold State.leaving
  rw [List.mem_filter, State.isEffective_mask]
  have hfit : s.isEffective a = true → s.isFitted a = true := by
    simp only [State.isEffective, State.effective, State.isFitted, BitVec.getLsbD_and, Bool.and_eq_true]
    exact And.left
  constructor
  · rintro ⟨_, h⟩
    rw [Bool.and_eq_true, Bool.not_eq_true', Bool.and_eq_false_iff] at h
    exact ⟨h.1, h.2.resolve_left (by simp [hfit h.1])⟩
  · rintro ⟨h1, h2⟩
    exact ⟨mem_allAxes a, by simp [h1, h2]⟩

/-- A change of the jog records that a test picks, where it picks none. -/
theorem State.modJogs_none {s : State} {pick : JogRecord → Bool} {f : JogRecord → JogRecord}
    (h : ∀ r ∈ s.moves.jogs, ¬pick r = true) : s.modJogs pick f = s := by
  have hmap : (s.moves.jogs.map fun r => if pick r then f r else r) = s.moves.jogs :=
    (List.map_congr_left fun r hr => if_neg (h r hr)).trans (List.map_id _)
  unfold State.modJogs
  rw [hmap]

/-- R37: an axis without an entry or an open jog departs without more ado. -/
theorem State.depart_idle {s : State} {a : Axis} (he : s.entryOf a = none) (hj : s.openJog a = none) :
    s.depart a = s := by
  have hmap : s.modJogs (fun r => r.axis == a && !r.closing) JogRecord.release = s :=
    State.modJogs_none (List.find?_eq_none.mp hj)
  unfold State.depart
  rw [hmap]
  dsimp only
  rw [he]

/-- R37: where no departing axis has an entry or an open jog, none changes anything as it departs. -/
theorem State.foldl_depart_idle {s : State} (l : List Axis)
    (h : ∀ a ∈ l, s.entryOf a = none ∧ s.openJog a = none) : l.foldl State.depart s = s := by
  induction l with
  | nil => rfl
  | cons a l ih =>
    obtain ⟨he, hj⟩ := h a List.mem_cons_self
    rw [List.foldl_cons, State.depart_idle he hj]
    exact ih fun b hb => h b (List.mem_cons_of_mem _ hb)

/-- Whether anything is left to do does not depend on the ports, the van record, the table or the store. -/
theorem State.settled_of_moves {s t : State} (h : s.settled) (hm : t.moves = s.moves) (he : t.engine = s.engine) :
    t.settled := by
  unfold State.settled State.jogCloses State.owns at h ⊢
  rw [hm, he]
  exact h

end Sys2Proof.Machine

namespace Sys2Proof

open Machine

/-- Settles O31: for each request, the first check of its rule that fails gives the answer. -/
theorem tableRequestsRefusedInOrder : Obligations.TableRequestsRefusedInOrder := by
  unfold Obligations.TableRequestsRefusedInOrder
  intro s
  refine ⟨fun id flags k h => ?assign, fun f force k => ?load, fun y es k hlen => ?calibrate, fun k => ?store⟩
  case assign =>
    refine exec_answered rfl k rfl (Request.length_frame_le _ nofun) fun u => ?_
    show (s.setPort .fleet u).reqAssignDriver id flags = _
    simp [State.reqAssignDriver, not_validDriver h, refusal]
  case load =>
    intro refused valid target
    have same : ∀ {c : RespCode},
        (∀ u, (s.setPort .fleet u).reqLoadProfile f force = (s.setPort .fleet u, refusal c)) → refused c :=
      fun h => exec_answered rfl k rfl (Request.length_frame_le _ nofun) h
    refine ⟨fun h => same fun u => State.reqLoadProfile_badField _ h,
      fun h ht => same fun u => State.reqLoadProfile_tableFull h ht, fun h i ht => ?_⟩
    obtain ⟨positions, hd⟩ := Option.isSome_iff_exists.mp h.2.2.2.2
    have decided := fun u => State.reqLoadProfile_target (s := s.setPort .fleet u) (force := force) h hd ht
    refine ⟨fun hdirty hforce => same fun u => (decided u).trans (if_pos ?_),
      fun hfree hp => same fun u => (decided u).trans ((if_neg ?_).trans (if_pos ?_))⟩
    · show ((s.slot i).record.dirty && !force.getLsbD 0) = true
      rw [hdirty, hforce]; rfl
    · rcases hfree with h | h <;> simp [h]
    · simp [hp]
  case calibrate =>
    intro refused valid fitted listed
    have hl : (Request.writeCalibration y es).frame.length ≤ 100 :=
      Request.length_frame_le _ fun _ _ h => by cases h; exact hlen
    have same : ∀ {c : RespCode}, (∀ u, (s.setPort .fleet u).reqWriteCalibration y es =
        (s.setPort .fleet u, refusal c)) → refused c := fun h => exec_answered rfl k rfl hl h
    have decided := fun u => (s.setPort .fleet u).reqWriteCalibration_eq y es
    have hvalid := calibrationValid_iff y es
    have hfitted := s.effectiveNumber_iff es
    have hlisted := s.listedNumber_iff es
    refine ⟨fun h => same fun u => ?_, fun h hf => same fun u => ?_, fun h hf hb => same fun u => ?_,
      fun h hf hb hp => same fun u => ?_⟩
    · exact (decided u).trans (if_pos (mt hvalid.mp h))
    · exact (decided u).trans ((if_neg (not_not_intro (hvalid.mpr h))).trans (if_pos (mt hfitted.mp hf)))
    · exact (decided u).trans ((if_neg (not_not_intro (hvalid.mpr h))).trans
        ((if_neg (not_not_intro (hfitted.mpr hf))).trans (if_pos (hlisted.mpr hb))))
    · have hq : ¬s.commitPlace vanBlock = true := by rw [show s.commitPlace vanBlock = false from hp]; decide
      exact (decided u).trans ((if_neg (not_not_intro (hvalid.mpr h))).trans
        ((if_neg (not_not_intro (hfitted.mpr hf))).trans ((if_neg (mt hlisted.mp hb)).trans (if_pos hq))))
  case store =>
    intro refused busy
    have same : ∀ {c : RespCode}, (∀ u, (s.setPort .panel u).reqStore = (s.setPort .panel u, refusal c)) → refused c :=
      fun h => exec_answered rfl k rfl (Request.length_frame_le _ nofun) h
    have checks := fun u => (s.setPort .panel u).reqStore_checks
    refine ⟨fun h => same fun u => (checks u).1 h, fun h => ⟨fun hd => same fun u => ((checks u).2 h).1 hd, fun hd =>
      ⟨fun hb => same fun u => ((checks u).2 h).2 hd hb, fun hb => ?_⟩⟩⟩
    have free := fun u => State.reqStore_free (s := s.setPort .panel u) h hd hb
    exact ⟨fun he => same fun u => (free u).1 he, fun i he hp => same fun u => ((free u).2 i he).1 hp⟩

/-- Settles O38: the edit of the active driver's slot with the positions that STORE trusts. -/
theorem storeTakesTheTrustedPositions : Obligations.StoreTakesTheTrustedPositions := by
  unfold Obligations.StoreTakesTheTrustedPositions
  intro s i k hcom hdriver hedit hentries hactive hcoast hp taken old fresh id revision
  have hfresh : fresh = s.table.driver.slotless := by cases h : s.table.driver <;> simp [fresh, h, ActiveDriver.slotless]
  have hid : id = s.driverId s.table.driver := by cases h : s.table.driver <;> simp [id, h, State.driverId]
  have hfree : ¬s.storeBusy := by
    rintro (h | h | ⟨a, he, hm⟩)
    · exact h hentries
    · exact h hactive
    · exact hcoast a he hm
  have hv := ((State.reqStore_free (s := s.written .panel .store) hcom hdriver hfree).2 i hedit).2 hp
  obtain ⟨t, ht, hs, hslot, hother, hdirty, hknown, hdflt, hcounter, took, ha⟩ := exec_edits
    (c := .store) rfl k rfl (Request.length_frame_le _ nofun) hedit hp hv
  have hrevision : (s.editedRecord i s.storeInto).revision = revision := by
    cases hs : s.table.driver.slotless <;> simp [State.editedRecord, hs, revision, hfresh, newRecord, old]
  have hmask : ∀ a : Axis, (axisMask fun a => (s.storable a).isSome).getLsbD a.val = true ↔ taken a := fun a => by
    rw [axisMask_getLsbD]; exact s.storable_isSome a
  refine ⟨fun k hk => ?_, t, ht, hs, ?_, hother, hdirty, hknown, hdflt, hcounter, took,
    axisMask fun a => (s.storable a).isSome, hmask, axisMask_lt (n := 10) _ fun a h => absurd a.isLt (by omega), ?_⟩
  · simpa [State.slotToEdit, hk] using hedit.symm
  · refine ⟨(s.editedRecord i s.storeInto).profile, ?_, fun a => ⟨fun h => ?_, fun h => ?_⟩, ?_⟩
    · cases hs : s.table.driver.slotless <;> simp [State.editedRecord, hs, hfresh, newRecord, old, State.storeInto]
    · have hsome : (s.storeConversion a (s.axis a).position).isSome = true :=
        (s.storeConversion_isSome a _).trans h.2.1
      obtain ⟨x, hx⟩ := Option.isSome_iff_exists.mp hsome
      have := (s.storable_eq a).1 h
      simp [State.editedRecord, State.storeInto, this, hx]
    · have := (s.storable_eq a).2 h
      cases hs : s.table.driver.slotless <;>
        simp [State.editedRecord, State.storeInto, this, hs, hfresh, newRecord, old]
    · have hinto : (s.written .panel .store).storeInto = s.storeInto := rfl
      rw [hslot, hinto]
      cases hs : s.table.driver.slotless <;>
        simp [State.editedRecord, hs, hfresh, newRecord, old, hid, revision]
  · have hevict : s.evictedByEdit i = if fresh = true ∧ old.inUse = true then old.driver else 0 := by
      rw [s.evictedByEdit_eq, ← hfresh]
    rw [hfresh] at hevict
    have hevents : s.editEvents i s.storeInto = fun p =>
        (if p = .fleet then [.profileDirty i id revision] else []) ++
          (if fresh then [.driverChanged (.known i) id] else []) := by
      funext p
      rw [hfresh, hid, ← hrevision]
      rfl
    rw [← hevents, hfresh, ← hevict, ← hrevision]
    exact ha

/-- Settles O39: the sets and the policy, then the van record's commit. -/
theorem writeCalibrationReplacesTheSets : Obligations.WriteCalibrationReplacesTheSets := by
  unfold Obligations.WriteCalibrationReplacesTheSets
  intro s y es k hlen hvalid hnodup hsome hfitted hlisted hp
  have hl : (Request.writeCalibration y es).frame.length ≤ 100 :=
    Request.length_frame_le _ fun _ _ h => by cases h; exact hlen
  let s0 := s.written .fleet (.writeCalibration y es)
  have hv : s0.handle .fleet (.writeCalibration y es) =
      ({ s0 with van := s0.calibrated y es }.commit vanBlock, okWith []) := by
    refine (s0.reqWriteCalibration_eq y es).trans ?_
    rw [if_neg (not_not_intro ((calibrationValid_iff y es).mpr ⟨hvalid, hnodup, hsome⟩)),
      if_neg (not_not_intro ((s0.effectiveNumber_iff es).mpr hfitted)),
      if_neg (mt (s0.listedNumber_iff es).mp fun ⟨e, he, m, hm, h⟩ => hlisted e he m hm h),
      if_neg (not_not_intro (show s0.commitPlace vanBlock = true from hp))]
  obtain ⟨t, ht, hs, hut, took, ha⟩ := exec_commitsRaising (c := .writeCalibration y es) rfl k rfl hl hp hv
    (s0.onlyIn_van _) (by simp) (State.commit_only_store rfl _) (.refl _ _) (State.gains_of_ports rfl)
    (rs := [.ports, .van, .store]) (by simp)
  obtain ⟨hvan, hstate⟩ := State.van_after_commit hut
  obtain ⟨hcounted, hmirror, c, m, hrest⟩ := foldl_setCal es s.van hnodup
  obtain ⟨f1, f2, f3, f4, f5, f6, f7, f8⟩ := s.calibrated_fields y es
  rw [hrest] at f3 f4 f6 f7 f8
  refine ⟨t, ht, hs, ?_⟩
  rw [show t.van = s.calibrated y es from hvan, f1, f2, f3, f4, f5, f6, f7, f8]
  exact ⟨hcounted, hmirror, rfl, rfl, rfl, rfl, rfl, rfl, hstate, took, ha⟩

/-- Settles O40: SET_ENABLE_MASK's refusal, and the mask of a part none of whose departing axes has anything in hand. -/
theorem setEnableMaskReplacesTheMask : Obligations.SetEnableMaskReplacesTheMask := by
  unfold Obligations.SetEnableMaskReplacesTheMask
  intro s mask k hsettled
  have hl : (Request.setEnableMask mask).frame.length ≤ 100 := Request.length_frame_le _ nofun
  refine ⟨fun hp => exec_answered rfl k rfl hl fun u => ?queueFull, fun hp hidle => ?replaced⟩
  case queueFull => exact ((s.setPort .fleet u).reqSetEnableMask_eq mask).trans (if_pos hp)
  case replaced =>
    let s0 := s.written .fleet (.setEnableMask mask)
    let masked : State := { s0 with van := { s0.van with enable := mask.setWidth 10 } }
    have hdepart : (s0.leaving mask).foldl State.depart masked = masked := by
      refine State.foldl_depart_idle _ fun a ha => ?_
      obtain ⟨h1, h2⟩ := (s0.mem_leaving mask a).mp ha
      exact hidle a h1 h2
    have hp' : ¬s0.commitPlace vanBlock = false := by
      rw [show s0.commitPlace vanBlock = true from hp]; decide
    have hv : s0.handle .fleet (.setEnableMask mask) = (masked.commit vanBlock, okWith (encMask masked.effective)) := by
      refine (s0.reqSetEnableMask_eq mask).trans ?_
      rw [if_neg hp', hdepart]
      have frame := masked.commit_frame vanBlock
      rw [State.conclude_settled (State.settled_of_moves (s := s) hsettled frame.moves frame.engine)]
    obtain ⟨t, ht, hs, hut, took, ha⟩ := exec_commitsRaising (c := .setEnableMask mask) rfl k rfl hl hp hv
      (s0.onlyIn_van _) (by simp) (State.commit_only_store rfl _) (.refl _ _) (State.gains_of_ports rfl)
      (rs := [.ports, .van, .store]) (by simp)
    obtain ⟨hvan, hstate⟩ := State.van_after_commit hut
    refine ⟨t, ht, hs, hvan, fun a => ?_, hstate, took, ha⟩
    have hfitted : t.fitted = s.fitted := hs .fitted (by simp)
    rw [← s.isEffective_mask mask a]
    unfold State.isEffective State.effective
    rw [hvan, hfitted]

end Sys2Proof
end

section
/-! PROOF. The nonvolatile array (08): commits, attempts, the ends of writes and the loss of supply. -/

namespace Sys2Proof.Machine

/-! ## The storage states and the images -/

theorem blockSlot_slotBlock (i : SlotIx) : blockSlot (slotBlock i) = some i := by simp [blockSlot, slotBlock]

/-- R148: the slot of a block, by its index. -/
theorem blockSlot_of_val {b : BlockIx} {i : SlotIx} (h : i.val = b.val) : blockSlot b = some i := by
  rw [show b = slotBlock i from Fin.ext h.symm, blockSlot_slotBlock]

theorem blockSlot_val {b : BlockIx} {i : SlotIx} (h : blockSlot b = some i) : i.val = b.val := by
  unfold blockSlot at h
  split at h
  · cases h; rfl
  · cases h

/-- R152: the storage state of the block's slot, and of no other. -/
theorem State.slot_setStorage (s : State) (b : BlockIx) (x : Storage) (i : SlotIx) :
    (s.setStorage b x).slot i = if i.val = b.val then { s.slot i with storage := x } else s.slot i := by
  unfold State.setStorage
  cases h : blockSlot b with
  | some j =>
    have hj := blockSlot_val h
    by_cases hi : i = j
    · subst hi; simp [hj]
    · have : i.val ≠ b.val := fun k => hi (Fin.ext (k.trans hj.symm))
      simp [hi, this]
  | none =>
    have : i.val ≠ b.val := fun k => by rw [blockSlot_of_val k] at h; cases h
    rw [if_neg this]
    dsimp only
    repeat' split
    all_goals rfl

/-- R152: no slot's block: the table stays. -/
theorem State.setStorage_table {b : BlockIx} (h : blockSlot b = none) (s : State) (x : Storage) :
    (s.setStorage b x).table = s.table := by
  unfold State.setStorage
  rw [h]
  dsimp only
  repeat' split
  all_goals rfl

theorem State.onlyIn_setStorage (s : State) (b : BlockIx) (x : Storage) : s.onlyIn (s.setStorage b x) [.table, .store] := by
  have f := s.setStorage_frame b x
  intro p hp
  cases p with
  | powered => exact f.powered
  | ports => exact f.ports
  | monitor => exact f.monitor
  | axes => exact f.axes
  | fitted => exact f.fitted
  | van => exact f.van
  | moves => exact f.moves
  | engine => exact f.engine
  | power => exact f.power
  | model => exact f.model
  | pending => exact f.pending
  | table | store => simp at hp

/-- R153: an image does not see the storage states. -/
theorem State.imageOf_setStorage (s : State) (b c : BlockIx) (x : Storage) :
    (s.setStorage b x).imageOf c = s.imageOf c := by
  have f := s.setStorage_frame b x
  have hslot : ∀ i, ((s.setStorage b x).slot i).record = (s.slot i).record := fun i => by
    rw [State.slot_setStorage]; split <;> rfl
  unfold State.imageOf State.snapshotImage State.axis
  rw [f.van, f.axes, f.power, f.dflt]
  simp only [hslot]

theorem State.imageOf_placeCommit (s : State) (b c : BlockIx) : (s.placeCommit b).imageOf c = s.imageOf c := by
  unfold State.placeCommit
  repeat' split
  all_goals rfl

/-- R153: the images of the four kinds of block. -/
theorem State.imageOf_slot (s : State) {b : BlockIx} {i : SlotIx} (h : i.val = b.val) :
    s.imageOf b = .slot i (s.slot i).record := by
  unfold State.imageOf; rw [blockSlot_of_val h]

theorem State.onSpare_slot (s : State) {b : BlockIx} {i : SlotIx} (h : i.val = b.val) :
    s.onSpare b = true ↔ s.store.spare = some i := by
  unfold State.onSpare
  rw [blockSlot_of_val h]
  exact beq_iff_eq

/-! ## Commits -/

/-- R150, R151: where a commit goes. -/
theorem State.placeCommit_queues (s : State) (b : BlockIx) :
    (b ∈ s.store.queue → (s.placeCommit b).store.queue = s.store.queue ∧ (s.placeCommit b).store.held = s.store.held) ∧
    (b ∉ s.store.queue → s.store.queue.length < 8 →
      (s.placeCommit b).store.queue = s.store.queue ++ [b] ∧ (s.placeCommit b).store.held = s.store.held) ∧
    (b ∉ s.store.queue → 8 ≤ s.store.queue.length → (s.placeCommit b).store.queue = s.store.queue ∧
      (s.placeCommit b).store.held = if b ∈ s.store.held then s.store.held else s.store.held ++ [b]) := by
  unfold State.placeCommit
  refine ⟨fun h => by simp [h], fun h hl => by simp [h, hl], fun h hl => ?_⟩
  have hl' : ¬s.store.queue.length < 8 := by omega
  by_cases hb : b ∈ s.store.held <;> simp [h, hl', hb]

theorem State.placeCommit_write (s : State) (b : BlockIx) : (s.placeCommit b).store.write = s.store.write ∧
    (s.placeCommit b).store.state = s.store.state := by
  unfold State.placeCommit
  repeat' split
  all_goals exact ⟨rfl, rfl⟩

/-- R153: the write of a block as it starts. -/
theorem State.firstWrite_of_image (s : State) (b : BlockIx) :
    let w : Write := { block := b, image := s.imageOf b, onSpare := s.onSpare b }
    w.attempt = 1 ∧ w.lastFailure = none ∧
      (∀ i : SlotIx, i.val = b.val → w.image = .slot i (s.slot i).record ∧ (w.onSpare = true ↔ s.store.spare = some i)) ∧
      (b = 48 → w.image = .dflt s.table.dflt ∧ w.onSpare = false) ∧
      (b = 49 → w.image = .van s.van ∧ w.onSpare = false) ∧
      (b = 50 → w.image = .snapshot s.snapshotImage ∧ w.onSpare = false) := by
  refine ⟨rfl, rfl, fun i h => ⟨s.imageOf_slot h, s.onSpare_slot h⟩, ?_, ?_, ?_⟩
  all_goals
    rintro rfl
    exact ⟨rfl, rfl⟩

end Sys2Proof.Machine

namespace Sys2Proof

open Machine

/-- Settles O29: the storage state, the place in a busy store, the start in an idle one. -/
theorem commitFindsItsPlace : Obligations.CommitFindsItsPlace := by
  unfold Obligations.CommitFindsItsPlace
  intro s b hpark
  have f := s.commit_frame b
  obtain ⟨hdflt, hvan, hsnap⟩ := s.commit_storage b
  obtain ⟨hq, hh, hst, hw⟩ := s.setStorage_store b .pending
  obtain ⟨hjoin, htail, hheld⟩ := (s.setStorage b .pending).placeCommit_queues b
  obtain ⟨hwrite, hstate⟩ := (s.setStorage b .pending).placeCommit_write b
  rw [hq, hh] at hjoin htail hheld
  rw [hw] at hwrite
  rw [hst] at hstate
  refine ⟨s.commit_only b, f.blocks, s.slot_commit b, hdflt, hvan, hsnap, fun hbusy => ?_, fun hidle hnone hnoheld => ?_⟩
  · have hcommit : s.commit b = (s.setStorage b .pending).placeCommit b :=
      State.startWrite_busy (by rw [hstate]; exact hbusy)
    rw [hcommit]
    exact ⟨hwrite, hjoin, htail, hheld⟩
  · have hb : b ∉ s.store.queue := by simp [hnone]
    obtain ⟨hone, hstill⟩ := htail hb (by simp [hnone])
    obtain ⟨h1, h2, h3, h4⟩ := State.startWrite_lone (hstate.trans hidle)
      (by rw [((s.setStorage_frame b .pending).trans (State.placeCommit_frame _ b)).power]; exact hpark)
      (by rw [hone, hnone]; rfl) (hstill.trans hnoheld)
    rw [State.imageOf_placeCommit, State.imageOf_setStorage,
      State.onSpare_congr ((s.setStorage_frame b .pending).trans (State.placeCommit_frame _ b)).spare] at h4
    obtain ⟨k1, k2, k3⟩ := s.firstWrite_of_image b
    exact ⟨h1, h2, h3, _, h4, rfl, k1, k2, k3⟩

/-- Settles O25: the blocks as `tornBlock` leaves the one under write. -/
theorem supplyLossKeepsTheBlocks : Obligations.SupplyLossKeepsTheBlocks := by
  unfold Obligations.SupplyLossKeepsTheBlocks
  intro s torn hs
  have hexec : exec (.supplyLoss torn) s = .next (s.loseSupply torn) := congrArg Host.Outcome.next (if_pos hs)
  refine ⟨s.loseSupply torn, hexec, rfl, rfl, rfl, rfl, fun hw => ?_, fun w hw hbusy => ?_⟩
  · show s.tornBlocks torn = _
    unfold State.tornBlocks; rw [hw]
  · have hblocks : (s.loseSupply torn).store.blocks =
        s.store.blocks.set w.target.val (tornBlock s.store.state torn w s.store.blocks[w.target.val]) := by
      show s.tornBlocks torn = _
      unfold State.tornBlocks; rw [hw]
    rw [hblocks]
    refine ⟨fun i hi => ?_, ?_⟩
    · have : w.target.val ≠ i.val := fun h => hi (Fin.ext h.symm)
      simp [this]
    · have hself : ∀ x, (s.store.blocks.set w.target.val x)[w.target] = x := fun x => by simp
      rw [hself]
      cases hst : s.store.state with
      | idle => exact absurd hst hbusy
      | programming => cases torn <;> simp [tornBlock]
      | erasing =>
        cases torn with
        | cutShort | completed => rfl
        | betweenAttempts =>
          by_cases h : w.attempt ≤ 1
          · have : ¬1 < w.attempt := by omega
            simp [tornBlock, h, this]
          · have : 1 < w.attempt := by omega
            simp [tornBlock, h, this]

end Sys2Proof
end

section
/-! PROOF. The attempts and the end of a write (08). -/

namespace Sys2Proof.Machine

/-! ## The end of a write -/

theorem State.onlyIn_store (s : State) (x : ProfileStore) : s.onlyIn { s with store := x } [.store] := by
  intro p hp
  cases p with
  | store => exact absurd (List.mem_singleton_self _) hp
  | _ => rfl

theorem State.enterPark_store (s : State) : s.enterPark.store = s.store ∧ s.enterPark.table = s.table := by
  obtain ⟨v, hv⟩ := s.mapAxes_eq fun _ u => { u with intervalTimer := none, drove := false }
  unfold State.enterPark
  rw [hv]
  exact ⟨rfl, rfl⟩

theorem State.enterWaking_store (s : State) : s.enterWaking.store = s.store ∧ s.enterWaking.table = s.table :=
  ⟨(State.enterWaking_effect s).1 .store (by simp), (State.enterWaking_effect s).1 .table (by simp)⟩

/-- R158: what the owner of a block does with a result touches neither the store nor the table besides the storage
state. -/
theorem State.handResult_store (s : State) (w : Write) (ok : Bool) :
    (s.handResult w ok).store = (s.setStorage w.block (storageAfter ok (s.commitWaits w.block))).store ∧
      (s.handResult w ok).table = (s.setStorage w.block (storageAfter ok (s.commitWaits w.block))).table := by
  unfold State.handResult
  generalize s.setStorage w.block (storageAfter ok (s.commitWaits w.block)) = u
  dsimp only
  split
  · split
    · unfold State.consumeEnd; split <;> exact ⟨rfl, rfl⟩
    · unfold State.snapshotEnd
      split
      · split
        · obtain ⟨h1, h2⟩ := State.enterWaking_store (u.setSnapshot .live)
          rw [h1, h2]
          exact ⟨rfl, rfl⟩
        · obtain ⟨h1, h2⟩ := State.enterPark_store (u.setSnapshot .live)
          rw [State.raisePowerState, State.raise_store, State.raise_table, h1, h2]
          exact ⟨rfl, rfl⟩
      · exact ⟨rfl, rfl⟩
  all_goals exact ⟨rfl, rfl⟩

/-- R158: the write's result as it has been handed on and raised, before the store goes on. -/
def State.resulted (s : State) (w : Write) (r : StoreResult) : State :=
  ({ s with store := { s.store with lastResult := some ⟨w.block, r, w.attempt⟩ } }.handResult w (r == StoreResult.ok)).raiseAt
    [.fleet, .panel] (.storeResult w.block r w.attempt w.lastFailure w.onSpare
      (storageAfter (r == StoreResult.ok) (s.commitWaits w.block)))

theorem State.endWrite_eq (s : State) (w : Write) (r : StoreResult) : s.endWrite w r = (s.resulted w r).storeIdle := rfl

/-- R99, R158: the storage state a result leaves. -/
def State.stateAfter (s : State) (w : Write) (r : StoreResult) : Storage :=
  storageAfter (r == StoreResult.ok) (s.commitWaits w.block)

/-- R158: the store and the table of a result handed on. -/
theorem State.resulted_store (s : State) (w : Write) (r : StoreResult) :
    (s.resulted w r).store =
      ({ s with store := { s.store with lastResult := some ⟨w.block, r, w.attempt⟩ } }.setStorage w.block
        (s.stateAfter w r)).store ∧
    (s.resulted w r).table = (s.setStorage w.block (s.stateAfter w r)).table := by
  have hraise := ({ s with store := { s.store with lastResult := some ⟨w.block, r, w.attempt⟩ } }.handResult w
    (r == StoreResult.ok)).raiseAt_only [.fleet, .panel] (.storeResult w.block r w.attempt w.lastFailure w.onSpare
      (storageAfter (r == StoreResult.ok) (s.commitWaits w.block)))
  obtain ⟨hstore, htable⟩ := State.handResult_store
    { s with store := { s.store with lastResult := some ⟨w.block, r, w.attempt⟩ } } w (r == StoreResult.ok)
  refine ⟨(hraise .store (by simp)).trans hstore, ((hraise .table (by simp)).trans htable).trans ?_⟩
  unfold State.setStorage
  repeat' split
  all_goals rfl

/-- R158: the store of a result handed on, field by field. -/
theorem State.resulted_fields (s : State) (w : Write) (r : StoreResult) :
    (s.resulted w r).store.blocks = s.store.blocks ∧ (s.resulted w r).store.spare = s.store.spare ∧
    (s.resulted w r).store.queue = s.store.queue ∧ (s.resulted w r).store.held = s.store.held ∧
    (s.resulted w r).store.lastResult = some ⟨w.block, r, w.attempt⟩ ∧
    (∀ i : SlotIx, (s.resulted w r).slot i =
      if i.val = w.block.val then { s.slot i with storage := s.stateAfter w r } else s.slot i) ∧
    (s.resulted w r).store.dfltState = (if w.block = 48 then s.stateAfter w r else s.store.dfltState) ∧
    (s.resulted w r).store.vanState = (if w.block = 49 then s.stateAfter w r else s.store.vanState) ∧
    (s.resulted w r).store.snapState = (if w.block = 50 then s.stateAfter w r else s.store.snapState) := by
  obtain ⟨hstore, htable⟩ := s.resulted_store w r
  let u : State := { s with store := { s.store with lastResult := some ⟨w.block, r, w.attempt⟩ } }
  have f := u.setStorage_frame w.block (s.stateAfter w r)
  obtain ⟨hq, hh, _, _⟩ := u.setStorage_store w.block (s.stateAfter w r)
  obtain ⟨h1, h2, h3⟩ := u.setStorage_states w.block (s.stateAfter w r)
  have hlast : (u.setStorage w.block (s.stateAfter w r)).store.lastResult = u.store.lastResult := by
    unfold State.setStorage
    repeat' split
    all_goals rfl
  refine ⟨?_, ?_, ?_, ?_, ?_, fun i => ?_, ?_, ?_, ?_⟩
  · rw [hstore]; exact f.blocks
  · rw [hstore]; exact f.spare
  · rw [hstore]; exact hq
  · rw [hstore]; exact hh
  · rw [hstore]; exact hlast
  · rw [State.slot_eq_of_table htable, State.slot_setStorage]
  · rw [hstore]; exact h1
  · rw [hstore]; exact h2
  · rw [hstore]; exact h3

/-- R158: only a snapshot's write has an owner that does more than take the storage state. -/
theorem State.resulted_plain {s : State} {w : Write} (h : ∀ x, w.image ≠ .snapshot x) (r : StoreResult) :
    s.onlyIn (s.resulted w r) [.ports, .table, .store] ∧
      s.gains (s.resulted w r) (eventAt [.fleet, .panel]
        (.storeResult w.block r w.attempt w.lastFailure w.onSpare (s.stateAfter w r))) := by
  let u : State := { s with store := { s.store with lastResult := some ⟨w.block, r, w.attempt⟩ } }
  have hhand : u.handResult w (r == StoreResult.ok) = u.setStorage w.block (s.stateAfter w r) := by
    unfold State.handResult
    split
    · rename_i x hx; exact absurd hx (h x)
    all_goals rfl
  have honly : s.onlyIn (u.handResult w (r == StoreResult.ok)) [.table, .store] := by
    rw [hhand]
    exact ((s.onlyIn_store _).mono (by simp)).trans (u.onlyIn_setStorage _ _)
  refine ⟨(honly.mono (by simp)).trans ((State.raiseAt_only _ _ _).mono (by simp)), fun q => ?_⟩
  have hports : (u.handResult w (r == StoreResult.ok)).port q = s.port q := by
    unfold State.port; rw [show (u.handResult w (r == StoreResult.ok)).ports = s.ports from
      honly .ports (by simp)]
  refine (State.port_raiseAt _ _ _ (by decide) q).trans ?_
  rw [hports]
  cases q <;> rfl

/-- The result of a write of a block that is no slot's leaves the table. -/
theorem State.resulted_table {s : State} {w : Write} (h : blockSlot w.block = none) (r : StoreResult) :
    (s.resulted w r).table = s.table :=
  (s.resulted_store w r).2.trans (State.setStorage_table h s _)

/-! ## The store goes on -/

theorem State.onlyIn_startWrite (s : State) : s.onlyIn s.startWrite [.store] := by
  unfold State.startWrite
  repeat' split
  · exact .refl _ _
  · exact s.onlyIn_store _
  · exact .refl _ _

/-- R158: after the end of a write nothing but the store changes, and of it no block, no spare and no storage state. -/
theorem State.storeIdle_frame (s : State) : s.onlyIn s.storeIdle [.store] ∧ s.storeIdle.store.blocks = s.store.blocks ∧
    s.storeIdle.store.spare = s.store.spare ∧ s.storeIdle.store.dfltState = s.store.dfltState ∧
    s.storeIdle.store.vanState = s.store.vanState ∧ s.storeIdle.store.snapState = s.store.snapState := by
  unfold State.storeIdle
  let u : State := { s with store := { s.store with
    state := .idle, write := none, eraseTimer := none, programTimer := none } }
  have f := u.startWrite_frame
  obtain ⟨h1, h2, h3⟩ := u.startWrite_states
  exact ⟨(s.onlyIn_store _).trans u.onlyIn_startWrite, f.blocks, f.spare, h1, h2, h3⟩

/-- R158 step 4: with nothing waiting the store is IDLE. -/
theorem State.storeIdle_empty {s : State} (h : s.store.queue = []) : s.storeIdle = { s with store := { s.store with
    state := .idle, write := none, eraseTimer := none, programTimer := none } } := by
  unfold State.storeIdle State.startWrite
  dsimp only
  rw [h]

/-- R151, R153, R158 step 4: the write at the head of the queue starts, and the oldest held commit takes its place. -/
theorem State.storeIdle_next {s : State} {b : BlockIx} {rest : List BlockIx} (h : s.store.queue = b :: rest)
    (hp : s.power.state ≠ .park) :
    s.storeIdle.store.queue = rest ++ s.store.held.take 1 ∧ s.storeIdle.store.held = s.store.held.drop 1 ∧
    s.storeIdle.store.state = .erasing ∧ s.storeIdle.store.eraseTimer = some 60 ∧
    s.storeIdle.store.programTimer = none ∧
    s.storeIdle.store.write = some { block := b, image := s.storeIdle.imageOf b, onSpare := s.storeIdle.onSpare b } ∧
    s.storeIdle.store.lastResult = none := by
  unfold State.storeIdle
  rw [State.imageOf_startWrite, State.onSpare_congr (State.startWrite_frame _).spare]
  unfold State.startWrite
  dsimp only
  rw [h]
  dsimp only
  rw [if_pos ⟨rfl, hp⟩]
  exact ⟨rfl, rfl, rfl, rfl, rfl, rfl, rfl⟩

/-! ## Attempts -/

theorem exec_eraseComplete {s : State} (h : s.powered = true) (g late : Bool) :
    exec (.eraseComplete g late) s = .next (s.eraseComplete g late) := congrArg Host.Outcome.next (if_pos h)

theorem exec_programComplete {s : State} (h : s.powered = true) (g late : Bool) :
    exec (.programComplete g late) s = .next (s.programComplete g late) := congrArg Host.Outcome.next (if_pos h)

theorem exec_eraseTimerExpiry {s : State} (h : s.powered = true) :
    exec .eraseTimerExpiry s = .next s.eraseTimerExpiry := congrArg Host.Outcome.next (if_pos h)

theorem exec_programTimerExpiry {s : State} (h : s.powered = true) :
    exec .programTimerExpiry s = .next s.programTimerExpiry := congrArg Host.Outcome.next (if_pos h)

/-- R155: a program that reads back equal. -/
theorem exec_programComplete_good {s : State} {w : Write} (h : s.powered = true) (hp : s.store.state = .programming)
    (hw : s.store.write = some w) :
    exec (.programComplete true false) s = .next (((s.setBlock w.target (.valid w.image)).resulted w .ok).storeIdle) := by
  rw [exec_programComplete h]
  congr 1
  unfold State.programComplete State.programGood
  rw [if_pos (by simp [hp]), if_pos rfl, hw]
  rfl

/-- R154, R155: each of the four commands that make the running attempt fail. -/
theorem exec_fails {s : State} {c : Instr} {k : FailKind} (h : s.powered = true) (hf : s.fails c k) :
    ∃ f : Failure, f.kind = k ∧ exec c s = .next (s.failAttempt f) := by
  rcases hf with ⟨rfl, hs, ht, rfl⟩ | ⟨rfl, hs, rfl⟩ | ⟨rfl, hs, ht, rfl⟩ | ⟨rfl, hs, rfl⟩
  · refine ⟨.erase, rfl, (exec_eraseTimerExpiry h).trans (congrArg _ ?_)⟩
    exact if_pos ⟨hs, ht⟩
  · refine ⟨.erase, rfl, (exec_eraseComplete h _ _).trans (congrArg _ ?_)⟩
    exact if_pos ⟨hs, rfl⟩
  · refine ⟨.programTimeout, rfl, (exec_programTimerExpiry h).trans (congrArg _ ?_)⟩
    exact if_pos ⟨hs, ht⟩
  · refine ⟨.verify, rfl, (exec_programComplete h _ _).trans (congrArg _ ?_)⟩
    exact if_pos ⟨hs, rfl⟩

/-- R156: the state in which a failed attempt's block and result are recorded, before the store decides what follows. -/
def State.attemptFailed (s : State) (w : Write) (f : Failure) : State :=
  let t := (s.setBlock w.target
    (leftBlock f (Config.blockLeft s.model.freeSeq) s.store.blocks[w.target.val] w.image)).bumpFree
  { t with store := { t.store with lastResult := some ⟨w.block, f.kind.result, w.attempt⟩ } }

theorem State.failAttempt_eq {s : State} {w : Write} (hw : s.store.write = some w) (f : Failure) :
    s.failAttempt f = (s.attemptFailed w f).afterFailure { w with lastFailure := some f.kind } := by
  unfold State.failAttempt
  rw [hw]
  rfl

/-- R156: a failed attempt changes the target, the last result and the free value. -/
theorem State.attemptFailed_frame (s : State) (w : Write) (f : Failure) :
    s.onlyIn (s.attemptFailed w f) [.store, .model] ∧
    (∀ b : PhysIx, b ≠ w.target → (s.attemptFailed w f).store.blocks[b] = s.store.blocks[b]) ∧
    (s.attemptFailed w f).store.queue = s.store.queue ∧ (s.attemptFailed w f).store.held = s.store.held ∧
    (s.attemptFailed w f).store.spare = s.store.spare ∧
    (s.attemptFailed w f).store.lastResult = some ⟨w.block, f.kind.result, w.attempt⟩ := by
  refine ⟨fun p hp => ?_, fun b hb => ?_, rfl, rfl, rfl, rfl⟩
  · cases p with
    | store | model => simp at hp
    | _ => rfl
  · have : w.target.val ≠ b.val := fun h => hb (Fin.ext h.symm)
    simp [State.attemptFailed, State.setBlock, State.bumpFree, this]

/-- R156: what follows a failed attempt touches no block. -/
theorem State.afterFailure_blocks (s : State) (w : Write) : (s.afterFailure w).store.blocks = s.store.blocks := by
  have ended : ∀ r, (s.endWrite w r).store.blocks = s.store.blocks := fun r => by
    rw [State.endWrite_eq, (State.storeIdle_frame _).2.1, (s.resulted_fields w r).1]
  unfold State.afterFailure
  repeat' split
  · rfl
  · exact ended _
  · rfl
  · exact ended _

/-- R156, R157: the end of a write whose target has had its three attempts. -/
theorem State.afterFailure_ends {s : State} {w : Write} (h3 : 3 ≤ w.onTarget)
    (h : w.onSpare = true ∨ blockSlot w.block = none ∨ s.store.spare ≠ none) :
    s.afterFailure w = s.endWrite w (if w.onSpare then .badBlock else .retryExceeded) := by
  unfold State.afterFailure
  rw [if_neg (by omega)]
  by_cases hs : w.onSpare = true
  · simp [hs]
  · rw [if_neg hs, if_neg hs]
    have h := h.resolve_left hs
    split
    · rename_i i hi hnone
      rcases h with h | h
      · rw [hi] at h; cases h
      · exact absurd hnone h
    · rfl

/-- R158: a write of a block other than the snapshot's that ends without success, with no commit waiting or held. -/
theorem State.endWrite_failed {s : State} {w : Write} {r : StoreResult} (hq : s.store.queue = [])
    (hh : s.store.held = []) (himage : ∀ x, w.image ≠ .snapshot x) (hr : r ≠ .ok) :
    s.onlyIn (s.endWrite w r) [.ports, .table, .store] ∧ (blockSlot w.block = none → (s.endWrite w r).table = s.table) ∧
    (s.endWrite w r).store.state = .idle ∧ (s.endWrite w r).store.write = none ∧
    (s.endWrite w r).store.spare = s.store.spare ∧
    (s.endWrite w r).store.lastResult = some ⟨w.block, r, w.attempt⟩ ∧
    s.gains (s.endWrite w r) (eventAt [.fleet, .panel]
      (.storeResult w.block r w.attempt w.lastFailure w.onSpare .failed)) ∧
    (∀ i : SlotIx, (s.endWrite w r).slot i =
      if i.val = w.block.val then { s.slot i with storage := .failed } else s.slot i) ∧
    (w.block = 48 → (s.endWrite w r).store.dfltState = .failed) ∧
    (w.block = 49 → (s.endWrite w r).store.vanState = .failed) := by
  have hafter : s.stateAfter w r = .failed := by
    simp [State.stateAfter, storageAfter, State.commitWaits, hq, hh, hr]
  obtain ⟨_, hspare, hqueue, _, hlast, hslot, hdflt, hvan, _⟩ := s.resulted_fields w r
  obtain ⟨hplain, hgains⟩ := State.resulted_plain himage r
  rw [hafter] at hslot hdflt hvan hgains
  rw [State.endWrite_eq, State.storeIdle_empty (hqueue.trans hq)]
  refine ⟨hplain.trans ((State.onlyIn_store _ _).mono (by simp)), fun hb => State.resulted_table hb r, rfl, rfl, hspare,
    hlast, hgains, hslot, fun hb => ?_, fun hb => ?_⟩
  · exact hdflt.trans (if_pos hb)
  · exact hvan.trans (if_pos hb)

end Sys2Proof.Machine

namespace Sys2Proof

open Machine

/-- Settles O59: the erase, the program and what its end leaves. -/
theorem writeGoesThrough : Obligations.WriteGoesThrough := by
  unfold Obligations.WriteGoesThrough
  intro s hs
  refine ⟨fun g => ⟨?_, ?_⟩, fun ht => ?_, fun ht => ?_, fun w hw => ⟨fun hst => ?_, fun hst => ?_⟩⟩
  · rw [exec_eraseComplete hs]; exact congrArg _ (if_neg (by simp))
  · rw [exec_programComplete hs]; exact congrArg _ (if_neg (by simp))
  · rw [exec_eraseTimerExpiry hs]; exact congrArg _ (if_neg (by simp [ht]))
  · rw [exec_programTimerExpiry hs]; exact congrArg _ (if_neg (by simp [ht]))
  · rw [exec_eraseComplete hs]
    congr 1
    unfold State.eraseComplete State.eraseGood
    rw [if_pos (by simp [hst]), if_pos rfl, hw]
    rfl
  · intro after
    let v := s.setBlock w.target (.valid w.image)
    obtain ⟨hblocks, hspare, hqueue, hheld, hlast, hslot, hdflt, hvan, hsnap⟩ := v.resulted_fields w .ok
    obtain ⟨honly, kblocks, kspare, kdflt, kvan, ksnap⟩ := (v.resulted w .ok).storeIdle_frame
    have hafter : v.stateAfter w .ok = after := by
      simp only [State.stateAfter, storageAfter, State.commitWaits, after, v, State.setBlock, Bool.or_eq_true,
        List.contains_iff_mem]
      rfl
    rw [hafter] at hslot hdflt hvan hsnap
    have htable : (v.resulted w .ok).storeIdle.table = (v.resulted w .ok).table := honly .table (by simp)
    refine ⟨_, exec_programComplete_good hs hst hw, kblocks.trans hblocks, kspare.trans hspare, fun hq hh => ?_,
      fun b rest hq hp => ?_, fun i => ?_, kdflt.trans hdflt, kvan.trans hvan, ksnap.trans hsnap, fun himage => ?_⟩
    · rw [State.storeIdle_empty (hqueue.trans hq)]
      exact ⟨hqueue.trans hq, hheld.trans hh, rfl, rfl, rfl, rfl, hlast⟩
    · have hpower : (v.resulted w .ok).storeIdle.power = (v.resulted w .ok).power := honly .power (by simp)
      obtain ⟨h1, h2, h3⟩ := State.storeIdle_next (hqueue.trans hq) (hpower ▸ hp)
      rw [hheld] at h1 h2
      exact ⟨h1, h2, h3⟩
    · exact (State.slot_eq_of_table htable i).trans (hslot i)
    · obtain ⟨hplain, hgains⟩ := State.resulted_plain (s := v) himage .ok
      have hs : s.onlyIn v [.store] := s.onlyIn_store _
      refine ⟨((hs.mono (by simp)).trans hplain).trans (honly.mono (by simp)), ?_, fun q => ?_⟩
      · rw [htable, (v.resulted_store w .ok).2]
        have f := v.setStorage_frame w.block (v.stateAfter w .ok)
        have eta : ∀ x y : ProfileTable, x.dflt = y.dflt → x.driver = y.driver → x.dirty = y.dirty →
            x.counter = y.counter → x = { y with slots := x.slots } := fun x y h1 h2 h3 h4 => by
          cases x; cases y; simp_all
        exact eta _ _ f.dflt f.driver f.dirty f.counter
      · have hports : (v.resulted w .ok).storeIdle.port q = (v.resulted w .ok).port q := by
          unfold State.port; rw [show (v.resulted w .ok).storeIdle.ports = _ from honly .ports (by simp)]
        rw [hports, ← hafter]
        exact hgains q

/-- Settles O60: what the store decides after a failed attempt. -/
theorem failedAttemptRetriesThenEnds : Obligations.FailedAttemptRetriesThenEnds := by
  unfold Obligations.FailedAttemptRetriesThenEnds
  intro s w c k hs hw hfails failed
  obtain ⟨f, rfl, hexec⟩ := exec_fails hs hfails
  rw [State.failAttempt_eq hw] at hexec
  let u := s.attemptFailed w f
  obtain ⟨hu, hblocks, hqueue, hheld, hspare, hlast⟩ := s.attemptFailed_frame w f
  refine ⟨_, hexec, fun b hb => ?_, fun h3 => ?_, fun h3 => ?_⟩
  · rw [State.afterFailure_blocks]; exact hblocks b hb
  · have hnext : u.afterFailure failed =
        u.beginAttempt { failed with attempt := w.attempt + 1, onTarget := w.onTarget + 1 } := if_pos h3
    show s.onlyIn (u.afterFailure failed) _ ∧ _
    rw [hnext]
    exact ⟨hu.trans ((u.onlyIn_store _).mono (by simp)), rfl, rfl, rfl, hqueue, hlast, rfl⟩
  · intro ends
    have moved : ∀ {ps : List Part}, u.onlyIn (u.afterFailure failed) ps →
        s.onlyIn (u.afterFailure failed) ([.store, .model] ++ ps) := fun h =>
      (hu.mono (by simp)).trans (h.mono (by simp))
    have ended : ∀ (himage : ∀ x, w.image ≠ .snapshot x), s.store.queue = [] → s.store.held = [] →
        (w.onSpare = true ∨ blockSlot w.block = none ∨ s.store.spare ≠ none) →
        let r : StoreResult := if w.onSpare then .badBlock else .retryExceeded
        u.onlyIn (u.afterFailure failed) [.ports, .table, .store] ∧
        (blockSlot w.block = none → (u.afterFailure failed).table = u.table) ∧ ends r ∧
        (∀ i : SlotIx, (u.afterFailure failed).slot i =
          if i.val = w.block.val then { s.slot i with storage := .failed } else s.slot i) ∧
        (w.block = 48 → (u.afterFailure failed).store.dfltState = .failed) ∧
        (w.block = 49 → (u.afterFailure failed).store.vanState = .failed) := by
      intro himage hq hh hend r
      have hnext : u.afterFailure failed = u.endWrite failed r :=
        State.afterFailure_ends (w := failed) h3 hend
      rw [hnext]
      have hr : r ≠ .ok := by simp only [r]; split <;> decide
      obtain ⟨h1, h2, h3, h4, h5, h6, h7, h8, h9, h10⟩ :=
        State.endWrite_failed (s := u) (w := failed) (hqueue.trans hq) (hheld.trans hh) himage hr
      refine ⟨h1, h2, ?_, h8, h9, h10⟩
      show (u.afterFailure failed).store.state = .idle ∧ _
      rw [hnext]
      exact ⟨h3, h4, h5.trans hspare, h6, h7⟩
    refine ⟨fun i hi => ⟨fun hs hn => ?_, fun r himage hq hh hcase => ?_⟩, fun hq hh hs => ⟨fun p hb himage => ?_,
      fun v hb himage => ?_⟩⟩
    · have hnext : u.afterFailure failed = { u with store := { u.store with spare := some i } }.beginAttempt
          { failed with attempt := w.attempt + 1, onTarget := 1, onSpare := true } := by
        unfold State.afterFailure
        rw [if_neg (show ¬failed.onTarget < 3 by show ¬w.onTarget < 3; omega), if_neg (show ¬w.onSpare = true by simp [hs])]
        rw [show blockSlot failed.block = some i from blockSlot_of_val hi.symm,
          show u.store.spare = none from hspare.trans hn]
      show s.onlyIn (u.afterFailure failed) _ ∧ _
      rw [hnext]
      exact ⟨hu.trans ((u.onlyIn_store _).mono (by simp)), rfl, rfl, rfl, rfl⟩
    · obtain ⟨h1, _, h3, h4, _⟩ := ended (fun x h => by rw [himage] at h; cases h) hq hh
        (hcase.imp_right fun ⟨j, hj, _⟩ => .inr (by simp [hj]))
      refine ⟨(moved h1).mono (by simp), (h4 i).trans (if_pos hi.symm), fun j hj => (h4 j).trans (if_neg fun h => ?_), h3⟩
      exact hj (Fin.ext (h.trans hi))
    · have hslot : blockSlot w.block = none := by rw [hb]; rfl
      obtain ⟨h1, h2, h3, _, h5, _⟩ := ended (fun x h => by rw [himage] at h; cases h) hq hh (.inr (.inl hslot))
      refine ⟨fun q hne => ?_, h5 hb, by simpa [hs] using h3⟩
      by_cases hqt : q = .table
      · subst hqt; exact h2 hslot
      · exact moved h1 q (by simp_all)
    · have hslot : blockSlot w.block = none := by rw [hb]; rfl
      obtain ⟨h1, h2, h3, _, _, h6⟩ := ended (fun x h => by rw [himage] at h; cases h) hq hh (.inr (.inl hslot))
      refine ⟨fun q hne => ?_, h6 hb, by simpa [hs] using h3⟩
      by_cases hqt : q = .table
      · subst hqt; exact h2 hslot
      · exact moved h1 q (by simp_all)

end Sys2Proof
end

section
/-! PROOF. Power (09): the ends of snapshot and consume writes, the end of WAKING, entry into PARKING, DEVICE_RESET. -/

namespace Sys2Proof.Machine

/-! ## The end of a snapshot or consume write -/

theorem State.onlyIn_power (s : State) (x : PowerControl) : s.onlyIn { s with power := x } [.power] := by
  intro p hp
  cases p with
  | power => exact absurd (List.mem_singleton_self _) hp
  | _ => rfl

theorem State.onlyIn_raisePowerState (s : State) (st : PowerState) (c : PowerCause) (used : Bool) :
    s.onlyIn (s.raisePowerState st c used) [.ports] := s.onlyIn_raise _ _

theorem State.port_congr {s t : State} (h : t.ports = s.ports) (p : Port) : t.port p = s.port p := by
  unfold State.port; rw [h]

/-- R169: entry into PARK, part by part. -/
theorem State.enterPark_effect (s : State) : s.onlyIn s.enterPark [.power, .monitor, .axes] ∧
    s.enterPark.power = { s.power with state := .park } ∧ s.enterPark.monitor = {} ∧
    ∀ a, s.enterPark.axis a = { s.axis a with intervalTimer := none, drove := false } := by
  have haxes : s.enterPark.axes = (s.mapAxes fun _ u => { u with intervalTimer := none, drove := false }).axes := rfl
  refine ⟨?_, rfl, rfl, fun a => (State.axis_congr haxes a).trans (s.axis_mapAxes _ a)⟩
  obtain ⟨v, hv⟩ := s.mapAxes_eq fun _ u => { u with intervalTimer := none, drove := false }
  unfold State.enterPark
  rw [hv]
  intro p hp
  cases p with
  | power | monitor | axes => simp at hp
  | _ => rfl

/-- R169: a snapshot write that reads back equal, no wake pending: PARK. -/
theorem State.snapshotEnd_park {s : State} (h : s.power.wakePending = false) :
    s.onlyIn (s.snapshotEnd true) [.ports, .power, .monitor, .axes] ∧
    (s.snapshotEnd true).power = { s.power with state := .park, snapshot := .live } ∧
    (s.snapshotEnd true).monitor = {} ∧
    (∀ a, (s.snapshotEnd true).axis a = { s.axis a with intervalTimer := none, drove := false }) ∧
    s.gains (s.snapshotEnd true) fun q => if q = .vehicle then [.powerState .park .live .parked false] else [] := by
  obtain ⟨h1, h2, h3, h4⟩ := (s.setSnapshot .live).enterPark_effect
  have hend : s.snapshotEnd true = (s.setSnapshot .live).enterPark.raisePowerState .park .parked false := by
    simp [State.snapshotEnd, h]
  have hlive : (s.setSnapshot .live).enterPark.power.snapshot = .live := by rw [h2]; rfl
  have hports : (s.setSnapshot .live).enterPark.ports = s.ports := h1 .ports (by simp)
  rw [hend]
  refine ⟨(((s.onlyIn_power _).mono (by simp)).trans (h1.mono (by simp))).trans
    ((State.onlyIn_raisePowerState _ _ _ _).mono (by simp)), h2, h3, h4, ?_⟩
  have := (State.gains_of_ports hports).trans (State.gains_raise (s.setSnapshot .live).enterPark .vehicle
    (.powerState .park (s.setSnapshot .live).enterPark.power.snapshot .parked false))
  rw [hlive] at this
  simpa [State.raisePowerState, hlive, noEvents] using this

/-- R169, R171: a snapshot write that reads back equal, a wake pending: WAKING. -/
theorem State.snapshotEnd_wake {s : State} (h : s.power.wakePending = true) :
    s.onlyIn (s.snapshotEnd true) [.power, .monitor, .axes] ∧
    (s.snapshotEnd true).power =
      { s.power with state := .waking, snapshot := .live, wakePending := false, settleTimer := some 40 } ∧
    (s.snapshotEnd true).monitor = {} ∧
    (∀ a, (s.snapshotEnd true).axis a = { s.axis a with intervalTimer := some 100, drove := false }) := by
  obtain ⟨h1, h2, h3, h4⟩ := State.enterWaking_effect (s.setSnapshot .live)
  have hend : s.snapshotEnd true = (s.setSnapshot .live).enterWaking := by simp [State.snapshotEnd, h]
  rw [hend]
  exact ⟨((s.onlyIn_power _).mono (by simp)).trans h1, h2, h3, h4⟩

/-- R158: the result of the snapshot block's write, by its consumed marker. -/
theorem State.resulted_snapshot {s : State} {w : Write} {x : Snapshot} (hb : w.block = 50) (hi : w.image = .snapshot x)
    (r : StoreResult) : ∃ u : State, s.onlyIn u [.store] ∧
      s.resulted w r = (if x.consumed then u.consumeEnd (r == StoreResult.ok) else u.snapshotEnd (r == StoreResult.ok)).raiseAt
        [.fleet, .panel] (.storeResult 50 r w.attempt w.lastFailure w.onSpare (s.stateAfter w r)) := by
  obtain ⟨block, image, onSpare, attempt, onTarget, last⟩ := w
  subst hb hi
  let v : State := { s with store := { s.store with lastResult := some ⟨50, r, attempt⟩ } }
  have hv : s.onlyIn v [.store] := s.onlyIn_store _
  have hset := v.onlyIn_setStorage 50 (storageAfter (r == StoreResult.ok) (s.commitWaits 50))
  refine ⟨v.setStorage 50 (storageAfter (r == StoreResult.ok) (s.commitWaits 50)), hv.trans fun p hp => ?_, rfl⟩
  by_cases ht : p = .table
  · subst ht; exact State.setStorage_table rfl v _
  · exact hset p (by simp_all)

/-- What the owner of the snapshot block has done with a result, seen through the rest of the end of the write. -/
theorem State.snapshot_result {s u z t : State} {qs : List Part} {e : Event} {told : List Event}
    (hu : s.onlyIn u [.store]) (hz : u.onlyIn z qs) (ht : t = ((z.raiseAt [.fleet, .panel] e).storeIdle))
    (hg : u.gains z fun q => if q = .vehicle then told else []) :
    s.onlyIn t ([.ports, .store] ++ qs) ∧ t.power = z.power ∧ t.monitor = z.monitor ∧ (∀ a, t.axis a = z.axis a) ∧
      s.gains t fun p => match p with
        | .vehicle => told
        | .fleet | .panel => [e] := by
  subst ht
  have hraise := z.raiseAt_only [.fleet, .panel] e
  have hidle := (z.raiseAt [.fleet, .panel] e).storeIdle_frame.1
  have hzt : z.onlyIn ((z.raiseAt [.fleet, .panel] e).storeIdle) [.ports, .store] :=
    (hraise.mono (by simp)).trans (hidle.mono (by simp))
  refine ⟨(hu.mono (by simp)).trans ((hz.mono (by simp)).trans (hzt.mono (by simp))), hzt .power (by simp),
    hzt .monitor (by simp), State.axis_congr (hzt .axes (by simp)), fun p => ?_⟩
  rw [State.port_congr (hidle .ports (by simp)), State.port_raiseAt _ _ _ (by decide), hg p,
    State.port_congr (hu .ports (by simp))]
  cases p <;> rfl

/-- R173: the end of a consume write. -/
theorem State.consumeEnd_effect (s : State) (ok : Bool) :
    s.onlyIn (s.consumeEnd ok) [.ports, .power] ∧
    (s.consumeEnd ok).power = { s.power with snapshot := if ok then .consumed else .uncertain } ∧
    s.gains (s.consumeEnd ok) fun q => if q = .vehicle then [.powerState .run (if ok then .consumed else .uncertain)
      (if ok then .consumeOk else .consumeFailed) false] else [] := by
  cases ok with
  | true => exact ⟨((s.onlyIn_power _).mono (by simp)).trans ((State.onlyIn_raisePowerState _ _ _ _).mono (by simp)), rfl,
      State.gains_raise (s.setSnapshot .consumed) _ _⟩
  | false => exact ⟨((s.onlyIn_power _).mono (by simp)).trans ((State.onlyIn_raisePowerState _ _ _ _).mono (by simp)), rfl,
      State.gains_raise (s.setSnapshot .uncertain) _ _⟩

/-- R169: a snapshot write that failed: the part returns to RUN. -/
theorem State.snapshotEnd_failed (s : State) :
    s.onlyIn (s.snapshotEnd false) [.ports, .power] ∧
    (s.snapshotEnd false).power = { s.power with state := .run, snapshot := .uncertain, wakePending := false } ∧
    s.gains (s.snapshotEnd false) fun q => if q = .vehicle then
      [.powerState .run .uncertain .snapshotFailed false] else [] :=
  ⟨((s.onlyIn_power _).mono (by simp)).trans ((State.onlyIn_raisePowerState _ _ _ _).mono (by simp)), rfl,
    State.gains_raise { s with power := { s.power with state := .run, snapshot := .uncertain, wakePending := false } } _ _⟩

/-- R158: the store after the end of the snapshot block's write, with nothing waiting. -/
theorem State.snapshot_ends {s : State} {w : Write} (hb : w.block = 50) (hq : s.store.queue = [])
    (hh : s.store.held = []) (r : StoreResult) :
    (s.endWrite w r).store.state = .idle ∧ (s.endWrite w r).store.write = none ∧
    (s.endWrite w r).store.snapState = storageAfter (r == StoreResult.ok) false ∧
    (s.endWrite w r).store.lastResult = some ⟨50, r, w.attempt⟩ ∧ (s.endWrite w r).store.blocks = s.store.blocks := by
  obtain ⟨hblocks, _, hqueue, _, hlast, _, _, _, hsnap⟩ := s.resulted_fields w r
  have hwaits : s.commitWaits w.block = false := by simp [State.commitWaits, hq, hh]
  rw [State.stateAfter, hwaits, if_pos hb] at hsnap
  rw [State.endWrite_eq, State.storeIdle_empty (hqueue.trans hq)]
  exact ⟨rfl, rfl, hsnap, hb ▸ hlast, hblocks⟩

end Sys2Proof.Machine

namespace Sys2Proof

open Machine

/-- Settles O22: each end of a write of the snapshot block, through the result handed to power control. -/
theorem snapshotAndConsumeWritesEnd : Obligations.SnapshotAndConsumeWritesEnd := by
  unfold Obligations.SnapshotAndConsumeWritesEnd
  intro s w x hs hw hb hi hspare hq hh ends events
  have htarget : w.target = 50 := by unfold Write.target; rw [hspare, hb]; rfl
  -- A program that reads back equal.
  have good : s.store.state = .programming → ∃ v : State, s.onlyIn v [.store] ∧
      exec (.programComplete true false) s = .next (v.endWrite w .ok) ∧
      (v.endWrite w .ok).store.blocks[50] = .valid (.snapshot x) ∧
      ends (v.endWrite w .ok) .ok .stored ∧ v.stateAfter w .ok = .stored := by
    intro hst
    let v := s.setBlock w.target (.valid w.image)
    obtain ⟨h1, h2, h3, h4, h5⟩ := State.snapshot_ends (s := v) hb hq hh .ok
    refine ⟨v, s.onlyIn_store _, exec_programComplete_good hs hst hw, ?_, ⟨h1, h2, h3, h4, fun b hne => ?_⟩, ?_⟩
    · rw [h5]; simp [v, State.setBlock, htarget, hi]
    · have : (50 : Nat) ≠ b.val := fun h => hne (Fin.ext h.symm)
      rw [h5]
      simp [v, State.setBlock, htarget, this]
    · simp [State.stateAfter, storageAfter, State.commitWaits, v, State.setBlock, hq, hh]
  -- A third failed attempt.
  have bad : ∀ c k, s.fails c k → 3 ≤ w.onTarget → ∃ v : State, s.onlyIn v [.store, .model] ∧
      exec c s = .next (v.endWrite { w with lastFailure := some k } .retryExceeded) ∧
      ends (v.endWrite { w with lastFailure := some k } .retryExceeded) .retryExceeded .failed ∧
      v.stateAfter { w with lastFailure := some k } .retryExceeded = .failed := by
    intro c k hf h3
    obtain ⟨f, rfl, hexec⟩ := exec_fails hs hf
    obtain ⟨hv, hblocks, hqueue, hheld, _, _⟩ := s.attemptFailed_frame w f
    have hend := State.afterFailure_ends (s := s.attemptFailed w f) (w := { w with lastFailure := some f.kind }) h3
      (.inr (.inl (by rw [hb]; rfl)))
    rw [if_neg (show ¬w.onSpare = true by simp [hspare])] at hend
    rw [State.failAttempt_eq hw, hend] at hexec
    obtain ⟨h1, h2, h3', h4, h5⟩ := State.snapshot_ends (s := s.attemptFailed w f)
      (w := { w with lastFailure := some f.kind }) hb (hqueue.trans hq) (hheld.trans hh) .retryExceeded
    refine ⟨_, hv, hexec, ⟨h1, h2, h3', h4, fun b hne => ?_⟩, ?_⟩
    · rw [h5]; exact hblocks b (htarget ▸ hne)
    · simp [State.stateAfter, storageAfter, State.commitWaits, hqueue, hheld, hq, hh]
  have vehicle : ∀ {t : State} {told : List Event} {r : StoreResult} {last : Option FailKind} {after : Storage},
      (s.gains t fun p => match p with
        | .vehicle => told
        | .fleet | .panel => [.storeResult 50 r w.attempt last w.onSpare after]) → events t told r last after :=
    fun h => by rw [hspare] at h; exact h
  refine ⟨fun hp hx => ⟨fun hst => ?_, fun c k hf h3 => ?_⟩, fun hp hx => ⟨fun hst => ?_, fun c k hf h3 => ?_⟩⟩
  · obtain ⟨v, hv, hexec, hblock, hends, hafter⟩ := good hst
    obtain ⟨u, hu, hres⟩ := State.resulted_snapshot (s := v) hb hi .ok
    rw [if_neg (by simp [hx]), hafter] at hres
    have hend : v.endWrite w .ok = ((u.snapshotEnd true).raiseAt [.fleet, .panel]
        (.storeResult 50 .ok w.attempt w.lastFailure w.onSpare .stored)).storeIdle :=
      (v.endWrite_eq w .ok).trans (congrArg State.storeIdle hres)
    have hsu : s.onlyIn u [.store] := hv.trans hu
    have hpower : u.power = s.power := hsu .power (by simp)
    have haxes : ∀ a, u.axis a = s.axis a := State.axis_congr (hsu .axes (by simp))
    refine ⟨_, hexec, ?_⟩
    cases hwake : s.power.wakePending with
    | false =>
      obtain ⟨h1, h2, h3, h4, h5⟩ := State.snapshotEnd_park (s := u) (hpower ▸ hwake)
      obtain ⟨k1, k2, k3, k4, k5⟩ := State.snapshot_result hsu h1 hend h5
      rw [hpower] at h2
      exact ⟨k1.mono (by simp), hblock, hends, k3.trans h3, fun _ => ⟨k2.trans h2, fun a => by rw [k4, h4, haxes],
        vehicle k5⟩, nofun⟩
    | true =>
      obtain ⟨h1, h2, h3, h4⟩ := State.snapshotEnd_wake (s := u) (hpower ▸ hwake)
      have h5 : u.gains (u.snapshotEnd true) fun q => if q = .vehicle then [] else [] := fun q => by
        rw [State.port_congr (h1 .ports (by simp))]; cases q <;> rfl
      obtain ⟨k1, k2, k3, k4, k5⟩ := State.snapshot_result hsu h1 hend h5
      rw [hpower] at h2
      exact ⟨k1.mono (by simp), hblock, hends, k3.trans h3, nofun, fun _ => ⟨k2.trans h2,
        fun a => by rw [k4, h4, haxes], vehicle k5⟩⟩
  · obtain ⟨v, hv, hexec, hends, hafter⟩ := bad c k hf h3
    obtain ⟨u, hu, hres⟩ := State.resulted_snapshot (s := v) (w := { w with lastFailure := some k }) hb hi .retryExceeded
    rw [if_neg (by simp [hx]), hafter] at hres
    have hend := (v.endWrite_eq { w with lastFailure := some k } .retryExceeded).trans (congrArg State.storeIdle hres)
    have hpower : u.power = s.power := (hu .power (by simp)).trans (hv .power (by simp))
    obtain ⟨h1, h2, h3⟩ := u.snapshotEnd_failed
    obtain ⟨k1, k2, _, _, k5⟩ := State.snapshot_result hu h1 hend h3
    rw [hpower] at h2
    refine ⟨_, hexec, (hv.mono (by simp)).trans (k1.mono (by simp)), k2.trans h2, hends, vehicle fun p => ?_⟩
    rw [k5 p, State.port_congr (hv .ports (by simp))]
  · obtain ⟨v, hv, hexec, hblock, hends, hafter⟩ := good hst
    obtain ⟨u, hu, hres⟩ := State.resulted_snapshot (s := v) hb hi .ok
    rw [if_pos hx, hafter] at hres
    have hend := (v.endWrite_eq w .ok).trans (congrArg State.storeIdle hres)
    have hsu : s.onlyIn u [.store] := hv.trans hu
    have hpower : u.power = s.power := hsu .power (by simp)
    obtain ⟨h1, h2, h3⟩ := u.consumeEnd_effect true
    obtain ⟨k1, k2, _, _, k5⟩ := State.snapshot_result hsu h1 hend h3
    rw [hpower] at h2
    exact ⟨_, hexec, k1.mono (by simp), hblock, hends, k2.trans h2, vehicle k5⟩
  · obtain ⟨v, hv, hexec, hends, hafter⟩ := bad c k hf h3
    obtain ⟨u, hu, hres⟩ := State.resulted_snapshot (s := v) (w := { w with lastFailure := some k }) hb hi .retryExceeded
    rw [if_pos hx, hafter] at hres
    have hend := (v.endWrite_eq { w with lastFailure := some k } .retryExceeded).trans (congrArg State.storeIdle hres)
    have hpower : u.power = s.power := (hu .power (by simp)).trans (hv .power (by simp))
    obtain ⟨h1, h2, h3⟩ := u.consumeEnd_effect false
    obtain ⟨k1, k2, _, _, k5⟩ := State.snapshot_result hu h1 hend h3
    rw [hpower] at h2
    refine ⟨_, hexec, (hv.mono (by simp)).trans (k1.mono (by simp)), k2.trans h2, hends, vehicle fun p => ?_⟩
    rw [k5 p, State.port_congr (hv .ports (by simp))]
    rfl

end Sys2Proof
end

section
/-! PROOF. Power (09, 10): the end of WAKING, DEVICE_RESET and PARK. -/

namespace Sys2Proof.Machine

/-! ## The write of the snapshot block -/

/-- R153, R168, R172: in an idle store with nothing waiting, out of PARK, the snapshot block's write starts at once, with
the axis units as they stand. -/
theorem State.commit_snapshot {s : State} (hp : s.power.state ≠ .park) (hi : s.store.state = .idle)
    (hq : s.store.queue = []) (hh : s.store.held = []) :
    s.onlyIn (s.commit 50) [.store] ∧ (s.commit 50).store.state = .erasing ∧ (s.commit 50).store.snapState = .pending ∧
      (s.commit 50).store.write = some { block := 50, image := .snapshot s.snapshotImage, onSpare := false } := by
  have hplace : s.commitPlace 50 = true := by simp [State.commitPlace, hq]
  obtain ⟨_, _, _, hidle⟩ := State.tookCommit_commit (s := s) rfl hp hplace
  obtain ⟨_, h2, _, h4⟩ := hidle hi hq hh
  have f := s.commit_frame 50
  have himage : (s.commit 50).imageOf 50 = .snapshot s.snapshotImage := by
    show Image.snapshot (s.commit 50).snapshotImage = _
    unfold State.snapshotImage State.axis
    rw [f.axes, f.power]
  rw [himage] at h4
  exact ⟨State.commit_only_store rfl s, h2, (s.commit_storage 50).2.2, h4⟩

/-! ## The end of WAKING -/

theorem State.onlyIn_monitor (s : State) (x : Monitor) : s.onlyIn { s with monitor := x } [.monitor] := by
  intro p hp
  cases p with
  | monitor => exact absurd (List.mem_singleton_self _) hp
  | _ => rfl

/-- R172: the part in RUN again, before the consume write is committed. -/
def State.awake (s : State) : State :=
  { s.mapAxes (fun _ u => u.newIdle) with
    monitor := {}, power := { s.power with state := .run, settleTimer := none } }

theorem State.awake_effect (s : State) : s.onlyIn s.awake [.monitor, .axes, .power] ∧
    ∀ a, s.awake.axis a = (s.axis a).newIdle := by
  have haxes : s.awake.axes = (s.mapAxes fun _ u => u.newIdle).axes := rfl
  refine ⟨?_, fun a => (State.axis_congr haxes a).trans (s.axis_mapAxes _ a)⟩
  obtain ⟨v, hv⟩ := s.mapAxes_eq fun _ u => u.newIdle
  unfold State.awake
  rw [hv]
  intro p hp
  cases p with
  | power | monitor | axes => simp at hp
  | _ => rfl

theorem State.takeHeld_none {s : State} (h : ∀ p, (s.port p).request = none) : s.takeHeld = s := by
  have hnone : s.holdingPorts = [] := List.filter_eq_nil_iff.mpr fun p _ => by simp [h p]
  unfold State.takeHeld
  rw [hnone]

/-- R172: the settle timer's expiry in WAKING. -/
theorem State.settleExpiry_waking {s : State} (h : s.power.state = .waking) (ht : s.power.settleTimer.isSome) :
    s.settleExpiry = ((s.awake.commit 50).raisePowerState .run (wakePowerCause s.power.wakeCause) false).takeHeld :=
  if_pos ⟨h, ht⟩

/-! ## DEVICE_RESET -/

/-- R4, R24: an axis unit that DEVICE_RESET reaches. -/
theorem AxisUnit.reset_eq (a : Axis) (u : AxisUnit) : AxisUnit.reset a u =
    if u.driving then { (if a.counted then u.coasting else u.stopped) with halted := false }
    else { u with halted := false } := by
  unfold AxisUnit.reset
  cases hd : u.driving with
  | false => rw [AxisUnit.cut_still hd, if_neg (by simp)]
  | true =>
    cases hc : a.counted with
    | true => rw [AxisUnit.cut_counted hd hc]; rfl
    | false => rw [AxisUnit.cut_mirror hd hc]; rfl

/-- R187: DEVICE_RESET, but for the wake cause it is in PARKING. -/
def State.deviceReset (s : State) : State :=
  { s.mapAxes AxisUnit.reset with
    ports := { vehicle := s.ports.vehicle.reset false, fleet := s.ports.fleet.reset true
               panel := s.ports.panel.reset true }
    moves := {}
    monitor := {}
    table := { s.table with driver := .nobody }
    engine := {} }

theorem State.reqDeviceReset_run {s : State} (h : s.power.state = .run) : s.reqDeviceReset = (s.deviceReset, okWith []) := by
  obtain ⟨v, hv⟩ := s.mapAxes_eq AxisUnit.reset
  unfold State.reqDeviceReset State.deviceReset State.resetPower
  rw [hv]
  dsimp only
  rw [if_neg (by simp [h])]

theorem State.deviceReset_only (s : State) :
    s.onlyIn s.deviceReset [.ports, .axes, .moves, .monitor, .table, .engine] := by
  obtain ⟨v, hv⟩ := s.mapAxes_eq AxisUnit.reset
  unfold State.deviceReset
  rw [hv]
  intro p hp
  cases p with
  | ports | axes | moves | monitor | table | engine => simp at hp
  | _ => rfl

theorem State.axis_deviceReset (s : State) (a : Axis) : s.deviceReset.axis a = AxisUnit.reset a (s.axis a) := by
  have haxes : s.deviceReset.axes = (s.mapAxes AxisUnit.reset).axes := rfl
  exact (State.axis_congr haxes a).trans (s.axis_mapAxes _ a)

/-! ## PARK -/

/-- R166: what stands in the way of PARK. -/
theorem State.atRest_iff {s : State} (h : s.power.state = .run) : s.atRest = true ↔
    s.moves.entries = [] ∧ s.engine.active = none ∧ s.engine.closing = [] ∧ s.store.queue = [] ∧ s.store.held = [] ∧
      s.store.write = none := by
  simp [State.atRest, h, and_assoc]

/-- R82: with no entry and no operation, the conclusion of an action closes jog records and does nothing else. -/
theorem State.concludeFor_noMoves (n : Nat) (ex : List Axis) (s : State) (he : s.moves.entries = [])
    (ha : s.engine.active = none) (hc : s.engine.closing = []) :
    (State.concludeFor n ex s).moves.entries = [] ∧ (State.concludeFor n ex s).moves.jogs ⊆ s.moves.jogs ∧
      (State.concludeFor n ex s).power = s.power := by
  induction n generalizing s ex with
  | zero => exact ⟨he, List.Subset.refl _, rfl⟩
  | succ n ih =>
    rw [State.concludeFor_succ, State.arbiter_empty he]
    cases hw : s.walked.nextWork with
    | none => exact ⟨he, List.Subset.refl _, rfl⟩
    | some t =>
      obtain ⟨r, rfl⟩ : ∃ r, t = s.walked.closeJog r := by
        unfold State.nextWork at hw
        split at hw
        · rename_i r _; exact ⟨r, (Option.some.inj hw).symm⟩
        · rw [show s.walked.engine.closing = [] from hc, show s.walked.engine.active = none from ha] at hw
          simp at hw
      obtain ⟨h1, h2, h3⟩ := ih [] (s.walked.closeJog r) he ha hc
      exact ⟨h1, List.Subset.trans h2 (List.filter_subset_self _), h3⟩

/-- R166, R144, R82: PARK taken, up to the snapshot. -/
def State.parked (s : State) : State :=
  let t := ({ s with power := { s.power with state := .parking, wakePending := false, wakeCause := none } }).disarm .park
  (t.modJogs (!·.closing) JogRecord.release).conclude []

theorem State.reqPark_rest {s : State} (h : s.atRest = true) :
    s.reqPark = (s.parked.snapshotOrWait, okWith (enc8 PowerState.parking.code)) := if_pos h

theorem State.onlyIn_engine (s : State) (x : RecallEngine) : s.onlyIn { s with engine := x } [.engine] := by
  intro p hp
  cases p with
  | engine => exact absurd (List.mem_singleton_self _) hp
  | _ => rfl

/-- R144: the exit is disarmed, and EXIT_STATE raised where it was armed. -/
theorem State.disarm_effect (s : State) (c : ExitCause) : s.onlyIn (s.disarm c) [.ports, .engine] ∧
    (s.disarm c).engine = { s.engine with arm := none } ∧
    s.gains (s.disarm c) (if s.engine.arm = none then noEvents
      else eventAt [.vehicle, .panel] (.exitState .disarmed 0 (some c) 0)) := by
  unfold State.disarm
  cases ha : s.engine.arm with
  | none =>
    refine ⟨.refl _ _, ?_, State.gains_of_ports rfl⟩
    show s.engine = _
    rw [← ha]
  | some d =>
    have hraise := (s.setArm none).raiseAt_only [.vehicle, .panel] (.exitState .disarmed 0 (some c) 0)
    refine ⟨((s.onlyIn_engine _).mono (by simp)).trans (hraise.mono (by simp)), hraise .engine (by simp), fun q => ?_⟩
    show ((s.setArm none).raiseAt [.vehicle, .panel] _).port q = _
    rw [State.port_raiseAt _ _ _ (by decide)]
    cases q <;> rfl

/-- R166: PARK of a quiet part, up to the snapshot. -/
theorem State.parked_quiet {s : State} (h : s.quiet) : s.parked =
    ({ s with power := { s.power with state := .parking, wakePending := false, wakeCause := none } }).disarm .park := by
  let u : State := { s with power := { s.power with state := .parking, wakePending := false, wakeCause := none } }
  obtain ⟨honly, hengine, _⟩ := u.disarm_effect .park
  have hmoves : (u.disarm .park).moves = {} := (honly .moves (by simp)).trans h.1
  have hjogs : (u.disarm .park).modJogs (!·.closing) JogRecord.release = u.disarm .park :=
    State.modJogs_none (by rw [hmoves]; nofun)
  show ((u.disarm .park).modJogs (!·.closing) JogRecord.release).conclude [] = u.disarm .park
  rw [hjogs]
  refine State.conclude_settled (State.settled_of_quiet ⟨hmoves, ?_, ?_⟩) []
  · rw [hengine]; exact h.2.1
  · rw [hengine]; exact h.2.2

theorem State.countedCoasting_iff (s : State) :
    s.countedCoasting = true ↔ ∃ a : Axis, a.counted = true ∧ (s.axis a).motion = .coasting := by
  simp [State.countedCoasting, mem_allAxes]

end Sys2Proof.Machine

namespace Sys2Proof

open Machine

/-- Settles O23: every axis IDLE, the consume write started and POWER_STATE raised. -/
theorem settleExpiryEndsWaking : Obligations.SettleExpiryEndsWaking := by
  unfold Obligations.SettleExpiryEndsWaking
  intro s hs hp ht hi hq hh hrequest
  obtain ⟨hawake, haxis⟩ := s.awake_effect
  obtain ⟨hcommit, hstate, hsnap, hwrite⟩ := State.commit_snapshot (s := s.awake) (by show PowerState.run ≠ .park; decide)
    ((congrArg ProfileStore.state (hawake .store (by simp))).trans hi)
    ((congrArg ProfileStore.queue (hawake .store (by simp))).trans hq)
    ((congrArg ProfileStore.held (hawake .store (by simp))).trans hh)
  have hboth : s.onlyIn (s.awake.commit 50) [.monitor, .axes, .power, .store] :=
    (hawake.mono (by simp)).trans (hcommit.mono (by simp))
  have hpower : (s.awake.commit 50).power = s.awake.power := hcommit .power (by simp)
  let cause := wakePowerCause s.power.wakeCause
  let t := (s.awake.commit 50).raisePowerState .run cause false
  have hraise : (s.awake.commit 50).onlyIn t [.ports] := State.onlyIn_raisePowerState _ _ _ _
  have hsnapshot : (s.awake.commit 50).power.snapshot = s.power.snapshot := by rw [hpower]; rfl
  have hgains : s.gains t fun q => if q = .vehicle then [.powerState .run s.power.snapshot cause false] else [] := by
    have := (State.gains_of_ports (hboth .ports (by simp))).trans (State.gains_raise (s.awake.commit 50) .vehicle
      (.powerState .run (s.awake.commit 50).power.snapshot cause false))
    rw [hsnapshot] at this
    simpa [noEvents, t, State.raisePowerState, hsnapshot] using this
  have hnone : ∀ p, (t.port p).request = none := fun p => by
    rw [hgains p]
    have keeps : ∀ (es : List Event) (u : PortUnit), (es.foldl PortUnit.enqueue u).request = u.request := by
      intro es
      induction es with
      | nil => exact fun u => rfl
      | cons e es ih =>
        intro u
        rw [List.foldl_cons, ih]
        unfold PortUnit.enqueue
        split <;> rfl
    rw [keeps]; exact hrequest p
  have hexec : exec .settleExpiry s = .next t := by
    have : exec .settleExpiry s = .next s.settleExpiry := congrArg Host.Outcome.next (if_pos hs)
    rw [this, State.settleExpiry_waking hp ht]
    exact congrArg _ (State.takeHeld_none hnone)
  have hstore : t.store = (s.awake.commit 50).store := hraise .store (by simp)
  refine ⟨t, hexec, (hboth.mono (by simp)).trans (hraise.mono (by simp)), ?_, ?_, fun a => ?_, ?_, ?_,
    ⟨s.awake.snapshotImage, ?_, rfl⟩, ?_⟩
  · exact (hraise .power (by simp)).trans hpower
  · exact (hraise .monitor (by simp)).trans (hcommit .monitor (by simp))
  · exact (State.axis_congr (hraise .axes (by simp)) a).trans
      ((State.axis_congr (hcommit .axes (by simp)) a).trans (haxis a))
  · rw [hstore, hstate]
  · rw [hstore, hsnap]
  · rw [hstore, hwrite]
  · intro q
    rw [hgains q]
    cases hw : s.power.wakeCause with
    | none => cases q <;> simp [eventAt, cause, wakePowerCause, hw]
    | some c =>
      cases c with
      | door => cases q <;> simp [eventAt, cause, wakePowerCause, hw]
      | port p => cases p <;> cases q <;> simp [eventAt, cause, wakePowerCause, hw]

/-- Settles O26: the part as DEVICE_RESET leaves it, its own port answered. -/
theorem deviceResetActs : Obligations.DeviceResetActs := by
  unfold Obligations.DeviceResetActs
  intro s k
  let s0 := s.written .vehicle .deviceReset
  let u := s0.deviceReset
  have hexec : exec .deviceReset s = .next (u.placeResponse .vehicle 3 (okWith [])) := by
    refine (exec_ready (c := .deviceReset) rfl k rfl (Request.length_frame_le _ nofun)).trans (congrArg _ ?_)
    show (s0.reqDeviceReset).1.placeResponse .vehicle 3 (s0.reqDeviceReset).2 = _
    rw [State.reqDeviceReset_run (s := s0) k.2.1]
  have hplace : u.onlyIn (u.placeResponse .vehicle 3 (okWith [])) [.ports] := u.onlyIn_modPort _ _
  have hu := s0.deviceReset_only
  refine ⟨_, hexec, ?_, rfl, rfl, rfl, rfl, ?_, fun a => ?_⟩
  · exact (((s.onlyIn_modPort _ _).mono (by simp)).trans hu).trans (hplace.mono (by simp))
  · obtain ⟨_, _, hq, _⟩ := k
    refine Ports.ext_get fun p => ?_
    cases p with
    | vehicle =>
      show ({ request := (s.port .vehicle).request, response := some { request := 3, code := .ok }
              dataOut := [0, 0] } : PortUnit) = _
      rw [hq]
      rfl
    | fleet | panel => rfl
  · exact (State.axis_congr (hplace .axes (by simp)) a).trans ((s0.axis_deviceReset a).trans (AxisUnit.reset_eq a _))

/-- Settles O21: PARK's refusal, and its way to the snapshot. -/
theorem parkEntersParking : Obligations.ParkEntersParking := by
  unfold Obligations.ParkEntersParking
  intro s k
  have hl : Request.park.frame.length ≤ 100 := Request.length_frame_le _ nofun
  have hrest := fun u => State.atRest_iff (s := s.setPort .vehicle u) k.2.1
  let s0 := s.written .vehicle .park
  refine ⟨fun h => ?_, fun hquiet hq hh hw hi => ?_, fun he ha hc hq hh hw => ?_⟩
  · refine exec_answered rfl k rfl hl fun u => if_neg fun hat => ?_
    obtain ⟨h1, h2, h3, h4, h5, h6⟩ := (hrest u).mp hat
    rcases h with h | h | h | h | h | h
    · exact h h1
    · exact h h2
    · exact h h3
    · exact h h4
    · exact h h5
    · exact h h6
  · let parking : State :=
      { s0 with power := { s0.power with state := .parking, wakePending := false, wakeCause := none } }
    have hat : s0.atRest = true :=
      (hrest _).mpr ⟨congrArg MoveList.entries hquiet.1, hquiet.2.1, hquiet.2.2, hq, hh, hw⟩
    have hv := (State.reqPark_rest hat).trans
      (congrArg (fun x : State => (x.snapshotOrWait, okWith (enc8 PowerState.parking.code))) (State.parked_quiet hquiet))
    obtain ⟨h1, h2, h3⟩ := parking.disarm_effect .park
    let p := parking.disarm .park
    have hs0 : s0.onlyIn p [.ports, .power, .engine] := ((s0.onlyIn_power _).mono (by simp)).trans (h1.mono (by simp))
    have hcoast : p.countedCoasting = true ↔ ∃ a : Axis, a.counted = true ∧ (s.axis a).motion = .coasting := by
      rw [p.countedCoasting_iff]
      simp only [State.axis_congr (hs0 .axes (by simp))]
      rfl
    have hpower : p.power = parking.power := h1 .power (by simp)
    have hstore : p.store = s.store := h1 .store (by simp)
    obtain ⟨c1, c2, c3, c4⟩ := State.commit_snapshot (s := p)
      (by rw [hpower]; show PowerState.parking ≠ .park; decide) (by rw [hstore]; exact hi) (by rw [hstore]; exact hq)
      (by rw [hstore]; exact hh)
    have hvp : p.onlyIn p.snapshotOrWait [.store, .power] := by
      unfold State.snapshotOrWait
      split
      · exact (p.onlyIn_power _).mono (by simp)
      · exact c1.mono (by simp)
    have hgains : s0.gains p.snapshotOrWait (if s.engine.arm = none then noEvents
        else eventAt [.vehicle, .panel] (.exitState .disarmed 0 (some .park) 0)) := fun q => by
      rw [State.port_congr (hvp .ports (by simp))]
      exact h3 q
    obtain ⟨t, ht, hs, hut, hans⟩ := exec_changes (c := .park) rfl k rfl hl hv
      ((hs0.mono (by simp)).trans (hvp.mono (by simp))) (ps := [.ports, .store, .power, .engine]) (by simp) hgains
    refine ⟨t, ht, hs, ?_, hans, fun hnone => ?_, fun hsome => ?_⟩
    · exact (hut .engine (by simp)).trans ((hvp .engine (by simp)).trans h2)
    · have hsnap : p.snapshotOrWait = p.commit 50 :=
        if_neg fun h => by obtain ⟨a, h1, h2⟩ := hcoast.mp h; exact hnone a h1 h2
      rw [hsnap] at hut
      have htstore : t.store = (p.commit 50).store := hut .store (by simp)
      have haxes : ∀ a, p.axis a = s.axis a := State.axis_congr (hs0 .axes (by simp))
      refine ⟨?_, by rw [htstore, c2], by rw [htstore, c3], p.snapshotImage, by rw [htstore, c4], ?_, fun a => ?_,
        fun a => ?_⟩
      · exact (hut .power (by simp)).trans ((c1 .power (by simp)).trans hpower)
      · show (p.power.state != .parking) = false
        rw [hpower]; rfl
      · have : s.axes[a.val] = p.axis ⟨a.val, by omega⟩ := (haxes ⟨a.val, by omega⟩).symm
        rw [this]
        simp [State.snapshotImage]
      · rw [← haxes a]
        simp [State.snapshotImage]
    · have hsnap : p.snapshotOrWait = { p with power := { p.power with coastWait := true } } := if_pos (hcoast.mpr hsome)
      rw [hsnap] at hut
      refine ⟨(hut .power (by simp)).trans ?_, (hut .store (by simp)).trans hstore⟩
      show ({ p.power with coastWait := true } : PowerControl) = _
      rw [hpower]
      rfl
  · have hat : s0.atRest = true := (hrest _).mpr ⟨he, ha, hc, hq, hh, hw⟩
    let parking : State :=
      { s0 with power := { s0.power with state := .parking, wakePending := false, wakeCause := none } }
    obtain ⟨h1, h2, _⟩ := parking.disarm_effect .park
    let p := (parking.disarm .park).modJogs (!·.closing) JogRecord.release
    have hmoves : (parking.disarm .park).moves = s.moves := h1 .moves (by simp)
    obtain ⟨k1, k2, k3⟩ := State.concludeFor_noMoves (p.moves.jogs.length + p.engine.closing.length + 16) [] p
      ((congrArg MoveList.entries hmoves).trans he)
      ((congrArg RecallEngine.active h2).trans ha) ((congrArg RecallEngine.closing h2).trans hc)
    have hclosing : ∀ r ∈ p.moves.jogs, r.closing = true := by
      intro r hr
      obtain ⟨x, _, rfl⟩ := List.mem_map.mp hr
      cases hx : x.closing <;> simp [hx, JogRecord.release]
    have hexec : exec .park s = .next (s0.parked.snapshotOrWait.placeResponse .vehicle 2
        (okWith (enc8 PowerState.parking.code))) := by
      refine (exec_ready (c := .park) rfl k rfl hl).trans (congrArg _ ?_)
      show (s0.reqPark).1.placeResponse .vehicle 2 (s0.reqPark).2 = _
      rw [State.reqPark_rest hat]
    have hpstate : s0.parked.power.state = .parking :=
      congrArg PowerControl.state (k3.trans (h1 .power (by simp)))
    have hsnap : s0.parked.snapshotOrWait.moves = s0.parked.moves ∧
        s0.parked.snapshotOrWait.power.state = s0.parked.power.state := by
      unfold State.snapshotOrWait
      split
      · exact ⟨rfl, rfl⟩
      · have f := s0.parked.commit_frame 50
        exact ⟨f.moves, congrArg _ f.power⟩
    refine ⟨_, hexec, hsnap.2.trans hpstate, (congrArg MoveList.entries hsnap.1).trans k1, fun r hr => ?_⟩
    have hr' : r ∈ s0.parked.moves.jogs := by
      have : r ∈ s0.parked.snapshotOrWait.moves.jogs := hr
      rwa [hsnap.1] at this
    exact hclosing r (k2 hr')

end Sys2Proof
end

section
/-! PROOF. Power-on (08, 06, 09): the blocks judged, the table rebuilt, the axis units loaded. -/

namespace Sys2Proof.Machine

/-! ## The blocks -/

/-- The blocks as a power-on finds them, block by block. -/
theorem decay_get (blocks : Vector Block 52) (decayed : List PhysIx) (b : PhysIx) :
    (decay blocks decayed)[b] = if b ∈ decayed then Block.corrupt else blocks[b] := by
  unfold decay
  induction decayed generalizing blocks with
  | nil => rfl
  | cons a l ih =>
    rw [List.foldl_cons, ih]
    by_cases hl : b ∈ l
    · rw [if_pos hl, if_pos (List.mem_cons_of_mem _ hl)]
    · rw [if_neg hl]
      by_cases hab : b = a
      · subst hab; simp
      · have : a.val ≠ b.val := fun h => hab (Fin.ext h.symm)
        simp [hab, hl, this]

/-- R161: the spare's slot and record, from what the spare holds. -/
theorem spareImage_eq (v : Vector Block 52) : spareImage v =
    match v[(51 : PhysIx)] with | .valid (.slot i r) => some (i, r) | _ => none := by
  unfold spareImage
  show (match judgeBlock spareBlock v[(51 : PhysIx)] with | some (.slot i r) => some (i, r) | _ => none) = _
  rcases v[(51 : PhysIx)] with _ | _ | (⟨i, r⟩ | _ | _ | _)
  · rfl
  · rfl
  · simp [judgeBlock]
  · rfl
  · rfl
  · rfl

/-- R148, R149: the record of a slot, from what its home block holds. -/
theorem homeImage_eq (v : Vector Block 52) (i : SlotIx) : homeImage v i =
    match v[homeBlock (slotBlock i)] with
      | .valid (.slot j r) => if j = i then some r else none
      | _ => none := by
  have hi : i.val < 48 := i.isLt
  have hspare : homeBlock (slotBlock i) ≠ spareBlock := fun h => by
    have := congrArg Fin.val h
    simp [homeBlock, slotBlock, spareBlock] at this
    omega
  unfold homeImage
  show (match judgeBlock (homeBlock (slotBlock i)) v[homeBlock (slotBlock i)] with | some (.slot _ r) => some r | _ => none) = _
  rcases v[homeBlock (slotBlock i)] with _ | _ | (⟨j, r⟩ | p | w | x)
  · rfl
  · rfl
  · have hval : (homeBlock (slotBlock i)).val = i.val := rfl
    by_cases h : j = i
    · subst h; simp [judgeBlock, hval]
    · have : i.val ≠ j.val := fun k => h (Fin.ext k.symm)
      simp [judgeBlock, hval, this, hspare, h]
  · have : (homeBlock (slotBlock i)).val ≠ 48 := by show i.val ≠ 48; omega
    simp [judgeBlock, this]
  · have : (homeBlock (slotBlock i)).val ≠ 49 := by show i.val ≠ 49; omega
    simp [judgeBlock, this]
  · have : (homeBlock (slotBlock i)).val ≠ 50 := by show i.val ≠ 50; omega
    simp [judgeBlock, this]

/-- R122 step 5, R27, R174: the default profile, the van record and the snapshot, from what their blocks hold. -/
theorem loadDefault_eq (v : Vector Block 52) :
    loadDefault v = match v[(48 : PhysIx)] with | .valid (.dflt p) => some p | _ => none := by
  unfold loadDefault
  show (match judgeBlock (homeBlock dfltBlock) v[(48 : PhysIx)] with | some (.dflt p) => some p | _ => none) = _
  rcases v[(48 : PhysIx)] with _ | _ | (⟨i, r⟩ | _ | _ | _)
  · rfl
  · rfl
  · have h1 : (homeBlock dfltBlock).val ≠ i.val := by show 48 ≠ i.val; omega
    have h2 : homeBlock dfltBlock ≠ spareBlock := by decide
    simp [judgeBlock, h1, h2]
  · rfl
  · rfl
  · rfl

theorem loadVan_eq (v : Vector Block 52) :
    loadVan v = match v[(49 : PhysIx)] with | .valid (.van w) => some w | _ => none := by
  unfold loadVan
  show (match judgeBlock (homeBlock vanBlock) v[(49 : PhysIx)] with | some (.van w) => some w | _ => none) = _
  rcases v[(49 : PhysIx)] with _ | _ | (⟨i, r⟩ | _ | _ | _)
  · rfl
  · rfl
  · have h1 : (homeBlock vanBlock).val ≠ i.val := by show 49 ≠ i.val; omega
    have h2 : homeBlock vanBlock ≠ spareBlock := by decide
    simp [judgeBlock, h1, h2]
  · rfl
  · rfl
  · rfl

theorem loadSnapshot_eq (v : Vector Block 52) : loadSnapshot v =
    match v[(50 : PhysIx)] with | .valid (.snapshot x) => if x.consumed then none else some x | _ => none := by
  unfold loadSnapshot
  show (match judgeBlock (homeBlock snapBlock) v[(50 : PhysIx)] with
    | some (.snapshot x) => if x.consumed then none else some x | _ => none) = _
  rcases v[(50 : PhysIx)] with _ | _ | (⟨i, r⟩ | _ | _ | _)
  · rfl
  · rfl
  · have h1 : (homeBlock snapBlock).val ≠ i.val := by show 50 ≠ i.val; omega
    have h2 : homeBlock snapBlock ≠ spareBlock := by decide
    simp [judgeBlock, h1, h2]
  · rfl
  · rfl
  · rfl

/-! ## The table -/

/-- R122: the records of the table a power-on rebuilds, in its slots, all STORED. -/
theorem rebuildTable_slot (v : Vector Block 52) (i : SlotIx) :
    (rebuildTable v).slots[i.val] = { record := (dedupe (Vector.ofFn (loadedSlot v)))[i.val] } := by
  simp [rebuildTable]

/-- R122 step 3: a lower IN_USE slot, as loaded, holds the driver ID of an IN_USE slot. -/
theorem shadowed_iff (v : Vector Block 52) (i : SlotIx) : shadowed (Vector.ofFn (loadedSlot v)) i = true ↔
    ∃ j, j < i ∧ ∃ q, loadSlot v j = some q ∧ q.inUse = true ∧ q.driver = (loadedSlot v i).driver := by
  unfold shadowed
  rw [List.any_eq_true]
  constructor
  · rintro ⟨j, _, hj⟩
    simp only [Bool.and_eq_true, decide_eq_true_eq, beq_iff_eq, Vector.getElem_ofFn] at hj
    obtain ⟨⟨hlt, hu⟩, hd⟩ := hj
    cases h : loadSlot v j with
    | none => simp [loadedSlot, h] at hu
    | some q =>
      have hq : loadedSlot v j = q := by simp [loadedSlot, h]
      rw [show (⟨j.val, j.isLt⟩ : SlotIx) = j from rfl, hq] at hu hd
      exact ⟨j, hlt, q, h, hu, hd⟩
  · rintro ⟨j, hlt, q, h, hu, hd⟩
    have hq : loadedSlot v j = q := by simp [loadedSlot, h]
    refine ⟨j, List.mem_finRange j, ?_⟩
    simp only [Bool.and_eq_true, decide_eq_true_eq, beq_iff_eq, Vector.getElem_ofFn]
    rw [show (⟨j.val, j.isLt⟩ : SlotIx) = j from rfl, hq]
    exact ⟨⟨hlt, hu⟩, hd⟩

/-- R122: the record of each slot after the load. -/
theorem rebuilt_record (v : Vector Block 52) (i : SlotIx) :
    (dedupe (Vector.ofFn (loadedSlot v)))[i.val] =
      if (loadedSlot v i).inUse && shadowed (Vector.ofFn (loadedSlot v)) i then
        { loadedSlot v i with inUse := false, pinned := false, dirty := false }
      else loadedSlot v i := by
  simp [dedupe]

theorem le_foldl_max (l : List Nat) (a : Nat) : a ≤ l.foldl max a ∧ ∀ x ∈ l, x ≤ l.foldl max a := by
  induction l generalizing a with
  | nil => exact ⟨le_refl a, nofun⟩
  | cons y l ih =>
    obtain ⟨h1, h2⟩ := ih (max a y)
    refine ⟨(le_max_left a y).trans h1, fun x hx => ?_⟩
    rcases List.mem_cons.mp hx with rfl | hx
    · exact (le_max_right a x).trans h1
    · exact h2 x hx

theorem foldl_max_mem (l : List Nat) (a : Nat) : l.foldl max a = a ∨ l.foldl max a ∈ l := by
  induction l generalizing a with
  | nil => exact .inl rfl
  | cons y l ih =>
    rw [List.foldl_cons]
    rcases ih (max a y) with h | h
    · rw [h]
      rcases max_choice a y with h | h
      · exact .inl h
      · rw [h]; exact .inr List.mem_cons_self
    · exact .inr (List.mem_cons_of_mem _ h)

/-- R105: the operation counter lies above every stamp of an IN_USE slot, and is the least such, or 1. -/
theorem counterFrom_bounds (records : Vector SlotRecord 48) :
    (∀ i : SlotIx, records[i.val].inUse = true → min (records[i.val].stamp + 1) 4294967295 ≤ counterFrom records) ∧
    (counterFrom records = 1 ∨ ∃ i : SlotIx, records[i.val].inUse = true ∧
      counterFrom records = min (records[i.val].stamp + 1) 4294967295) := by
  let stamps := records.toList.map fun r => if r.inUse then r.stamp else 0
  have hcounter : counterFrom records = min (stamps.foldl max 0 + 1) 4294967295 := rfl
  have hmem : ∀ r, r ∈ records.toList ↔ ∃ i : SlotIx, records[i.val] = r := fun r => by
    rw [Vector.mem_toList_iff, Vector.mem_iff_getElem]
    exact ⟨fun ⟨i, hi, h⟩ => ⟨⟨i, hi⟩, h⟩, fun ⟨i, h⟩ => ⟨i.val, i.isLt, h⟩⟩
  rw [hcounter]
  refine ⟨fun i hi => ?_, ?_⟩
  · have hstamp : records[i.val].stamp ∈ stamps :=
      List.mem_map.mpr ⟨records[i.val], (hmem _).mpr ⟨i, rfl⟩, if_pos hi⟩
    have := (le_foldl_max stamps 0).2 _ hstamp
    omega
  · by_cases h0 : stamps.foldl max 0 = 0
    · left; rw [h0]; rfl
    · obtain ⟨r, hr, hx⟩ := List.mem_map.mp ((foldl_max_mem stamps 0).resolve_left h0)
      obtain ⟨i, rfl⟩ := (hmem r).mp hr
      by_cases hu : records[i.val].inUse = true
      · rw [if_pos hu] at hx
        exact .inr ⟨i, hu, by rw [hx]⟩
      · rw [if_neg hu] at hx
        exact absurd hx.symm h0

section Rebuilt

variable {t : State} {v : Vector Block 52} (h : t.table = rebuildTable v)

include h

theorem State.slot_of_rebuilt (i : SlotIx) : t.slot i = { record := (dedupe (Vector.ofFn (loadedSlot v)))[i.val] } := by
  unfold State.slot
  rw [h]
  exact rebuildTable_slot v i

theorem State.slot_of_unloaded {i : SlotIx} (hi : loadSlot v i = none) : (t.slot i).record = {} := by
  have hl : loadedSlot v i = {} := by rw [loadedSlot, hi]; rfl
  rw [State.slot_of_rebuilt h, rebuilt_record, hl]
  rfl

theorem State.slot_of_loaded {i : SlotIx} {r : SlotRecord} (hi : loadSlot v i = some r) :
    (t.slot i).record = if r.inUse = true ∧ ∃ j < i, ∃ q, loadSlot v j = some q ∧ q.inUse = true ∧ q.driver = r.driver then
      { r with inUse := false, pinned := false, dirty := false } else r := by
  have hl : loadedSlot v i = r := by rw [loadedSlot, hi]; rfl
  rw [State.slot_of_rebuilt h, rebuilt_record, hl]
  refine if_congr ?_ rfl rfl
  rw [Bool.and_eq_true, shadowed_iff, hl]

theorem State.dirty_of_rebuilt :
    t.table.dirty = allSlots.filter fun i => (t.slot i).record.inUse && (t.slot i).record.dirty := by
  rw [h]
  have hdirty : ∀ i, (t.slot i).record = (dedupe (Vector.ofFn (loadedSlot v)))[i.val] := fun i => by
    rw [State.slot_of_rebuilt h]
  simp only [hdirty]
  unfold rebuildTable
  dsimp only

theorem State.counter_of_rebuilt :
    (∀ i, (t.slot i).record.inUse = true → min ((t.slot i).record.stamp + 1) 4294967295 ≤ t.table.counter) ∧
    (t.table.counter = 1 ∨ ∃ i, (t.slot i).record.inUse = true ∧
      t.table.counter = min ((t.slot i).record.stamp + 1) 4294967295) := by
  simp only [State.slot_of_rebuilt h]
  rw [show t.table.counter = counterFrom (dedupe (Vector.ofFn (loadedSlot v))) by rw [h]; rfl]
  exact counterFrom_bounds _

end Rebuilt

/-! ## Supply applied -/

/-- R174: the consume write of a snapshot that was used touches the store alone. -/
theorem State.applySupply_loaded (s : State) (straps : BitVec 10) (decayed : List PhysIx) :
    let v := decay s.store.blocks decayed
    let l := loaded v (fittedFrom straps) s.model s.pending
    l.onlyIn (s.applySupply straps decayed) [.store] ∧ (s.applySupply straps decayed).store.blocks = v ∧
      (s.applySupply straps decayed).store.spare = (spareImage v).map (·.1) ∧
      (loadSnapshot v = none → s.applySupply straps decayed = l) ∧
      ((loadSnapshot v).isSome → s.applySupply straps decayed = l.commit 50) := by
  intro v l
  by_cases h : (loadSnapshot v).isSome = true
  · have happly : s.applySupply straps decayed = l.commit 50 := if_pos h
    have f := l.commit_frame 50
    rw [happly]
    exact ⟨State.commit_only_store rfl l, f.blocks, f.spare, (fun hn => by rw [hn] at h; cases h), fun _ => rfl⟩
  · have happly : s.applySupply straps decayed = l := if_neg h
    rw [happly]
    exact ⟨.refl l _, rfl, rfl, fun _ => rfl, fun k => absurd k h⟩

theorem exec_powerOn {s : State} (h : s.powered = false) (straps : BitVec 10) (decayed : List PhysIx) :
    exec (.powerOn straps decayed) s = .next (s.applySupply straps decayed) :=
  congrArg Host.Outcome.next (if_neg (by simp [h]))

/-- R23: an axis unit without a snapshot. -/
theorem freshAxes_get (a : Axis) : freshAxes[a.val] = { sensorFault := a.mirror } := by revert a; decide

/-- R174, R23: an axis unit as a snapshot and the van record restore it. -/
theorem loadAxes_get (van : VanRecord) (x : Snapshot) (a : Axis) :
    (loadAxes van (some x))[a.val] = restoreAxis van x a { sensorFault := a.mirror } := by
  rw [← freshAxes_get]
  simp [loadAxes]

/-- R122, R162: the load of blocks that are all BLANK. -/
theorem loaded_blank (fitted : BitVec 10) (model : ModelFields) (pending : List Instr) :
    loaded (Vector.replicate 52 .blank) fitted model pending =
      { State.reset with fitted := fitted, van := { enable := fitted }, model := model, pending := pending } := by
  have hload : ∀ i, loadSlot (Vector.replicate 52 .blank) i = none := fun i => by
    have hhome : homeImage (Vector.replicate 52 .blank) i = none := by rw [homeImage_eq]; simp
    have hspare : spareImage (Vector.replicate 52 .blank) = none := rfl
    rw [loadSlot, hspare]; exact hhome
  have hslot : ∀ i, loadedSlot (Vector.replicate 52 .blank) i = {} := fun i => by rw [loadedSlot, hload]; rfl
  have hrecords : dedupe (Vector.ofFn (loadedSlot (Vector.replicate 52 .blank))) = Vector.replicate 48 {} := by
    apply Vector.ext
    intro i hi
    rw [rebuilt_record _ ⟨i, hi⟩, hslot]
    simp
  have htable : rebuildTable (Vector.replicate 52 .blank) = {} := by
    have hslots : (Vector.ofFn fun i : Fin 48 => ({ record := (Vector.replicate 48 ({} : SlotRecord))[i.val] } : Slot)) =
        Vector.replicate 48 {} := by
      apply Vector.ext
      intro i hi
      simp
    have hcounter : counterFrom (Vector.replicate 48 {}) = 1 := by
      rcases (counterFrom_bounds (Vector.replicate 48 {})).2 with h | ⟨i, hi, _⟩
      · exact h
      · simp at hi
    unfold rebuildTable
    rw [hrecords]
    dsimp only
    rw [hslots, hcounter]
    simp
    rfl
  have hloss : profileLoss (Vector.replicate 52 .blank) = [.profileLoss (List.finRange 48) true true] := by
    have hall : (allSlots.filter fun i => (loadSlot (Vector.replicate 52 .blank) i).isNone) = List.finRange 48 :=
      List.filter_eq_self.mpr fun i _ => by rw [hload]; rfl
    unfold profileLoss
    rw [hall]
    rfl
  unfold loaded
  rw [htable, hloss]
  rfl

end Sys2Proof.Machine

namespace Sys2Proof

open Machine

/-- Settles O24: the load of BLANK blocks, of any blocks, and of a snapshot. -/
theorem powerOnLoadsTheBlocks : Obligations.PowerOnLoadsTheBlocks := by
  unfold Obligations.PowerOnLoadsTheBlocks
  intro s straps hs
  refine ⟨fun hblank => ?_, fun decayed => ?_, fun decayed x w hx hunused hvan h50 h49 => ?_⟩
  · have hblocks : decay s.store.blocks [] = Vector.replicate 52 .blank := by
      apply Vector.ext
      intro i hi
      have := hblank ⟨i, hi⟩
      simpa [decay] using this
    have hl := (s.applySupply_loaded straps []).2.2.2.1
    rw [hblocks] at hl
    rw [exec_powerOn hs, hl rfl, loaded_blank]
    rfl
  · intro block spare home found shadowedBy lost noDflt noVan
    let v := decay s.store.blocks decayed
    have hv : ∀ b : PhysIx, v[b] = block b := decay_get _ _
    obtain ⟨honly, hblocks, hspare, hnone, _⟩ := s.applySupply_loaded straps decayed
    obtain ⟨t, ht⟩ : ∃ t, t = s.applySupply straps decayed := ⟨_, rfl⟩
    rw [← ht] at honly hblocks hspare hnone
    have htable : t.table = rebuildTable v := honly .table (by simp)
    have spareIs : spareImage v = spare := (spareImage_eq v).trans (by rw [hv] <;> rfl)
    have foundIs : ∀ i, loadSlot v i = found i := fun i => by
      have homeIs : homeImage v i = home i := (homeImage_eq v i).trans (by rw [hv] <;> rfl)
      unfold loadSlot
      rw [spareIs, homeIs] <;> rfl
    have dfltIs : loadDefault v = match block 48 with | .valid (.dflt p) => some p | _ => none :=
      (loadDefault_eq v).trans (by rw [hv])
    have vanIs : loadVan v = match block 49 with | .valid (.van w) => some w | _ => none :=
      (loadVan_eq v).trans (by rw [hv])
    have snapIs : loadSnapshot v =
        match block 50 with | .valid (.snapshot x) => if x.consumed then none else some x | _ => none :=
      (loadSnapshot_eq v).trans (by rw [hv])
    have hloaded : ∀ i r, found i = some r → (t.slot i).record =
        if shadowedBy i r then { r with inUse := false, pinned := false, dirty := false } else r := fun i r h => by
      have := State.slot_of_loaded htable ((foundIs i).trans h)
      simpa only [foundIs] using this
    have hdirty := State.dirty_of_rebuilt htable
    obtain ⟨habove, hleast⟩ := State.counter_of_rebuilt htable
    refine ⟨t, by rw [ht]; exact exec_powerOn hs straps decayed, honly .powered (by simp), honly .fitted (by simp),
      honly .monitor (by simp), honly .moves (by simp), honly .engine (by simp), ?_, fun b => ?_, ?_, fun i => ?_,
      fun i h => ?_, fun i r h hn => ?_, fun i r h hsh => ?_, ?_, fun i => ?_, ?_, ?_, habove, hleast, ?_, ?_, ?_,
      fun hused => ?_⟩
    · exact congrArg PowerControl.state (honly .power (by simp))
    · rw [hblocks]; exact hv b
    · rw [hspare, spareIs]
    · rw [State.slot_of_rebuilt htable]
    · exact State.slot_of_unloaded htable ((foundIs i).trans h)
    · exact (hloaded i r h).trans (if_neg hn)
    · exact (hloaded i r h).trans (if_pos hsh)
    · rw [hdirty]; exact (List.pairwise_lt_finRange 48).filter _
    · rw [hdirty, List.mem_filter, Bool.and_eq_true]
      exact and_iff_right (List.mem_finRange i)
    · rw [htable]
      show (loadDefault v).join = _
      rw [dfltIs]
      rcases block 48 with _ | _ | (_ | _ | _ | _) <;> rfl
    · rw [htable]; rfl
    · have hvan : t.van = (loadVan v).getD (uncommissioned (fittedFrom straps)) := honly .van (by simp)
      rw [hvan, vanIs]
      rcases block 49 with _ | _ | (_ | _ | _ | _) <;> rfl
    · have hports : t.port .fleet = { events := profileLoss v } := State.port_congr (honly .ports (by simp)) .fleet
      have hlost : (allSlots.filter fun i => (loadSlot v i).isNone) = lost :=
        List.filter_congr fun i _ => by rw [foundIs]
      have hd : (loadDefault v).isNone = noDflt := by
        rw [dfltIs]; simp only [noDflt]; rcases block 48 with _ | _ | (_ | _ | _ | _) <;> rfl
      have hw : (loadVan v).isNone = noVan := by
        rw [vanIs]; simp only [noVan]; rcases block 49 with _ | _ | (_ | _ | _ | _) <;> rfl
      rw [hports]
      unfold profileLoss
      dsimp only
      rw [hlost, hd, hw]
      simp [and_assoc]
    · exact State.port_congr (honly .ports (by simp)) .panel
    · have hsnap : loadSnapshot v = none := by
        rw [snapIs]
        split
        · rename_i x hx; exact if_pos (hused x hx)
        · rfl
      rw [hnone hsnap]
      unfold loaded
      rw [hsnap]
      exact ⟨rfl, rfl, freshAxes_get, rfl, rfl, rfl, rfl⟩
  · let v := decay s.store.blocks decayed
    have hv50 : v[(50 : PhysIx)] = .valid (.snapshot x) := by
      show (decay s.store.blocks decayed)[(50 : PhysIx)] = _
      rw [decay_get, if_neg h50]; exact hx
    have hv49 : v[(49 : PhysIx)] = .valid (.van w) := by
      show (decay s.store.blocks decayed)[(49 : PhysIx)] = _
      rw [decay_get, if_neg h49]; exact hvan
    have hsnap : loadSnapshot v = some x := by rw [loadSnapshot_eq, hv50]; exact if_neg (by simp [hunused])
    have hload : loadVan v = some w := by rw [loadVan_eq, hv49]
    obtain ⟨honly, _, _, _, hsome⟩ := s.applySupply_loaded straps decayed
    let t := s.applySupply straps decayed
    let l := loaded v (fittedFrom straps) s.model s.pending
    have hpower : l.power = { state := .run, snapshot := .live } := by
      show ({ snapshot := if (loadSnapshot v).isSome then .live else .consumed } : PowerControl) = _
      rw [hsnap]; rfl
    have hlvan : l.van = w := by
      show (loadVan v).getD _ = w
      rw [hload]; rfl
    have haxis : ∀ a, t.axis a = restoreAxis w x a { sensorFault := a.mirror } := fun a => by
      have : t.axis a = (loadAxes l.van (loadSnapshot v))[a.val] := State.axis_congr (honly .axes (by simp)) a
      rw [this, hlvan, hsnap, loadAxes_get]
    obtain ⟨_, hstate, _, hwrite⟩ := State.commit_snapshot (s := l) (by rw [hpower]; decide) rfl rfl rfl
    have ht : t = l.commit 50 := hsome (by rw [hsnap]; rfl)
    refine ⟨t, exec_powerOn hs straps decayed, honly .powered (by simp), (honly .van (by simp)).trans hlvan,
      (honly .power (by simp)).trans hpower, ?_, fun i => ?_, fun a => ?_, by rw [ht]; exact hstate,
      l.snapshotImage, by rw [ht]; exact hwrite, ?_⟩
    · refine (State.port_congr (honly .ports (by simp)) .vehicle).trans ?_
      show ({ events := [.powerState .run (if (loadSnapshot v).isSome then .live else .consumed) .powerOn
        (loadSnapshot v).isSome] } : PortUnit) = _
      rw [hsnap]; rfl
    · have hi : t.axes[i.val] = t.axis ⟨i.val, by omega⟩ := rfl
      rw [hi, haxis]
      unfold restoreAxis
      rw [dif_pos i.isLt]
      exact ⟨rfl, rfl, rfl, rfl⟩
    · rw [haxis]
      unfold restoreAxis
      split <;> exact ⟨rfl, rfl, rfl, rfl, rfl⟩
    · show (l.power.state != .parking) = true
      rw [hpower]; rfl

end Sys2Proof
end

section
/-! PROOF. The checks of the motion requests (02, 04, 07), and the requests of PARKING (09). -/

namespace Sys2Proof.Machine

/-! ## Operands -/

theorem decAxis_of_val {a : Axis} {x : Byte} (h : a.val = x.toNat) : decAxis x = some a := by
  unfold decAxis
  rw [dif_pos (by omega : x.toNat < 10)]
  exact congrArg some (Fin.ext h.symm)

theorem decAxis_none {x : Byte} (h : 9 < x.toNat) : decAxis x = none := dif_neg (by omega)

/-- R77: the direction byte of a JOG. -/
theorem decDir_byte (d : Dir) : decDir (match d with | .up => 0 | .down => 1) = some d := by cases d <;> rfl

theorem decDir_isSome {x : Byte} (h : x.toNat ≤ 1) : ∃ d, decDir x = some d := by
  have hx : x = 0 ∨ x = 1 := by bv_omega
  rcases hx with rfl | rfl
  · exact ⟨.up, rfl⟩
  · exact ⟨.down, rfl⟩

theorem decDir_none {x : Byte} (h : 1 < x.toNat) : decDir x = none := by
  have h0 : x ≠ 0 := by bv_omega
  have h1 : x ≠ 1 := by bv_omega
  unfold decDir
  rw [if_neg h0, if_neg h1]

/-! ## The checks -/

section Checks

variable {s : State} (hr : s.power.state = .run)

include hr

theorem State.motionRefused_run : s.motionRefused = false := by simp [State.motionRefused, hr]

theorem State.reqNormalise_badField (p : Port) {x : Byte} (h : 5 < x.toNat) : s.reqNormalise p x = (s, refusal .badField) := by
  unfold State.reqNormalise
  rw [State.motionRefused_run hr]
  rcases Nat.lt_or_ge 9 x.toNat with hx | hx
  · rw [decAxis_none hx]; rfl
  · have hd : decAxis x = some ⟨x.toNat, by omega⟩ := decAxis_of_val rfl
    have hc : Axis.counted ⟨x.toNat, by omega⟩ = false := by simp [Axis.counted]; omega
    rw [hd]
    simp [hc]

/-- R38: the checks of a NORMALISE of a counted axis. -/
theorem State.reqNormalise_counted (p : Port) {x : Byte} {a : Axis} (ha : a.val = x.toNat) (hc : a.counted = true) :
    s.reqNormalise p x = if s.isEffective a = false then (s, refusal .notFitted)
      else if s.engine.active.isSome ∨ (s.entryOf a).isSome then (s, refusal .busy)
      else if (s.axis a).hot then (s, refusal .hot)
      else if s.permitsCause .normalise = false then (s, refusal .interlock)
      else ((s.startNormalise p a).conclude [], acceptedWith s.table.counter) := by
  unfold State.reqNormalise
  rw [State.motionRefused_run hr, decAxis_of_val ha]
  simp [hc]

theorem State.reqJog_badField {x d : Byte} (h : 9 < x.toNat ∨ 1 < d.toNat) : s.reqJog x d = (s, refusal .badField) := by
  unfold State.reqJog
  rw [State.motionRefused_run hr]
  rcases h with h | h
  · rw [decAxis_none h]; rfl
  · rw [decDir_none h]; cases decAxis x <;> rfl

/-- R77, R79: the checks of a JOG with good operands. -/
theorem State.reqJog_axis {x y : Byte} {a : Axis} {d : Dir} (ha : a.val = x.toNat) (hd : decDir y = some d) :
    s.reqJog x y = if s.isEffective a = false then (s, refusal .notFitted)
      else if (s.openJog a).any (·.dir == d) then
        (s.modJogs (fun r => r.axis == a && !r.closing) JogRecord.refresh, okWith [])
      else if (s.axis a).hot then (s, refusal .hot)
      else (s.newJog a d, okWith []) := by
  unfold State.reqJog
  rw [State.motionRefused_run hr, decAxis_of_val ha, hd]
  simp

/-- R127: the checks of a RECALL. -/
theorem State.reqRecall_run : s.reqRecall = if s.van.commissioned = false then (s, refusal .notCommissioned)
    else if s.table.driver = .nobody then (s, refusal .noDriver)
    else match s.recallSource with
      | none => (s, refusal .noProfile)
      | some (v, slot) =>
        if s.engine.active.isSome then (s, refusal .busy)
        else if s.permitsCause .recall = false then (s, refusal .interlock)
        else ((s.startRecall .panel v slot).conclude [], acceptedWith s.table.counter) := by
  unfold State.reqRecall
  rw [State.motionRefused_run hr]
  simp <;> rfl

/-- R141: the checks of an UNDO. -/
theorem State.reqUndo_run : s.reqUndo = if s.van.commissioned = false then (s, refusal .notCommissioned)
    else if s.engine.active.isSome then (s, refusal .busy)
    else match s.engine.ring.find? (·.undoable) with
      | none => (s, refusal .nothingToUndo)
      | some r =>
        if s.permitsCause .undo = false then (s, refusal .interlock)
        else ((s.startUndo .panel r).conclude [], acceptedWith s.table.counter) := by
  unfold State.reqUndo
  rw [State.motionRefused_run hr]
  simp <;> rfl

end Checks

/-- R80: the checks of a JOG_END. -/
theorem State.reqJogEnd_axis (s : State) {x : Byte} {a : Axis} (ha : a.val = x.toNat) :
    s.reqJogEnd x = if s.isEffective a = false then (s, refusal .notFitted)
      else match s.openJog a with
        | none => (s, okWith [])
        | some r => ((s.releaseJog r).conclude [], okWith []) := by
  unfold State.reqJogEnd
  rw [decAxis_of_val ha]
  simp <;> rfl

theorem State.recallSource_known {s : State} {i : SlotIx} (h : s.table.driver = .known i) :
    s.recallSource = some ((s.slot i).record.profile.positions, some (i, (s.slot i).record.driver)) := by
  unfold State.recallSource
  rw [h]

/-! ## Requests of PARKING -/

/-- R179, R170: a request taken at once in PARKING: its write is a wake cause, but where its header byte has been one. -/
theorem exec_parking {c : Instr} {p : Port} {r : Request} (h : c.request = some (p, r)) {s : State} (k : s.parkingReady p)
    (hc : codeCarriedAt r.code.toNat p = true) (hl : r.frame.length ≤ 100) :
    let w := if (s.selected p).header = true then s else s.wakeNoted (.port p)
    exec c s = .next ((w.written p r).serve p r) := by
  obtain ⟨h1, h2, h3, h4⟩ := k
  intro w
  have hopen : s.openWrite p = w := by
    unfold State.openWrite
    rw [State.wake_parking h2]
  have hw : (w.port p).request = none ∧ (w.port p).response = none ∧ w.power.state = .parking := by
    simp only [w]
    split <;> exact ⟨h3, h4, h2⟩
  rw [exec_request h, live, if_pos h1, State.submit, hopen]
  have htakes : (w.written p r).takesNow p r.frame = true := by
    simp [State.takesNow, State.written, State.endTransaction, State.modPort, State.takes, hw.1, hw.2.1, hw.2.2, maxFrame, hl]
  rw [if_pos htakes, if_pos hc]

/-- A request of PARKING that its block refuses, leaving the state as it is. -/
theorem exec_parkingAnswered {c : Instr} {p : Port} {r : Request} {reply : Reply} (h : c.request = some (p, r)) {s : State}
    (k : s.parkingReady p) (hc : codeCarriedAt r.code.toNat p = true) (hl : r.frame.length ≤ 100)
    (hr : ∀ t : State, t.power.state = .parking → t.handle p r = (t, reply)) :
    let w := if (s.selected p).header = true then s else s.wakeNoted (.port p)
    exec c s = .next (w.answered p r reply) := by
  intro w
  have hw : w.power.state = .parking := by simp only [w]; split <;> exact k.2.1
  refine (exec_parking h k hc hl).trans (congrArg Host.Outcome.next ?_)
  show (w.written p r).serve p r = _
  unfold State.serve
  rw [hr (w.written p r) hw]
  unfold State.written State.endTransaction State.placeResponse State.modPort State.answered PortUnit.answered Reply.toResponse
    State.setPort State.port
  cases p <;> rfl

/-! ## ASSIGN_DRIVER -/

theorem State.gains.congr {s t : State} {f g : Port → List Event} (h : s.gains t f) (hfg : ∀ q, f q = g q) :
    s.gains t g := fun q => by rw [h q, hfg q]

/-- R107: the assignment, once nothing of an operation is left to do. -/
def State.assigned (s : State) (id : Nat) : State :=
  ((s.setDriver (s.driverFor id)).disarm .assign).setAllowance false

theorem State.assign_idle {s : State} (ha : s.engine.active = none) (hw : s.moves.walksDue = 0) (id : Nat) :
    s.assign id = s.assigned id := by
  have habort : s.abortActive .driverChanged = s := by unfold State.abortActive; rw [ha]
  unfold State.assign
  rw [habort, State.arbiter_idle hw]
  rfl

theorem State.assigned_effect (s : State) (id : Nat) : s.onlyIn (s.assigned id) [.ports, .table, .engine] ∧
    (s.assigned id).table = { s.table with driver := s.driverFor id } ∧
    (s.assigned id).engine = { s.engine with arm := none, returnAllowed := false } ∧
    s.gains (s.assigned id) fun p =>
      if s.engine.arm.isSome ∧ p ≠ .fleet then [.exitState .disarmed 0 (some .assign) 0] else [] := by
  obtain ⟨honly, hengine, hgains⟩ := (s.setDriver (s.driverFor id)).disarm_effect .assign
  refine ⟨((s.onlyIn_table _).mono (by simp)).trans ((honly.mono (by simp)).trans ((State.onlyIn_engine _ _).mono (by simp))),
    honly .table (by simp), ?_, State.gains.congr (g := fun p => _) hgains fun p => ?_⟩
  · show ({ ((s.setDriver (s.driverFor id)).disarm .assign).engine with returnAllowed := false } : RecallEngine) = _
    rw [hengine]
    rfl
  · show (if s.engine.arm = none then noEvents else _) p = _
    cases s.engine.arm <;> cases p <;> rfl

/-- An assignment leaves nothing more to do than there was. -/
theorem State.assigned_settled {s : State} (h : s.settled) (id : Nat) : (s.assigned id).settled := by
  obtain ⟨honly, _, hengine, _⟩ := s.assigned_effect id
  have hm : (s.assigned id).moves = s.moves := honly .moves (by simp)
  obtain ⟨hw, hj, hc, ha⟩ := h
  have howns : ∀ o, (s.assigned id).owns o = s.owns o := fun o => by unfold State.owns; rw [hm]
  refine ⟨by rw [hm]; exact hw, ?_, ?_, ?_⟩
  · rw [hm]
    unfold State.jogCloses at hj ⊢
    simpa only [howns] using hj
  · rw [hengine]
    simpa only [howns] using hc
  · rw [hengine]
    simpa only [howns] using ha

theorem State.driverFor_found {s : State} {id : Nat} {i : SlotIx} (h : s.findSlot id = some i) : s.driverFor id = .known i := by
  unfold State.driverFor; rw [h]

theorem State.driverFor_congr {s t : State} (ht : t.table = s.table) (hv : t.van = s.van) (id : Nat) :
    t.driverFor id = s.driverFor id := by
  have hs : t.slot = s.slot := funext (State.slot_eq_of_table ht)
  unfold State.driverFor State.findSlot
  rw [ht, hv, hs]

theorem State.driverFor_missing {s : State} {id : Nat} (h : s.findSlot id = none) :
    s.driverFor id = if s.van.recallDefault = true ∧ s.table.dflt.isSome then .dflt id else .new id := by
  unfold State.driverFor; rw [h]; simp only [Bool.and_eq_true]

/-- R101: the driver record of an assignment carries the ID assigned. -/
theorem State.driverId_driverFor (s : State) (id : Nat) : s.driverId (s.driverFor id) = id := by
  unfold State.driverFor
  cases h : s.findSlot id with
  | some i => exact (findSlot_some h).2
  | none => dsimp only; split <;> rfl

/-- R107: the driver record of an assignment, and DRIVER_CHANGED, as they stand in the table. -/
theorem State.driverId_congr {s t : State} (h : t.table.slots = s.table.slots) (d : ActiveDriver) : t.driverId d = s.driverId d := by
  unfold State.driverId State.slot
  rw [h]

/-- R107, R108: an assignment that starts no recall, on a part with nothing left to do. -/
theorem State.reqAssignDriver_plain {s : State} {id : BitVec 32} {flags : Byte} (hid : validDriver id = true)
    (ha : s.engine.active = none) (hs : s.settled)
    (hno : (flags.getLsbD 0 && (s.assigned id.toNat).autoRecallAllowed) = false ∨ (s.assigned id.toNat).recallSource = none) :
    s.reqAssignDriver id flags = ((s.assigned id.toNat).raiseDriverChanged,
      { code := .ok, recallNotStarted := flags.getLsbD 0
        fields := [0, 0, 0, 0] ++ driverFields (s.driverFor id.toNat) id.toNat }) := by
  obtain ⟨_, htable, _, _⟩ := s.assigned_effect id.toNat
  have hdriver : (s.assigned id.toNat).table.driver = s.driverFor id.toNat := by rw [htable]
  have hdid : (s.assigned id.toNat).driverId (s.driverFor id.toNat) = id.toNat :=
    (State.driverId_congr (by rw [htable]) _).trans (s.driverId_driverFor _)
  have hsource : (if flags.getLsbD 0 && (s.assigned id.toNat).autoRecallAllowed then (s.assigned id.toNat).recallSource
      else none) = none := by
    rcases hno with h | h
    · rw [h]; rfl
    · rw [h]; exact ite_self _
  unfold State.reqAssignDriver
  rw [if_pos hid, State.assign_idle ha hs.1]
  dsimp only
  rw [hsource, hdriver, hdid, State.conclude_settled (State.assigned_settled hs _)]
  rfl

/-- R107, R121: what an assignment and its DRIVER_CHANGED leave. -/
theorem State.assigned_raised (s : State) (id : Nat) :
    s.onlyIn (s.assigned id).raiseDriverChanged [.ports, .table, .engine] ∧
    s.gains (s.assigned id).raiseDriverChanged fun p =>
      (if s.engine.arm.isSome ∧ p ≠ .fleet then [.exitState .disarmed 0 (some .assign) 0] else []) ++
        [.driverChanged (s.driverFor id) id] := by
  obtain ⟨honly, htable, _, hgains⟩ := s.assigned_effect id
  have hraise := (s.assigned id).raiseAt_only [.vehicle, .fleet, .panel]
    (.driverChanged (s.assigned id).table.driver ((s.assigned id).driverId (s.assigned id).table.driver))
  refine ⟨honly.trans (hraise.mono (by simp)), (hgains.trans (State.gains_raiseDriverChanged _)).congr fun p => ?_⟩
  have hdriver : (s.assigned id).table.driver = s.driverFor id := by rw [htable]
  have hdid : (s.assigned id).driverId (s.driverFor id) = id :=
    (State.driverId_congr (by rw [htable]) _).trans (s.driverId_driverFor id)
  rw [hdriver, hdid]

end Sys2Proof.Machine

namespace Sys2Proof

open Machine

/-- Settles O45: for each request the first check of its rule that fails gives the answer; in PARKING the motion requests
are BUSY, and an assignment starts no recall. -/
theorem motionRequestsRefusedInOrder : Obligations.MotionRequestsRefusedInOrder := by
  unfold Obligations.MotionRequestsRefusedInOrder
  intro s p x d refused
  refine ⟨fun k => ?parking, fun k hp => ⟨fun h => ?_, fun a ha hc => ?_, ?panel⟩⟩
  case parking =>
    intro w busy
    have refusedBusy : ∀ {c : Instr} {r : Request}, c.request = some (p, r) → codeCarriedAt r.code.toNat p = true →
        (∀ y es, r = .writeCalibration y es → es.length ≤ 10) →
        (∀ t : State, t.power.state = .parking → t.handle p r = (t, refusal .busy)) → busy c r :=
      fun hreq hcarried hsize hhandle => exec_parkingAnswered hreq k hcarried (Request.length_frame_le _ hsize) hhandle
    refine ⟨fun hp => refusedBusy rfl (by cases p <;> first | rfl | exact absurd rfl hp) nofun fun t ht => ?_,
      fun hp => ?_, fun hp => ?_, fun id flags hp h0 hF hset hact => ?_⟩
    · show t.reqNormalise p x = _
      simp [State.reqNormalise, State.motionRefused, ht]
    · subst hp
      refine ⟨refusedBusy rfl rfl nofun fun t ht => ?_, refusedBusy rfl rfl nofun fun t ht => ?_,
        refusedBusy rfl rfl nofun fun t ht => ?_⟩
      · show t.reqJog x d = _
        simp [State.reqJog, State.motionRefused, ht]
      · show t.reqRecall = _
        simp [State.reqRecall, State.motionRefused, ht]
      · show t.reqUndo = _
        simp [State.reqUndo, State.motionRefused, ht]
    · subst hp
      refine refusedBusy rfl rfl nofun fun t ht => ?_
      show t.reqPark = _
      simp [State.reqPark, State.atRest, ht]
    · subst hp
      intro driver
      have hwrite := exec_parking (c := .assignDriver id flags) (r := .assignDriver id flags) rfl k rfl
        (Request.length_frame_le _ nofun)
      let v := w.written .fleet (.assignDriver id flags)
      have hv : s.onlyIn v [.ports, .power] := by
        refine State.onlyIn.trans (t := w) ?_ ((w.onlyIn_modPort _ _).mono (by simp))
        simp only [w]
        split
        · exact .refl _ _
        · exact (s.onlyIn_power _).mono (by simp)
      have hvrun : v.power.state = .parking := by
        show w.power.state = .parking
        simp only [w]; split <;> exact k.2.1
      have htable : v.table = s.table := hv .table (by simp)
      have hengine : v.engine = s.engine := hv .engine (by simp)
      have hdriver : v.driverFor id.toNat = driver := by
        rw [State.driverFor_congr htable (hv .van (by simp))]
        simp only [driver]
        split
        · exact State.driverFor_found ‹_›
        · exact State.driverFor_missing ‹_›
      obtain ⟨honly, htab, heng, _⟩ := v.assigned_effect id.toNat
      have hauto : (v.assigned id.toNat).autoRecallAllowed = false := by
        have hpow : (v.assigned id.toNat).power = v.power := honly .power (by simp)
        simp [State.autoRecallAllowed, hpow, hvrun]
      have hreq := State.reqAssignDriver_plain (s := v) (flags := flags) (validDriver_of_ne h0 hF)
        ((congrArg RecallEngine.active hengine).trans hact) (State.settled_of_moves hset (hv .moves (by simp)) hengine)
        (.inl (by rw [hauto, Bool.and_false]))
      obtain ⟨hraised, hgains⟩ := v.assigned_raised id.toNat
      rw [hdriver] at hreq hgains
      let u := (v.assigned id.toNat).raiseDriverChanged
      have hu : (v.assigned id.toNat).onlyIn u [.ports] := State.raiseAt_only _ _ _
      let reply : Reply := { code := .ok, recallNotStarted := flags.getLsbD 0, fields := [0, 0, 0, 0] ++ driverFields driver id.toNat }
      have hserve : v.serve .fleet (.assignDriver id flags) = u.placeResponse .fleet 4 reply := by
        unfold State.serve
        show (v.reqAssignDriver id flags).1.placeResponse _ _ (v.reqAssignDriver id flags).2 = _
        rw [hreq]
        rfl
      refine ⟨u.placeResponse .fleet 4 reply, hwrite.trans (congrArg _ hserve), ?_, ?_, ?_, ?_, fun q hq => ?_⟩
      · exact ((w.onlyIn_modPort _ _).mono (by simp)).trans (hraised.trans ((u.onlyIn_modPort _ _).mono (by simp)))
      · show u.table = _
        rw [show u.table = (v.assigned id.toNat).table from hu .table (by simp), htab, hdriver, htable]
      · show u.engine = _
        rw [show u.engine = (v.assigned id.toNat).engine from hu .engine (by simp), heng, hengine]
      · show (u.placeResponse .fleet 4 reply).port .fleet = _
        rw [State.placeResponse, State.port_modPort_same, hgains .fleet, State.port_written_same,
          PortUnit.foldl_enqueue_endTransaction, hengine]
        rfl
      · show (u.placeResponse .fleet 4 reply).port q = _
        rw [State.placeResponse, State.port_modPort_other _ _ hq, hgains q, State.port_written_other w hq, hengine]
  · refine exec_answered rfl k (by cases p <;> first | rfl | exact absurd rfl hp) (Request.length_frame_le _ nofun) fun u => ?_
    exact State.reqNormalise_badField (s := s.setPort p u) k.2.1 p h
  · have checks := fun u => State.reqNormalise_counted (s := s.setPort p u) k.2.1 p ha hc
    have same : ∀ {c : RespCode}, (∀ u, (s.setPort p u).reqNormalise p x = (s.setPort p u, refusal c)) →
        refused (.normalise p x) (.normalise x) p c := fun h =>
      exec_answered rfl k (by cases p <;> first | rfl | exact absurd rfl hp) (Request.length_frame_le _ nofun) h
    refine ⟨fun he => same fun u => (checks u).trans (if_pos he), fun he => ?_⟩
    have effective := fun u => (checks u).trans (if_neg (show ¬s.isEffective a = false by simp [he]))
    refine ⟨fun hb => same fun u => (effective u).trans (if_pos hb), fun hact hent => ?_⟩
    have free := fun u => (effective u).trans (if_neg (show ¬(s.engine.active.isSome = true ∨ (s.entryOf a).isSome = true) by
      simp [hact, hent]))
    refine ⟨fun hh => same fun u => (free u).trans (if_pos hh), fun hh hperm => same fun u => ?_⟩
    exact (free u).trans ((if_neg (show ¬(s.axis a).hot = true by simp [hh])).trans (if_pos hperm))
  case panel =>
    intro hp
    subst hp
    have same : ∀ {c : Instr} {r : Request} {code : RespCode}, c.request = some (.panel, r) →
        codeCarriedAt r.code.toNat .panel = true → (∀ y es, r = .writeCalibration y es → es.length ≤ 10) →
        (∀ u, (s.setPort .panel u).handle .panel r = (s.setPort .panel u, refusal code)) → refused c r .panel code :=
      fun hreq hcarried hsize h => exec_answered hreq k hcarried (Request.length_frame_le _ hsize) h
    have recalls := fun u => State.reqRecall_run (s := s.setPort .panel u) k.2.1
    have undoes := fun u => State.reqUndo_run (s := s.setPort .panel u) k.2.1
    refine ⟨fun h => same rfl rfl nofun fun u => State.reqJog_badField (s := s.setPort .panel u) k.2.1 h,
      fun h => same rfl rfl nofun fun u => ?_, fun a ha => ⟨fun he => ⟨same rfl rfl nofun fun u => ?_, fun hd =>
        same rfl rfl nofun fun u => ?_⟩, fun he ho hh hd => same rfl rfl nofun fun u => ?_⟩,
      fun hc => ⟨same rfl rfl nofun fun u => (recalls u).trans (if_pos hc),
        same rfl rfl nofun fun u => (undoes u).trans (if_pos hc)⟩, fun hc => ?_⟩
    · show (s.setPort .panel u).reqJogEnd x = _
      unfold State.reqJogEnd
      rw [decAxis_none h]
    · exact ((s.setPort .panel u).reqJogEnd_axis ha).trans (if_pos he)
    · obtain ⟨dir, hdir⟩ := decDir_isSome hd
      exact (State.reqJog_axis (s := s.setPort .panel u) k.2.1 ha hdir).trans (if_pos he)
    · obtain ⟨dir, hdir⟩ := decDir_isSome hd
      refine (State.reqJog_axis (s := s.setPort .panel u) k.2.1 ha hdir).trans
        ((if_neg (show ¬s.isEffective a = false by simp [he])).trans ((if_neg ?_).trans (if_pos hh)))
      show ¬(s.openJog a).any (·.dir == dir) = true
      rw [ho]
      exact Bool.false_ne_true
    · have commissioned : ¬s.van.commissioned = false := by simp [hc]
      have recalled := fun u => (recalls u).trans (if_neg commissioned)
      have undone := fun u => (undoes u).trans (if_neg commissioned)
      refine ⟨fun hd => same rfl rfl nofun fun u => (recalled u).trans (if_pos hd), fun id hd => same rfl rfl nofun fun u => ?_,
        fun i hd => ⟨fun hb => same rfl rfl nofun fun u => ?_, fun hact hperm => same rfl rfl nofun fun u => ?_⟩,
        fun hb => same rfl rfl nofun fun u => (undone u).trans (if_pos hb), fun hact => ?_⟩
      · have hsource : (s.setPort .panel u).recallSource = none := by simp [State.recallSource, hd]
        refine (recalled u).trans ((if_neg (show ¬s.table.driver = .nobody by simp [hd])).trans ?_)
        rw [hsource]
      · have hsource := State.recallSource_known (s := s.setPort .panel u) hd
        refine (recalled u).trans ((if_neg (show ¬s.table.driver = .nobody by simp [hd])).trans ?_)
        rw [hsource]
        exact if_pos hb
      · have hsource := State.recallSource_known (s := s.setPort .panel u) hd
        refine (recalled u).trans ((if_neg (show ¬s.table.driver = .nobody by simp [hd])).trans ?_)
        rw [hsource]
        exact (if_neg (show ¬s.engine.active.isSome = true by simp [hact])).trans (if_pos hperm)
      · have free := fun u => (undone u).trans (if_neg (show ¬s.engine.active.isSome = true by simp [hact]))
        refine ⟨fun hall => same rfl rfl nofun fun u => (free u).trans ?_, fun ⟨r, hr, hcause, hundone⟩ hperm =>
          same rfl rfl nofun fun u => (free u).trans ?_⟩
        · have hfind : s.engine.ring.find? (·.undoable) = none := by
            rw [List.find?_eq_none]
            intro r hr hu
            simp only [HistoryRecord.undoable, Bool.and_eq_true, beq_iff_eq, Bool.not_eq_true'] at hu
            simp [hall r hr hu.1] at hu
          show (match s.engine.ring.find? (·.undoable) with | none => _ | some r => _) = _
          rw [hfind]
        · obtain ⟨q, hq⟩ : ∃ q, s.engine.ring.find? (·.undoable) = some q :=
            Option.isSome_iff_exists.mp (List.find?_isSome.mpr ⟨r, hr, by simp [HistoryRecord.undoable, hcause, hundone]⟩)
          show (match s.engine.ring.find? (·.undoable) with | none => _ | some r => _) = _
          rw [hq]
          exact if_pos hperm

end Sys2Proof
end

section
/-! PROOF. The vehicle state monitor (05): a report taken, and the freshness timer's expiry, on a part with nothing in hand. -/

namespace Sys2Proof.Machine

/-! ## What every action leaves -/

/-- What no action changes once the vehicle record stands: power, supply, fitting, the record, the request buffers. -/
structure Undisturbed (s t : State) : Prop where
  power : t.power = s.power
  monitor : t.monitor = s.monitor
  fitted : t.fitted = s.fitted
  powered : t.powered = s.powered
  requests : ∀ p, (t.port p).request = (s.port p).request

theorem Undisturbed.of_fields {s t : State} (hp : t.power = s.power) (hm : t.monitor = s.monitor) (hf : t.fitted = s.fitted)
    (hs : t.powered = s.powered) (hq : t.ports = s.ports) : Undisturbed s t :=
  ⟨hp, hm, hf, hs, fun p => by rw [State.port_congr hq]⟩

theorem PortUnit.request_enqueue (u : PortUnit) (e : Event) : (u.enqueue e).request = u.request := by
  unfold PortUnit.enqueue; split <;> rfl

theorem undisturbed : ActClosed Undisturbed where
  refl _ := .of_fields rfl rfl rfl rfl rfl
  trans h k := ⟨k.power.trans h.power, k.monitor.trans h.monitor, k.fitted.trans h.fitted, k.powered.trans h.powered,
    fun p => (k.requests p).trans (h.requests p)⟩
  axis _ _ _ _ := .of_fields rfl rfl rfl rfl rfl
  moves _ _ := .of_fields rfl rfl rfl rfl rfl
  engine _ _ _ := .of_fields rfl rfl rfl rfl rfl
  raise s p e := ⟨rfl, rfl, rfl, rfl, fun q => by
    unfold State.raise
    rw [State.port_modPort]
    split
    · subst_vars; exact PortUnit.request_enqueue _ _
    · rfl⟩
  commit s b := by
    have f := s.commit_frame b
    exact .of_fields f.power f.monitor f.fitted f.powered f.ports
  table _ _ _ := .of_fields rfl rfl rfl rfl rfl
  van _ _ := .of_fields rfl rfl rfl rfl rfl
  model _ _ := .of_fields rfl rfl rfl rfl rfl

/-! ## A report -/

/-- R86: the monitor's new record, and what comes with it, before anything is handed on. -/
def State.reported (s : State) (r : VehicleRecord) (clamped : Bool) : State :=
  let t := { s with monitor := { fresh := true, record := r, freshTimer := some 500, lastIgnition := some r.ignition } }
  let t := if r.ignition = .run ∧ s.monitor.lastIgnition ≠ some .run then t.disarm .ignition else t
  if s.monitor.fresh then t else t.raiseAt [.vehicle, .panel] (.vehicleFresh r clamped t.budget t.permitted)

theorem State.applyReport_eq (s : State) (r : VehicleRecord) (clamped : Bool) : s.applyReport r clamped =
    (handOn s (s.reported r clamped)).1.conclude (handOn s (s.reported r clamped)).2 := rfl

/-- R86: a report disturbs nothing but the monitor, the ports' events and the exit's arm, before it is handed on. -/
theorem State.reported_undisturbed (s : State) (r : VehicleRecord) (clamped : Bool) :
    Undisturbed { s with monitor := { fresh := true, record := r, freshTimer := some 500, lastIgnition := some r.ignition } }
      (s.reported r clamped) := by
  let u : State := { s with monitor := { fresh := true, record := r, freshTimer := some 500, lastIgnition := some r.ignition } }
  have hdisarm : Undisturbed u (if r.ignition = .run ∧ s.monitor.lastIgnition ≠ some .run then u.disarm .ignition else u) := by
    split
    · exact undisturbed.disarm _ _
    · exact undisturbed.refl _
  refine undisturbed.trans hdisarm ?_
  unfold State.reported
  dsimp only
  by_cases h : s.monitor.fresh = true
  · rw [if_pos h]; exact undisturbed.refl _
  · rw [if_neg h]; exact undisturbed.raiseAt _ _ _

/-- R86: a report, where no exit is armed. -/
theorem State.reported_unarmed {s : State} (ha : s.engine.arm = none) (r : VehicleRecord) (clamped : Bool) :
    s.onlyIn (s.reported r clamped) [.ports, .monitor] ∧
    (s.reported r clamped).monitor =
      { fresh := true, record := r, freshTimer := some 500, lastIgnition := some r.ignition } ∧
    s.gains (s.reported r clamped) (if s.monitor.fresh then noEvents
      else eventAt [.vehicle, .panel] (.vehicleFresh r clamped (budgetOf true r) (permittedOf true r))) := by
  let u : State := { s with monitor := { fresh := true, record := r, freshTimer := some 500, lastIgnition := some r.ignition } }
  have hdisarm : (if r.ignition = .run ∧ s.monitor.lastIgnition ≠ some .run then u.disarm .ignition else u) = u := by
    have : u.disarm .ignition = u := by unfold State.disarm; rw [show u.engine.arm = none from ha]
    rw [this, ite_self]
  have hreport : s.reported r clamped = if s.monitor.fresh then u
      else u.raiseAt [.vehicle, .panel] (.vehicleFresh r clamped (budgetOf true r) (permittedOf true r)) := by
    show (if s.monitor.fresh then _ else State.raiseAt _ _ _) = _
    rw [hdisarm]
    rfl
  have hu : s.onlyIn u [.monitor] := s.onlyIn_monitor _
  have hraise := u.raiseAt_only [.vehicle, .panel] (.vehicleFresh r clamped (budgetOf true r) (permittedOf true r))
  rw [hreport]
  by_cases h : s.monitor.fresh = true
  · rw [if_pos h, if_pos h]
    exact ⟨hu.mono (by simp), rfl, State.gains_of_ports rfl⟩
  · rw [if_neg h, if_neg h]
    refine ⟨(hu.mono (by simp)).trans (hraise.mono (by simp)), hraise .monitor (by simp), fun q => ?_⟩
    rw [State.port_raiseAt _ _ _ (by decide)]
    cases q <;> rfl

/-- R85, R86: a report is always taken; the answer tells of the record then in force. -/
theorem State.reqVehicleState_eq (s : State) (speed gear ignition door supply : Byte) :
    let r := (decReport speed gear ignition door supply).1
    let clamped := (decReport speed gear ignition door supply).2
    let reply : Reply :=
      { code := .ok, clamped := clamped, fields := enc8 (budgetOf true r) ++ enc16 (permissionMask (permittedOf true r)) }
    s.reqVehicleState speed gear ignition door supply = (s.applyReport r clamped, reply) := by
  intro r clamped reply
  have h := undisturbed.trans (s.reported_undisturbed r clamped) (undisturbed.handOnConclude s (s.reported r clamped))
  have hm : (s.applyReport r clamped).monitor =
      { fresh := true, record := r, freshTimer := some 500, lastIgnition := some r.ignition } := h.monitor
  unfold State.reqVehicleState State.budget State.permitted
  dsimp only
  rw [hm]

/-! ## What is handed on -/

/-- R89, R91, R92: what a change of the vehicle state aborts and starts. -/
def handedOn (s t : State) : State :=
  let lost := fun c => s.permitsCause c && !t.permitsCause c
  let gained := fun c => !s.permitsCause c && t.permitsCause c
  let t1 := match t.engine.active with
    | some op => if lost op.kind.cause then t.abortActive .vehicle else t
    | none => t
  let t2 := if gained .exit then t1.offerExit else t1
  if gained .ret then t2.offerReturn else t2

/-- R65, R68: then walks fall due, and a fall of the budget revokes. -/
theorem handOn_eq (s t : State) : ∃ k, (handedOn s t).moves.walksDue ≤ k ∧ handOn s t =
    if t.budget < s.budget then ((handedOn s t).withDue k).revokeToFit else ((handedOn s t).withDue k, []) := by
  have ask : ∀ (u : State) (k : Nat), (u.withDue k).askWalk = u.withDue (k + 1) := fun _ _ => rfl
  have start : ∀ u : State, u.askWalk = u.withDue (u.moves.walksDue + 1) := fun _ => rfl
  have same : ∀ u : State, u = u.withDue u.moves.walksDue := fun _ => rfl
  obtain ⟨k, hle, hk⟩ : ∃ k, (handedOn s t).moves.walksDue ≤ k ∧ (if s.budget < t.budget then
      (if s.permitted ≠ t.permitted then (handedOn s t).askWalk else handedOn s t).askWalk
      else if s.permitted ≠ t.permitted then (handedOn s t).askWalk else handedOn s t) = (handedOn s t).withDue k := by
    by_cases h1 : s.budget < t.budget <;> by_cases h2 : s.permitted ≠ t.permitted
    · rw [if_pos h1, if_pos h2, start (handedOn s t), ask]; exact ⟨_, by omega, rfl⟩
    · rw [if_pos h1, if_neg h2]; exact ⟨_, by omega, rfl⟩
    · rw [if_neg h1, if_pos h2]; exact ⟨_, by omega, rfl⟩
    · rw [if_neg h1, if_neg h2]; exact ⟨_, le_refl _, same _⟩
  refine ⟨k, hle, ?_⟩
  show (if t.budget < s.budget then State.revokeToFit _ else (_, [])) = _
  rw [← hk]
  rfl

/-- R91, R92: with no exit armed and no return allowed, only an abort is handed on. -/
theorem handedOn_unarmed {s t : State} (ha : t.engine.active = none) (harm : t.engine.arm = none)
    (hret : t.engine.returnAllowed = false) : handedOn s t = t := by
  have hexit : t.offerExit = t := by unfold State.offerExit; rw [harm]
  have hreturn : t.offerReturn = t := by unfold State.offerReturn; simp [hret]
  unfold handedOn
  rw [ha]
  dsimp only
  rw [hexit, ite_self, hreturn, ite_self]

/-- R68: with no entry there is nothing to revoke. -/
theorem State.revokeToFit_empty {s : State} (h : s.moves.entries = []) : s.revokeToFit = (s, []) := by
  unfold State.revokeToFit
  rw [h]
  rfl

/-- R86, R87: on a part with nothing in hand, no exit armed and no return allowed, nothing is handed on. -/
theorem handOnConclude_quiet {s t : State} (hq : t.quiet) (harm : t.engine.arm = none)
    (hret : t.engine.returnAllowed = false) : (handOn s t).1.conclude (handOn s t).2 = t := by
  obtain ⟨k, -, hk⟩ := handOn_eq s t
  rw [handedOn_unarmed hq.2.1 harm hret] at hk
  have hentries : (t.withDue k).moves.entries = [] := by rw [State.withDue_entries, hq.1]
  have hk' : handOn s t = (t.withDue k, []) := by
    rw [hk, State.revokeToFit_empty hentries, ite_self]
  have hwalked : (t.withDue k).arbiter [] = t := by
    rw [State.arbiter_empty hentries]
    exact State.withDue_self (by rw [hq.1])
  have hnone : ((t.withDue k).arbiter []).nextWork = none := by
    obtain ⟨hm, ha, hc⟩ := hq
    rw [hwalked]
    unfold State.nextWork
    rw [hm, hc, ha]
    rfl
  rw [hk', State.conclude_of_arbiter hnone, hwalked]

end Sys2Proof.Machine

namespace Sys2Proof

open Machine

/-- Settles O17: what is handed on disturbs neither the record nor the request buffers nor the power state. -/
theorem vehicleStateApplied : Obligations.VehicleStateApplied := by
  unfold Obligations.VehicleStateApplied
  intro s speed gear ignition door supply k r
  let clamped := (decReport speed gear ignition door supply).2
  let v := s.written .vehicle (.vehicleState speed gear ignition door supply)
  let u := v.applyReport r clamped
  let reply : Reply :=
    { code := .ok, clamped := clamped, fields := enc8 (budgetOf true r) ++ enc16 (permissionMask (permittedOf true r)) }
  have hu := undisturbed.trans (v.reported_undisturbed r clamped) (undisturbed.handOnConclude v (v.reported r clamped))
  have hmon : u.monitor = { fresh := true, record := r, freshTimer := some 500, lastIgnition := some r.ignition } := hu.monitor
  have hserve : v.serve .vehicle (.vehicleState speed gear ignition door supply) = u.placeResponse .vehicle 1 reply := by
    show (v.reqVehicleState speed gear ignition door supply).1.placeResponse _ _
      (v.reqVehicleState speed gear ignition door supply).2 = _
    rw [v.reqVehicleState_eq]
    rfl
  refine ⟨_, (exec_ready (c := .vehicleState speed gear ignition door supply) rfl k rfl (Request.length_frame_le _ nofun)).trans (congrArg _ hserve), hmon, ?_, ?_, hu.power,
    hu.fitted, hu.powered⟩
  · rw [State.placeResponse, State.port_modPort_same]
  · rw [State.placeResponse, State.port_modPort_same]
    refine (hu.requests .vehicle).trans ?_
    show (v.port .vehicle).request = none
    rw [State.port_written_same]
    exact k.2.2.1

/-- Settles O18: nothing is handed on. -/
theorem vehicleStateOfAQuietPart : Obligations.VehicleStateOfAQuietPart := by
  unfold Obligations.VehicleStateOfAQuietPart
  intro s speed gear ignition door supply k hq harm hret r clamped
  let v := s.written .vehicle (.vehicleState speed gear ignition door supply)
  obtain ⟨honly, hmon, hgains⟩ := State.reported_unarmed (s := v) harm r clamped
  have hengine : (v.reported r clamped).engine = s.engine := honly .engine (by simp)
  have happly : v.applyReport r clamped = v.reported r clamped := by
    refine handOnConclude_quiet (s := v) (t := v.reported r clamped) ⟨(honly .moves (by simp)).trans hq.1, ?_, ?_⟩ ?_ ?_
    · rw [hengine]; exact hq.2.1
    · rw [hengine]; exact hq.2.2
    · rw [hengine]; exact harm
    · rw [hengine]; exact hret
  have hv := v.reqVehicleState_eq speed gear ignition door supply
  obtain ⟨t, ht, hs, hvt, ha⟩ := exec_changes (c := .vehicleState speed gear ignition door supply) rfl k rfl
    (Request.length_frame_le _ nofun) (hv.trans (congrArg (·, _) happly)) honly (by simp) hgains
  exact ⟨t, ht, hs, (hvt .monitor (by simp)).trans hmon, ha⟩

/-- Settles O20: the safe record, and nothing handed on. -/
theorem freshnessExpiryMakesStale : Obligations.FreshnessExpiryMakesStale := by
  unfold Obligations.FreshnessExpiryMakesStale
  intro s hs
  have hexec : exec .freshnessExpiry s = .next s.freshnessExpiry := congrArg Host.Outcome.next (if_pos hs)
  refine ⟨fun h => hexec.trans (congrArg _ (if_neg (by simp [h]))), fun h hq harm hret => ?_⟩
  let u : State := { s with monitor := { s.monitor with fresh := false, record := {}, freshTimer := none } }
  let t := u.raiseAt [.vehicle, .panel] .vehicleStale
  have hu : s.onlyIn u [.monitor] := s.onlyIn_monitor _
  have ht : u.onlyIn t [.ports] := u.raiseAt_only _ _
  have hboth : s.onlyIn t [.ports, .monitor] := (hu.mono (by simp)).trans (ht.mono (by simp))
  have hengine : t.engine = s.engine := hboth .engine (by simp)
  have hexpire : s.freshnessExpiry = t := by
    refine (if_pos h).trans (handOnConclude_quiet (s := s) (t := t) ⟨(hboth .moves (by simp)).trans hq.1, ?_, ?_⟩ ?_ ?_)
    · rw [hengine]; exact hq.2.1
    · rw [hengine]; exact hq.2.2
    · rw [hengine]; exact harm
    · rw [hengine]; exact hret
  refine ⟨t, hexec.trans (congrArg _ hexpire), hboth, ht .monitor (by simp), fun q => ?_⟩
  show (u.raiseAt _ _).port q = _
  rw [State.port_raiseAt _ _ _ (by decide)]
  cases q <;> rfl

end Sys2Proof
end

section
/-! PROOF. The move list with one entry on it (04): how it drives, settles and ends, and what the conclusion of the action
then does. -/

namespace Sys2Proof.Machine

/-! ## States that differ in their axis, list and active operation -/

/-- The state with another move list. -/
abbrev State.withMoves (s : State) (m : MoveList) : State := { s with moves := m }

/-- The state with another active operation. -/
abbrev State.withActive (s : State) (o : Option Operation) : State := { s with engine := { s.engine with active := o } }

@[simp] theorem State.setAxis_setAxis (s : State) (a : Axis) (u v : AxisUnit) : (s.setAxis a u).setAxis a v = s.setAxis a v := by
  unfold State.setAxis
  simp

@[simp] theorem State.setAxis_axis (s : State) (a : Axis) : s.setAxis a (s.axis a) = s := by
  unfold State.setAxis State.axis
  simp

theorem State.onlyIn_setAxis (s : State) (a : Axis) (u : AxisUnit) : s.onlyIn (s.setAxis a u) [.axes] := by
  intro p hp
  cases p with
  | axes => exact absurd (List.mem_singleton_self _) hp
  | _ => rfl

theorem State.onlyIn_withMoves (s : State) (m : MoveList) : s.onlyIn (s.withMoves m) [.moves] := by
  intro p hp
  cases p with
  | moves => exact absurd (List.mem_singleton_self _) hp
  | _ => rfl

/-! ## Nothing left to do -/

/-- R82, R126: every CLOSING jog record and the active operation have an entry, and no operation is CLOSING. -/
structure State.Attended (s : State) : Prop where
  jogs : ∀ j ∈ s.moves.jogs, j.closing = true → s.owns (.jog j.id) = true
  closing : s.engine.closing = []
  active : ∀ op, s.engine.active = some op → s.owns (.operation op.id) = true

theorem State.Attended.nextWork {s : State} (h : s.Attended) : s.nextWork = none := by
  have hjogs : s.moves.jogs.find? s.jogCloses = none := by
    rw [List.find?_eq_none]
    intro j hj hcloses
    unfold State.jogCloses at hcloses
    cases hc : j.closing with
    | false => simp [hc] at hcloses
    | true => simp [hc, h.jogs j hj hc] at hcloses
  unfold State.nextWork
  rw [hjogs]
  dsimp only
  rw [h.closing]
  cases ha : s.engine.active with
  | none => rfl
  | some op => simp [h.active op ha]

/-- R65: where the walks grant nothing and nothing is left to do, the conclusion leaves no walk due. -/
theorem State.Attended.conclude {s : State} {ex : List Axis} (h : s.Attended) (hw : s.arbiter ex = s.walked) :
    s.conclude ex = s.walked := by
  have hn : (s.arbiter ex).nextWork = none := by rw [hw]; exact State.Attended.nextWork ⟨h.jogs, h.closing, h.active⟩
  rw [State.conclude_of_arbiter hn, hw]

/-- R65: a list whose one entry drives or settles. -/
theorem State.arbiter_busy {s : State} {e : MoveEntry} (he : s.moves.entries = [e]) (hs : e.state ≠ .waiting) (ex : List Axis) :
    s.arbiter ex = s.walked :=
  State.arbiter_still ex (fun k => State.walkOnce_busy (s := s.withDue k) he hs ex)
    fun k => State.walkOnce_busy (s := s.withDue k) he hs []

/-- The one entry of a list is its owner's, who alone has work in hand. -/
abbrev State.ownedBy (s : State) (e : MoveEntry) (js : List JogRecord) : Prop :=
  (∀ j ∈ js, j.closing = true → e.owner = .jog j.id) ∧ s.engine.closing = [] ∧
    ∀ op, s.engine.active = some op → e.owner = .operation op.id

theorem State.attended_one {s : State} {e : MoveEntry} {js : List JogRecord} {k : Nat}
    (hm : s.moves = { entries := [e], jogs := js, walksDue := k }) (ho : s.ownedBy e js) : s.Attended := by
  obtain ⟨hj, hc, ha⟩ := ho
  have howns : ∀ o, e.owner = o → s.owns o = true := fun o h => by simp [State.owns, hm, h]
  exact ⟨fun j h hcl => howns _ (hj j (by rw [hm] at h; exact h) hcl), hc, fun op h => howns _ (ha op h)⟩

/-- R65: the conclusion with one entry that drives or settles. -/
theorem State.conclude_busy {s : State} {e : MoveEntry} {js : List JogRecord} {k : Nat}
    (hm : s.moves = { entries := [e], jogs := js, walksDue := k }) (hs : e.state ≠ .waiting) (ho : s.ownedBy e js)
    (ex : List Axis) : s.conclude ex = s.withMoves { entries := [e], jogs := js } := by
  rw [(State.attended_one hm ho).conclude (State.arbiter_busy (by rw [hm]) hs ex)]
  show s.withMoves { s.moves with walksDue := 0 } = _
  rw [hm]

/-- R65: the conclusion with an empty list, no operation and no CLOSING jog record. -/
theorem State.conclude_empty {s : State} {js : List JogRecord} {k : Nat} (hm : s.moves = { jogs := js, walksDue := k })
    (hj : ∀ j ∈ js, j.closing = false) (ha : s.engine.active = none) (hc : s.engine.closing = []) (ex : List Axis) :
    s.conclude ex = s.withMoves { jogs := js } := by
  have h : s.Attended := by
    refine ⟨fun j h hcl => ?_, hc, fun op h => ?_⟩
    · rw [hm] at h; rw [hj j h] at hcl; cases hcl
    · rw [ha] at h; cases h
  rw [h.conclude (State.arbiter_empty (by rw [hm]) ex)]
  show s.withMoves { s.moves with walksDue := 0 } = _
  rw [hm]

/-! ## The one entry is cut, settles, ends -/

theorem State.entryOf_one {s : State} {e : MoveEntry} {js : List JogRecord} {k : Nat}
    (hm : s.moves = { entries := [e], jogs := js, walksDue := k }) : s.entryOf e.axis = some e := by
  simp [State.entryOf, hm]

/-- The entry takes the place of the one on the list. -/
theorem State.setEntry_one {s : State} {e f : MoveEntry} {js : List JogRecord} {k : Nat}
    (hm : s.moves = { entries := [e], jogs := js, walksDue := k }) (hf : f.axis = e.axis) :
    s.setEntry f = s.withMoves { entries := [f], jogs := js, walksDue := k } := by
  unfold State.setEntry
  rw [hm]
  simp [hf]

/-- R70: the motor is cut, and the one entry settles. -/
theorem State.cutInto_one {s : State} {e : MoveEntry} {js : List JogRecord}
    (hm : s.moves = { entries := [e], jogs := js }) (hs : e.state = .driving) (p : Bool) (d : Disposition) :
    s.cutInto e.axis p d = (s.setAxis e.axis ((s.axis e.axis).cut e.axis p)).withMoves
      { entries := [e.settles d], jogs := js, walksDue := 1 } := by
  unfold State.cutInto
  rw [State.entryOf_one hm]
  dsimp only
  rw [if_pos hs]
  have hm1 : ((s.cutMotor e.axis p).askWalk).moves = { entries := [e], jogs := js, walksDue := 1 } := by
    show ({ s.moves with walksDue := s.moves.walksDue + 1 } : MoveList) = _
    rw [hm]
  exact State.setEntry_one hm1 rfl

/-- R70: and the conclusion of the action leaves it so. -/
theorem State.cutInto_conclude {s : State} {e : MoveEntry} {js : List JogRecord}
    (hm : s.moves = { entries := [e], jogs := js }) (hs : e.state = .driving) (ho : s.ownedBy e js) (p : Bool)
    (d : Disposition) : (s.cutInto e.axis p d).conclude [] =
      (s.setAxis e.axis ((s.axis e.axis).cut e.axis p)).withMoves { entries := [e.settles d], jogs := js } := by
  rw [State.cutInto_one hm hs]
  exact State.conclude_busy (s := (s.setAxis e.axis _).withMoves _) (e := e.settles d) rfl (show EntryState.settling ≠ .waiting by decide) ho []

/-- R72: an ending that no backoff follows. -/
theorem State.endAndFollow_plain (s : State) {e : MoveEntry} {o : AxisOutcome}
    (hp : ¬(o = .obstructed ∧ e.axis.counted = true ∧ e.noBackoff = false)) (x : Int) :
    s.endAndFollow e o x = s.endEntry e o x := by
  unfold State.endAndFollow
  exact if_neg (by simpa using hp)

/-- R59, R72: the one entry of the list ends. -/
theorem State.finishEntry_one {s : State} {e f : MoveEntry} {js : List JogRecord} {k : Nat}
    (hm : s.moves = { entries := [e], jogs := js, walksDue := k }) (hf : f.axis = e.axis) (o : AxisOutcome) (x : Int)
    (hp : ¬(o = .obstructed ∧ f.axis.counted = true ∧ f.noBackoff = false)) :
    s.finishEntry f o x = (((s.setAxis f.axis ((s.axis f.axis).takeOutcome f o)).withMoves
      { jogs := js, walksDue := k + 1 }).report f o x) := by
  have hdrop : (s.dropEntry f.axis).askWalk = s.withMoves { jogs := js, walksDue := k + 1 } := by
    unfold State.dropEntry State.askWalk
    rw [hm]
    simp [hf]
  unfold State.finishEntry
  rw [hdrop, State.endAndFollow_plain _ hp]
  rfl

/-- R60: a report to the one jog record. -/
theorem State.report_jog {s : State} {e : MoveEntry} {j : JogRecord} {k : Nat} (hm : s.moves = { jogs := [j], walksDue := k })
    (ho : e.owner = .jog j.id) (o : AxisOutcome) (x : Int) :
    s.report e o x = s.withMoves { jogs := [j.takeReport e o x], walksDue := k } := by
  unfold State.report
  rw [ho, hm]
  simp

/-- R60: a report to the active operation. -/
theorem State.report_op {s : State} {e : MoveEntry} {op : Operation} (ha : s.engine.active = some op)
    (hc : s.engine.closing = []) (ho : e.owner = .operation op.id) (o : AxisOutcome) (x : Int) :
    s.report e o x = s.withActive (some (op.takeReport e o x (s.suspectNow e.axis)).restartProgress) := by
  unfold State.report
  rw [ho]
  simp [RecallEngine.modOperation, ha, hc]

/-- R78: the one jog's entry ends. -/
theorem State.finishEntry_jog {s : State} {e f : MoveEntry} {j : JogRecord} {k : Nat}
    (hm : s.moves = { entries := [e], jogs := [j], walksDue := k }) (hf : f.axis = e.axis) (ho : f.owner = .jog j.id)
    (o : AxisOutcome) (x : Int) (hp : ¬(o = .obstructed ∧ f.axis.counted = true ∧ f.noBackoff = false)) :
    s.finishEntry f o x = (s.setAxis f.axis ((s.axis f.axis).takeOutcome f o)).withMoves
      { jogs := [j.takeReport f o x], walksDue := k + 1 } := by
  rw [State.finishEntry_one hm hf o x hp, State.report_jog rfl ho]

/-- R132: the one entry of the active operation ends. -/
theorem State.finishEntry_op {s : State} {e f : MoveEntry} {op : Operation} {k : Nat}
    (hm : s.moves = { entries := [e], walksDue := k }) (hf : f.axis = e.axis) (ha : s.engine.active = some op)
    (hc : s.engine.closing = []) (ho : f.owner = .operation op.id) (o : AxisOutcome) (x : Int)
    (hp : ¬(o = .obstructed ∧ f.axis.counted = true ∧ f.noBackoff = false)) :
    let v := (s.axis f.axis).takeOutcome f o
    s.finishEntry f o x = ((s.setAxis f.axis v).withMoves { walksDue := k + 1 }).withActive
      (some (op.takeReport f o x (f.axis.counted && v.confidence == .suspect)).restartProgress) := by
  intro v
  let t := (s.setAxis f.axis v).withMoves { walksDue := k + 1 }
  have hsus : t.suspectNow f.axis = (f.axis.counted && v.confidence == .suspect) := by
    show (f.axis.counted && ((s.setAxis f.axis v).axis f.axis).confidence == .suspect) = _
    rw [State.axis_setAxis_same]
  rw [State.finishEntry_one hm hf o x hp, State.report_op (s := t) ha hc ho, hsus]

/-- R78: the report of an outcome to an OPEN record that no STOP_ALL has marked. -/
theorem JogRecord.takeReport_jog {j : JogRecord} {e : MoveEntry} (hc : e.cause = .jog) (ha : j.abortSource ≠ some .stopAll)
    (o : AxisOutcome) (x : Int) : j.takeReport e o x =
      { j.ended o x with abortSource := if o = .aborted then some .maskDeparture else none } := by
  unfold JogRecord.takeReport
  rw [if_neg (by rw [hc]; decide), if_neg ha]
  rfl

/-- R78: of another outcome than ABORTED. -/
theorem JogRecord.takeReport_ended {j : JogRecord} {e : MoveEntry} (hc : e.cause = .jog) (ha : j.abortSource = none)
    {o : AxisOutcome} (ho : o ≠ .aborted) (x : Int) : j.takeReport e o x = j.ended o x := by
  rw [JogRecord.takeReport_jog hc (by rw [ha]; decide), if_neg ho, ← ha]
  rfl

/-- R72: most outcomes leave the axis unit. -/
theorem AxisUnit.takeOutcome_same (u : AxisUnit) (e : MoveEntry) {o : AxisOutcome} (ht : o ≠ .timeout)
    (ho : o ≠ .obstructed) : u.takeOutcome e o = u := by
  unfold AxisUnit.takeOutcome
  rw [if_neg fun h => ht h.1, if_neg ho]

/-- R70: the motor is cut, and the one entry ends at the cut. -/
theorem State.cutEnding_one {s : State} {e : MoveEntry} {js : List JogRecord}
    (hm : s.moves = { entries := [e], jogs := js }) (hs : e.state = .driving) (o : AxisOutcome) :
    s.cutEnding e.axis o = ((s.setAxis e.axis ((s.axis e.axis).cut e.axis false)).withMoves
      { entries := [e], jogs := js, walksDue := 1 }).finishEntry e o (s.axis e.axis).position := by
  have hask : (s.cutMotor e.axis false).askWalk = (s.setAxis e.axis ((s.axis e.axis).cut e.axis false)).withMoves
      { entries := [e], jogs := js, walksDue := 1 } := by
    show (s.setAxis e.axis ((s.axis e.axis).cut e.axis false)).withMoves { s.moves with walksDue := s.moves.walksDue + 1 } = _
    rw [hm]
  unfold State.cutEnding
  rw [State.entryOf_one hm, hask]
  exact if_pos hs

/-- R70, R78: the one jog's entry ends at the cut. -/
theorem State.cutEnding_jog {s : State} {e : MoveEntry} {j : JogRecord} (hm : s.moves = { entries := [e], jogs := [j] })
    (hs : e.state = .driving) (ho : e.owner = .jog j.id) (o : AxisOutcome)
    (hp : ¬(o = .obstructed ∧ e.axis.counted = true ∧ e.noBackoff = false)) :
    s.cutEnding e.axis o = (s.setAxis e.axis (((s.axis e.axis).cut e.axis false).takeOutcome e o)).withMoves
      { jogs := [j.takeReport e o (s.axis e.axis).position], walksDue := 2 } := by
  rw [State.cutEnding_one hm hs, State.finishEntry_jog rfl rfl ho o _ hp]
  show ((s.setAxis e.axis _).setAxis e.axis (((s.setAxis e.axis _).axis e.axis).takeOutcome e o)).withMoves _ = _
  rw [State.setAxis_setAxis, State.axis_setAxis_same]

/-- R70, R132: the one entry of the active operation ends at the cut. -/
theorem State.cutEnding_op {s : State} {e : MoveEntry} {op : Operation} (hm : s.moves = { entries := [e] })
    (hs : e.state = .driving) (ha : s.engine.active = some op) (hc : s.engine.closing = []) (ho : e.owner = .operation op.id)
    (o : AxisOutcome) (hp : ¬(o = .obstructed ∧ e.axis.counted = true ∧ e.noBackoff = false)) :
    let v := ((s.axis e.axis).cut e.axis false).takeOutcome e o
    s.cutEnding e.axis o = ((s.setAxis e.axis v).withMoves { walksDue := 2 }).withActive
      (some (op.takeReport e o (s.axis e.axis).position (e.axis.counted && v.confidence == .suspect)).restartProgress) := by
  intro v
  rw [State.cutEnding_one hm hs]
  have hfin := State.finishEntry_op (s := (s.setAxis e.axis ((s.axis e.axis).cut e.axis false)).withMoves
    { entries := [e], walksDue := 1 }) (f := e) rfl rfl ha hc ho o (s.axis e.axis).position hp
  have haxis : ((s.setAxis e.axis ((s.axis e.axis).cut e.axis false)).withMoves
      { entries := [e], walksDue := 1 }).axis e.axis = (s.axis e.axis).cut e.axis false := State.axis_setAxis_same _ _ _
  rw [haxis] at hfin
  rw [hfin]
  show (((s.setAxis e.axis _).setAxis e.axis v).withMoves _).withActive _ = _
  rw [State.setAxis_setAxis]

end Sys2Proof.Machine
end

section
/-! PROOF. The grant of the one entry on the list (04): where there is budget for it, it drives; where not, it waits. -/

namespace Sys2Proof.Machine

/-! ## The grant -/

/-- R66: an entry that drives, as its grant leaves it. -/
def MoveEntry.granted (e : MoveEntry) (limit : Nat) : MoveEntry :=
  { e with state := .driving, passCount := 0, timeLimit := some limit }

/-- R56, R28: the time limit of a move to a target. -/
theorem State.timeLimitOf_target (s : State) (a : Axis) (x g : Int) :
    s.timeLimitOf a x (.target g) = 1000 + 2 * (g - x).natAbs * s.msPerCount a := by
  unfold State.timeLimitOf State.moveDistance
  rfl

/-- R16, R19: a grant towards a target that lies beyond the deadband drives. -/
theorem State.grant_drives {s : State} {e : MoveEntry} {g : Int} (hk : e.kind = .target g)
    (hf : e.axis.mirror = true → (s.axis e.axis).sensorFault = false)
    (hd : deadband e.axis < ((s.axis e.axis).position - g).natAbs) :
    s.grant e = s.grantDrive e (towards (s.axis e.axis).position g) ((s.axis e.axis).cutPointFor e.axis g e.correctionUsed) := by
  have hfault : ¬((s.axis e.axis).sensorFault = true ∧ e.axis.mirror = true) := fun ⟨h, hm⟩ => by rw [hf hm] at h; cases h
  unfold State.grant
  dsimp only
  rw [if_neg hfault, hk]
  exact if_neg (by omega)

/-- R66: a grant of a SEEK drives. -/
theorem State.grant_seeks {s : State} {e : MoveEntry} {d : Dir} (hk : e.kind = .seek d) (hc : e.axis.counted = true) :
    s.grant e = s.grantDrive e d none := by
  have hfault : ¬((s.axis e.axis).sensorFault = true ∧ e.axis.mirror = true) := fun ⟨_, hm⟩ => by
    rw [Axis.mirror_eq, hc] at hm; cases hm
  unfold State.grant
  dsimp only
  rw [if_neg hfault, hk]

/-- R66: the drive of the one entry. -/
theorem State.grantDrive_one {s : State} {e : MoveEntry} {js : List JogRecord} {k : Nat}
    (hm : s.moves = { entries := [e], jogs := js, walksDue := k }) (d : Dir) (c : Option Int) :
    s.grantDrive e d c = ((s.setAxis e.axis ((s.axis e.axis).drive e.axis d c)).withMoves
      { entries := [e.granted (s.timeLimitOf e.axis (s.axis e.axis).position e.kind)], jogs := js
        walksDue := k }).grantReport e := by
  unfold State.grantDrive
  dsimp only
  have hset := State.setEntry_one (s := s.setAxis e.axis ((s.axis e.axis).drive e.axis d c)) (e := e)
    (f := e.granted (s.timeLimitOf e.axis (s.axis e.axis).position e.kind)) hm rfl
  exact congrArg (State.grantReport · e) hset

theorem State.grantReport_jog {s : State} {e : MoveEntry} {id : Nat} (ho : e.owner = .jog id) : s.grantReport e = s := by
  unfold State.grantReport; rw [ho]

/-- R60, R133, R39: the grant is reported to the active operation. -/
theorem State.grantReport_op {s : State} {e : MoveEntry} {op : Operation} (ha : s.engine.active = some op)
    (hc : s.engine.closing = []) (ho : e.owner = .operation op.id) :
    s.grantReport e = s.withActive (some { op.restartProgress with legGranted := true }) := by
  unfold State.grantReport
  rw [ho]
  simp [RecallEngine.modOperation, ha, hc]

/-! ## The arbiter -/

/-- One entry waits on an idle axis that is not HOT, in RUN, and a walk is due. -/
structure State.OneWaits (s : State) (e : MoveEntry) (js : List JogRecord) (ex : List Axis) : Prop where
  list : ∃ k, s.moves = { entries := [e], jogs := js, walksDue := k + 1 }
  waiting : e.state = .waiting
  run : s.power.state = .run
  idle : (s.axis e.axis).motion = .idle
  cold : (s.axis e.axis).hot = false
  granted : e.axis ∉ ex

/-- R66: the arbiter grants the one entry, where it has budget and its grant is a drive. -/
theorem State.OneWaits.drives {s : State} {e : MoveEntry} {js : List JogRecord} {ex : List Axis} {d : Dir} {c : Option Int}
    (h : s.OneWaits e js ex) (hb : demand e.axis ≤ s.budget)
    (hg : ∀ k, (s.withDue k).grant e = (s.withDue k).grantDrive e d c) :
    s.arbiter ex = ((s.setAxis e.axis ((s.axis e.axis).drive e.axis d c)).withMoves
      { entries := [e.granted (s.timeLimitOf e.axis (s.axis e.axis).position e.kind)], jogs := js }).grantReport e := by
  obtain ⟨k, hm⟩ := h.list
  rw [State.arbiter_one (by rw [hm]; exact Nat.succ_ne_zero k) h.run (by rw [hm]) h.waiting h.idle h.cold h.granted hg, if_pos hb]
  exact State.grantDrive_one (s := s.walked) (js := js) (k := 0) (by rw [State.walked, State.withDue, hm]) d c

/-- R66, R16: towards a target. -/
theorem State.OneWaits.drivesTo {s : State} {e : MoveEntry} {js : List JogRecord} {ex : List Axis} {g : Int}
    (h : s.OneWaits e js ex) (hb : demand e.axis ≤ s.budget) (hk : e.kind = .target g)
    (hf : e.axis.mirror = true → (s.axis e.axis).sensorFault = false)
    (hd : deadband e.axis < ((s.axis e.axis).position - g).natAbs) :
    s.arbiter ex = ((s.setAxis e.axis ((s.axis e.axis).drivenTo e.axis g e.correctionUsed)).withMoves
      { entries := [e.granted (1000 + 2 * (g - (s.axis e.axis).position).natAbs * s.msPerCount e.axis)]
        jogs := js }).grantReport e := by
  rw [h.drives (d := towards (s.axis e.axis).position g) (c := (s.axis e.axis).cutPointFor e.axis g e.correctionUsed) hb
    (fun k => State.grant_drives (s := s.withDue k) hk hf hd), AxisUnit.drive_drivenTo, hk,
    State.timeLimitOf_target]

/-- R66: a SEEK of a counted axis. -/
theorem State.OneWaits.seeks {s : State} {e : MoveEntry} {js : List JogRecord} {ex : List Axis} {d : Dir}
    (h : s.OneWaits e js ex) (hb : demand e.axis ≤ s.budget) (hk : e.kind = .seek d) (hc : e.axis.counted = true) :
    s.arbiter ex = ((s.setAxis e.axis ((s.axis e.axis).drive e.axis d none)).withMoves
      { entries := [e.granted (s.timeLimitOf e.axis (s.axis e.axis).position e.kind)], jogs := js }).grantReport e :=
  h.drives hb fun _ => State.grant_seeks hk hc

/-- R66: the arbiter leaves the one entry waiting where it lacks budget. -/
theorem State.OneWaits.lacks {s : State} {e : MoveEntry} {js : List JogRecord} {ex : List Axis} (h : s.OneWaits e js ex)
    (hb : s.budget < demand e.axis) : s.arbiter ex = s.withMoves { entries := [e], jogs := js } := by
  obtain ⟨k, hm⟩ := h.list
  have still : ∀ n ex, e.axis ∉ ex → (s.withDue n).walkOnce ex = s.withDue n := fun n ex hx => by
    rw [State.walkOnce_one (s := s.withDue n) h.run (by rw [State.withDue_entries, hm]) h.waiting h.idle h.cold hx]
    exact if_neg (by show ¬demand e.axis ≤ s.budget; omega)
  rw [State.arbiter_still ex (fun n => still n ex h.granted) fun n => still n [] (by simp)]
  show s.withMoves { s.moves with walksDue := 0 } = _
  rw [hm]

/-- R65: the conclusion that grants the one entry of a jog. -/
theorem State.OneWaits.conclude_jog {s : State} {e : MoveEntry} {j : JogRecord} {ex : List Axis} {g : Int}
    (h : s.OneWaits e [j] ex) (ho : e.owner = .jog j.id) (ha : s.engine.active = none) (hc : s.engine.closing = [])
    (hb : demand e.axis ≤ s.budget) (hk : e.kind = .target g)
    (hf : e.axis.mirror = true → (s.axis e.axis).sensorFault = false)
    (hd : deadband e.axis < ((s.axis e.axis).position - g).natAbs) :
    s.conclude ex = (s.setAxis e.axis ((s.axis e.axis).drivenTo e.axis g e.correctionUsed)).withMoves
      { entries := [e.granted (1000 + 2 * (g - (s.axis e.axis).position).natAbs * s.msPerCount e.axis)], jogs := [j] } := by
  have harb := h.drivesTo hb hk hf hd
  rw [State.grantReport_jog ho] at harb
  rw [← harb]
  refine State.conclude_of_arbiter (State.Attended.nextWork ?_)
  rw [harb]
  exact State.attended_one (e := e.granted _) (k := 0) rfl ⟨fun _ hj _ => by rw [List.mem_singleton.mp hj]; exact ho, hc,
    fun op hop => by rw [show s.engine.active = some op from hop] at ha; cases ha⟩

/-- R65: the conclusion that leaves the one entry of a jog waiting. -/
theorem State.OneWaits.conclude_lacks {s : State} {e : MoveEntry} {js : List JogRecord} {ex : List Axis}
    (h : s.OneWaits e js ex) (ho : s.ownedBy e js) (hb : s.budget < demand e.axis) :
    s.conclude ex = s.withMoves { entries := [e], jogs := js } := by
  have harb := h.lacks hb
  rw [← harb]
  refine State.conclude_of_arbiter (State.Attended.nextWork ?_)
  rw [harb]
  exact State.attended_one (e := e) (k := 0) rfl ho

end Sys2Proof.Machine
end

section
/-! PROOF. The close of an operation (07, section 7.6): its result and record, the stamp of a RECALL's slot, the return
allowance. -/

namespace Sys2Proof.Machine

/-! ## Result and record -/

/-- R137. -/
theorem Operation.result_eq (op : Operation) : op.result = opResult op.outcomes op.abortCause := by
  unfold Operation.result opResult
  refine if_congr Iff.rfl rfl (if_congr ?_ rfl rfl)
  rw [List.all_eq_true]
  refine forall₂_congr fun x _ => ?_
  cases hp : x.planned <;> simp

/-- R137: ABORTED is the result of an abort alone. -/
theorem Operation.result_aborted (op : Operation) : op.result = .aborted ↔ op.abortCause.isSome = true := by
  unfold Operation.result
  constructor
  · intro h
    by_contra hn
    rw [if_neg hn] at h
    split at h <;> cases h
  · exact fun h => if_pos h

/-- R139. -/
theorem Operation.history_eq (op : Operation) : op.history = op.recordOf op.outcomes op.abortCause := by
  unfold Operation.history Operation.recordOf
  rw [op.result_eq]

/-! ## The stamp -/

theorem ProfileTable.eq_of_fields {x y : ProfileTable} (hs : x.slots = y.slots) (hf : x.dflt = y.dflt)
    (hd : x.driver = y.driver) (hl : x.dirty = y.dirty) (hc : x.counter = y.counter) : x = y := by
  cases x
  cases y
  simp_all

/-- R106: the stamp of an operation does not see what comes before or after it but for the table and the store. -/
theorem State.stampedBy.before {s s' t : State} {op : Operation} {d : ActiveDriver} (h : s'.stampedBy t op d)
    (ht : s'.table = s.table) (hs : s'.store = s.store) : s.stampedBy t op d := by
  unfold State.stampedBy State.tookCommit State.commitPlace State.slot at h ⊢
  simpa only [ht, hs] using h

theorem State.stampedBy.after {s t t' : State} {op : Operation} {d d' : ActiveDriver} (h : s.stampedBy t op d)
    (hslots : t'.table.slots = t.table.slots) (hdirty : t'.table.dirty = t.table.dirty) (hdflt : t'.table.dflt = t.table.dflt)
    (hcounter : t'.table.counter = t.table.counter) (hdriver : t.table.driver = d → t'.table.driver = d')
    (hs : t'.store = t.store) : s.stampedBy t' op d' := by
  have hslot : ∀ j, t'.slot j = t.slot j := fun j => by unfold State.slot; rw [hslots]
  have untouched : t.table = { s.table with driver := d } ∧ t.store = s.store →
      t'.table = { s.table with driver := d' } ∧ t'.store = s.store := by
    rintro ⟨h1, h2⟩
    have hd : t.table.driver = d := by rw [h1]
    refine ⟨?_, hs.trans h2⟩
    rw [ProfileTable.eq_of_fields (y := { t.table with driver := d' }) hslots hdflt (hdriver hd) hdirty hcounter, h1]
  obtain ⟨h1, h2⟩ := h
  refine ⟨fun v i id hsrc => ⟨fun hin hplace => ?_, fun hout => untouched ((h1 v i id hsrc).2 hout)⟩, fun hsrc =>
    untouched (h2 hsrc)⟩
  obtain ⟨a1, a2, a3, a4, a5, a6, a7⟩ := (h1 v i id hsrc).1 hin hplace
  refine ⟨(hslot i).trans a1, fun j hj => (hslot j).trans (a2 j hj), hdirty.trans a3, hdriver a4, hdflt.trans a5,
    hcounter.trans a6, ?_⟩
  have himage : t'.imageOf (slotBlock i) = t.imageOf (slotBlock i) := by
    rw [State.imageOf_slot t' (i := i) rfl, State.imageOf_slot t (i := i) rfl, hslot]
  unfold State.tookCommit at a7 ⊢
  rw [hs, himage, State.onSpare_congr (congrArg _ hs)]
  exact a7

/-- R106: the stamp given to a RECALL's slot. -/
theorem State.handStamp_effect {s : State} (hp : s.power.state ≠ .park) (op : Operation) :
    s.onlyIn (s.handStamp op) [.table, .store] ∧ s.stampedBy (s.handStamp op) op s.table.driver := by
  unfold State.handStamp
  split
  · rename_i v i id hsrc
    by_cases h : (s.slot i).record.inUse = true ∧ (s.slot i).record.driver = id
    · rw [if_pos h]
      let u := s.modRecord i fun r => { r with stamp := op.tag }
      have hu : s.onlyIn u [.table] := s.onlyIn_modRecord i _
      obtain ⟨hsame, hother⟩ := State.slots_after_commit (State.onlyIn.refl (u.commit (slotBlock i)) _)
      obtain ⟨hdirty, hdriver, hdflt, hcounter⟩ := State.table_after_commit (State.onlyIn.refl (u.commit (slotBlock i)) _)
      refine ⟨(hu.mono (by simp)).trans (u.commit_only _), fun v' i' id' hsrc' => ?_, fun hno => absurd hsrc (hno _ _)⟩
      rw [hsrc] at hsrc'
      obtain ⟨rfl, ⟨rfl, rfl⟩⟩ : v = v' ∧ i = i' ∧ id = id' := by cases hsrc'; exact ⟨rfl, rfl, rfl⟩
      refine ⟨fun _ hplace => ⟨?_, fun j hj => ?_, hdirty, hdriver, hdflt, hcounter, State.tookCommit_commit rfl hp hplace⟩,
        fun hout => absurd h hout⟩
      · rw [hsame, State.slot_modRecord_same]
      · rw [hother j hj, State.slot_modRecord_other _ _ hj]
    · rw [if_neg h]
      refine ⟨.refl _ _, fun v' i' id' hsrc' => ?_, fun _ => ⟨rfl, rfl⟩⟩
      rw [hsrc] at hsrc'
      obtain ⟨rfl, ⟨rfl, rfl⟩⟩ : v = v' ∧ i = i' ∧ id = id' := by cases hsrc'; exact ⟨rfl, rfl, rfl⟩
      exact ⟨fun hin => absurd hin h, fun _ => ⟨rfl, rfl⟩⟩
  · rename_i hno
    refine ⟨.refl _ _, fun v i id hsrc => absurd hsrc (hno v i id), fun _ => ⟨rfl, rfl⟩⟩

/-! ## The close -/

/-- R138, R139, R106, R146: an operation has closed, before any start occasion that follows. -/
def State.opClosed (s : State) (op : Operation) : State :=
  let recorded := op.outcomes.any (·.planned)
  let s := s.raiseAt (opDonePorts op.requester) (.opDone op.kind op.tag op.result op.abortCause op.outcomes)
  let s := if recorded then s.writeHistory op.history else s
  let s := s.handStamp op
  if op.kind = .exit ∧ recorded ∧ op.result ≠ .aborted then s.setAllowance true else s

theorem State.closeOp_eq (s : State) (op : Operation) : s.closeOp op =
    if op.result = .aborted then s.opClosed op else (s.opClosed op).offerExit.offerReturn := rfl

theorem nodup_opDonePorts (p : Port) : (opDonePorts p).Nodup := by cases p <;> decide

theorem State.gains_raiseAt (s : State) {ps : List Port} (h : ps.Nodup) (e : Event) : s.gains (s.raiseAt ps e) (eventAt ps e) := by
  intro q
  rw [State.port_raiseAt _ _ _ h]
  unfold eventAt
  split <;> rfl

theorem State.opClosed_effect {s : State} (hp : s.power.state ≠ .park) (op : Operation) :
    s.onlyIn (s.opClosed op) [.ports, .engine, .table, .store] ∧
    (s.opClosed op).engine = { s.engine with
      ring := if op.outcomes.any (·.planned) then (op.recordOf op.outcomes op.abortCause :: s.engine.ring).take 8
        else s.engine.ring
      returnAllowed := s.engine.returnAllowed || (op.kind == .exit && op.outcomes.any (·.planned) && op.abortCause.isNone) } ∧
    s.stampedBy (s.opClosed op) op s.table.driver ∧
    s.gains (s.opClosed op) (eventAt (opDonePorts op.requester) (op.doneEvent op.outcomes op.abortCause)) := by
  let told := s.raiseAt (opDonePorts op.requester) (.opDone op.kind op.tag op.result op.abortCause op.outcomes)
  let recorded := if op.outcomes.any (·.planned) then told.writeHistory op.history else told
  let stamped := recorded.handStamp op
  have h1 : s.onlyIn told [.ports] := s.raiseAt_only _ _
  have h2 : told.onlyIn recorded [.engine] := by
    simp only [recorded]
    split
    · exact told.onlyIn_engine _
    · exact .refl _ _
  have hring : recorded.engine = { s.engine with ring := if op.outcomes.any (·.planned) then
      (op.recordOf op.outcomes op.abortCause :: s.engine.ring).take 8 else s.engine.ring } := by
    simp only [recorded]
    split
    · show ({ told.engine with ring := (op.history :: told.engine.ring).take 8 } : RecallEngine) = _
      rw [show told.engine = s.engine from h1 .engine (by simp), op.history_eq]
    · exact h1 .engine (by simp)
  have h12 : s.onlyIn recorded [.ports, .engine] := (h1.mono (by simp)).trans (h2.mono (by simp))
  obtain ⟨h3, hstamp⟩ := State.handStamp_effect (s := recorded) (by
    rw [show recorded.power = s.power from h12 .power (by simp)]; exact hp) op
  have htable : recorded.table = s.table := h12 .table (by simp)
  have hengine : stamped.engine = recorded.engine := h3 .engine (by simp)
  have hallow : s.opClosed op = if op.kind = .exit ∧ op.outcomes.any (·.planned) ∧ op.result ≠ .aborted then
      stamped.setAllowance true else stamped := rfl
  have h4 : stamped.onlyIn (s.opClosed op) [.engine] := by
    rw [hallow]
    split
    · exact stamped.onlyIn_engine _
    · exact .refl _ _
  have hkeep : ∀ q, q ≠ Part.engine → stamped.agrees (s.opClosed op) q := fun q hq => h4 q (by simpa using hq)
  have ht4 : (s.opClosed op).table = stamped.table := hkeep .table (by decide)
  refine ⟨(h12.mono (by simp)).trans ((h3.mono (by simp)).trans (h4.mono (by simp))), ?_, ?_, ?_⟩
  · have hr := op.result_aborted
    rw [hallow]
    by_cases h : op.kind = .exit ∧ op.outcomes.any (·.planned) = true ∧ op.result ≠ .aborted
    · obtain ⟨hk, hpl, hres⟩ := h
      have hnone : op.abortCause.isNone = true := by
        cases hc : op.abortCause with
        | none => rfl
        | some c => exact absurd (hr.mpr (by rw [hc]; rfl)) hres
      rw [if_pos ⟨hk, hpl, hres⟩]
      show ({ stamped.engine with returnAllowed := true } : RecallEngine) = _
      rw [hengine, hring, hk, hpl, hnone]
      simp
    · have hno : (op.kind == .exit && op.outcomes.any (·.planned) && op.abortCause.isNone) = false := by
        rw [Bool.eq_false_iff]
        intro hall
        simp only [Bool.and_eq_true, beq_iff_eq] at hall
        refine h ⟨hall.1.1, hall.1.2, fun hres => ?_⟩
        have := hr.mp hres
        rw [Option.isNone_iff_eq_none.mp hall.2] at this
        cases this
      rw [if_neg h, hengine, hring, hno, Bool.or_false]
  · have := (hstamp.before htable (h12 .store (by simp))).after (t' := s.opClosed op) (d' := s.table.driver)
      (by rw [ht4]) (by rw [ht4]) (by rw [ht4]) (by rw [ht4]) (fun h => by rw [ht4, h, htable]) (hkeep .store (by decide))
    exact this
  · have hports : (s.opClosed op).ports = told.ports :=
      Eq.trans (hkeep .ports (by decide)) (Eq.trans (h3 .ports (by simp)) (h2 .ports (by simp)))
    have hgains : s.gains told (eventAt (opDonePorts op.requester) (op.doneEvent op.outcomes op.abortCause)) := by
      unfold Operation.doneEvent
      rw [← op.result_eq]
      exact s.gains_raiseAt (nodup_opDonePorts _) _
    intro q
    rw [State.port_congr hports]
    exact hgains q

/-- R145, R146: no exit is armed and no RETURN is to start when an operation closes, or it was aborted. -/
abbrev State.startsNothing (s : State) (op : Operation) : Prop :=
  op.abortCause.isSome = true ∨
    (s.engine.arm = none ∧ ((s.engine.returnAllowed = false ∧ op.kind ≠ .exit) ∨ s.permitsCause .ret = false))

theorem State.closeOp_closed {s : State} (hp : s.power.state ≠ .park) {op : Operation} (h : s.startsNothing op) :
    s.closeOp op = s.opClosed op := by
  obtain ⟨honly, hengine, _, _⟩ := State.opClosed_effect hp op
  rw [State.closeOp_eq]
  by_cases hres : op.result = .aborted
  · exact if_pos hres
  · obtain ⟨harm, hret⟩ := h.resolve_left fun hc => hres (op.result_aborted.mpr hc)
    have hexit : (s.opClosed op).offerExit = s.opClosed op := by
      unfold State.offerExit
      rw [show (s.opClosed op).engine.arm = none by rw [hengine]; exact harm]
    have hno : ((s.opClosed op).engine.returnAllowed && (s.opClosed op).permitsCause .ret) = false := by
      rcases hret with ⟨hr, hk⟩ | hperm
      · rw [hengine]
        have : (op.kind == OpKind.exit) = false := by simpa using hk
        simp [hr, this]
      · have : (s.opClosed op).permitsCause .ret = false := by
          unfold State.permitsCause
          rw [show (s.opClosed op).monitor = s.monitor from honly .monitor (by simp)]
          exact hperm
        rw [this, Bool.and_false]
    have hreturn : (s.opClosed op).offerReturn = s.opClosed op := by
      unfold State.offerReturn
      rw [hno]
      rfl
    rw [if_neg hres, hexit, hreturn]

end Sys2Proof.Machine
end

section
/-! PROOF. An operation that goes on (07): the phases it passes, the phase that begins for the one axis left, its close. -/

namespace Sys2Proof.Machine

/-! ## An admission of the active operation -/

/-- R128: an axis that passes the tests. -/
theorem State.testAxis_ok {s : State} {src : Source} {a : Axis} {g : Int} {c : Bool} (h : s.testAxis src a = .ok (g, c)) :
    s.isEffective a = true ∧ (a.counted = true → (s.axis a).confidence ≠ .lost) ∧ (s.axis a).halted = false ∧
      (s.axis a).hot = false ∧ (a.mirror = true → (s.axis a).sensorFault = false) := by
  have hskip : s.skipTest a = none := by
    unfold State.testAxis at h
    cases hk : s.skipTest a with
    | none => rfl
    | some o => rw [hk] at h; cases ha : s.aim src a <;> rw [ha] at h <;> cases h
  simp only [State.skipTest] at hskip
  split at hskip
  · cases hskip
  · split at hskip
    · cases hskip
    · split at hskip
      · cases hskip
      · split at hskip
        · cases hskip
        · split at hskip
          · cases hskip
          · simp_all

/-- R128: the tests of an axis see its unit, the van record and the fitting alone. -/
theorem State.testAxis_congr {s t : State} (hv : t.van = s.van) (hf : t.fitted = s.fitted) {a : Axis}
    (ha : t.axis a = s.axis a) (src : Source) : t.testAxis src a = s.testAxis src a := by
  have haim : t.aim src a = s.aim src a := by
    unfold State.aim State.recallConversion State.fromTarget State.countedCal State.stopsOf State.mirrorLimits State.mirrorCal
    simp only [hv, ha]
  have hskip : t.skipTest a = s.skipTest a := by
    unfold State.skipTest State.isEffective State.effective
    simp only [hv, hf, ha]
  unfold State.testAxis
  rw [haim, hskip]

/-- R61: the first entry of an empty list. -/
theorem State.place_first {s : State} {e : MoveEntry} {js : List JogRecord} (hm : s.moves = { jogs := js })
    (hh : (s.axis e.axis).hot = false) : s.place e = s.withMoves { entries := [e], jogs := js, walksDue := 1 } := by
  have hsup : s.supersede e.axis = s := by
    unfold State.supersede State.entryOf
    rw [hm]
    rfl
  unfold State.place
  rw [hsup]
  dsimp only
  rw [if_neg (show ¬(s.askWalk.axis e.axis).hot = true by rw [State.axis_askWalk, hh]; decide)]
  show s.withMoves { s.moves with entries := s.moves.entries ++ [e], walksDue := s.moves.walksDue + 1 } = _
  rw [hm]
  rfl

/-- R61, R124: the entry with which an operation moves an axis. -/
def Operation.entry (op : Operation) (a : Axis) (k : MoveKind) : MoveEntry :=
  { axis := a, cause := op.kind.cause, kind := k, tag := op.tag, owner := .operation op.id }

/-- R60, R133: an operation that has been told of a grant. -/
def Operation.told (op : Operation) : Operation := { op.restartProgress with legGranted := true }

section Admits

variable {s : State} {op : Operation} {a : Axis} (hm : s.moves = {}) (ha : s.engine.active = some op)
  (hc : s.engine.closing = []) (hr : s.power.state = .run) (hi : (s.axis a).motion = .idle) (hh : (s.axis a).hot = false)
  (hb : demand a ≤ s.budget)

include hm hr hi hh in
theorem State.oneWaits_first {e : MoveEntry} (he : e.axis = a) (hw : e.state = .waiting) :
    (s.place e).OneWaits e [] [] ∧ s.place e = s.withMoves { entries := [e], walksDue := 1 } := by
  have hplace := State.place_first (js := []) hm (by rw [he]; exact hh)
  rw [hplace]
  exact ⟨⟨⟨0, rfl⟩, hw, hr, by rw [he]; exact hi, by rw [he]; exact hh, List.not_mem_nil⟩, rfl⟩

include hm ha hc hr hi hh hb in
/-- R61, R66: the active operation moves an axis towards a target, with nothing else on the list. -/
theorem State.admitOp_target {g : Int} (hf : a.mirror = true → (s.axis a).sensorFault = false)
    (hd : deadband a < ((s.axis a).position - g).natAbs) :
    s.admitOp a (.target g) = ((s.setAxis a ((s.axis a).drivenTo a g false)).withMoves
      { entries := [(op.entry a (.target g)).granted (1000 + 2 * (g - (s.axis a).position).natAbs * s.msPerCount a)]
        }).withActive (some op.told) := by
  obtain ⟨hwaits, hplace⟩ := State.oneWaits_first (e := op.entry a (.target g)) hm hr hi hh rfl rfl
  unfold State.admitOp
  rw [ha]
  show (s.place (op.entry a (.target g))).arbiter [] = _
  rw [hplace] at hwaits ⊢
  rw [hwaits.drivesTo hb rfl hf hd]
  exact State.grantReport_op (s := (s.setAxis a _).withMoves _) ha hc rfl

include hm ha hc hr hi hh hb in
/-- R61, R66: the active operation seeks an end of travel. -/
theorem State.admitOp_seek (d : Dir) (hcount : a.counted = true) :
    s.admitOp a (.seek d) = ((s.setAxis a ((s.axis a).drive a d none)).withMoves
      { entries := [(op.entry a (.seek d)).granted (s.timeLimitOf a (s.axis a).position (.seek d))] }).withActive
        (some op.told) := by
  obtain ⟨hwaits, hplace⟩ := State.oneWaits_first (e := op.entry a (.seek d)) hm hr hi hh rfl rfl
  unfold State.admitOp
  rw [ha]
  show (s.place (op.entry a (.seek d))).arbiter [] = _
  rw [hplace] at hwaits ⊢
  rw [hwaits.seeks hb rfl hcount]
  exact State.grantReport_op (s := (s.setAxis a _).withMoves _) ha hc rfl

end Admits

/-! ## A phase -/

theorem State.admitPhase_none {s : State} {target : OutcomeEntry → Option Int} {axes : List Axis}
    (h : ∀ a ∈ axes, (s.activeEntry a).bind target = none) : s.admitPhase target axes = s := by
  induction axes with
  | nil => rfl
  | cons a axes ih =>
    unfold State.admitPhase
    rw [List.foldl_cons, h a List.mem_cons_self]
    exact ih fun b hb => h b (List.mem_cons_of_mem _ hb)

/-- R129 to R131: a phase with a move for one of its axes alone. -/
theorem State.admitPhase_one {s : State} {target : OutcomeEntry → Option Int} {axes : List Axis} {b : Axis} {g : Int}
    (hb : b ∈ axes) (hn : axes.Nodup) (h1 : (s.activeEntry b).bind target = some g)
    (h2 : ∀ a ∈ axes, a ≠ b → (s.activeEntry a).bind target = none)
    (h3 : ∀ a, (s.admitOp b (.target g)).activeEntry a = s.activeEntry a) :
    s.admitPhase target axes = s.admitOp b (.target g) := by
  induction axes with
  | nil => cases hb
  | cons a axes ih =>
    obtain ⟨hna, hn⟩ := List.nodup_cons.mp hn
    unfold State.admitPhase
    rw [List.foldl_cons]
    by_cases hab : a = b
    · subst hab
      rw [h1]
      refine State.admitPhase_none fun c hc => ?_
      rw [h3 c]
      exact h2 c (List.mem_cons_of_mem _ hc) fun h => hna (h ▸ hc)
    · rw [h2 a List.mem_cons_self hab]
      exact ih ((List.mem_cons.mp hb).resolve_left (Ne.symm hab)) hn fun c hc => h2 c (List.mem_cons_of_mem _ hc)

/-- R128: a phase none of whose axes is still to be moved. -/
theorem State.enterStage_none {s : State} {op : Operation} {st : Stage} {axes : List Axis} (ha : s.engine.active = some op)
    (h : ∀ y ∈ op.outcomes, y.axis ∈ axes → y.due = false) :
    s.enterStage st axes = s.withActive (some { op with stage := st }) := by
  have hmap : op.outcomes.map (fun e => if axes.contains e.axis then s.retest op.source e else e) = op.outcomes := by
    refine (List.map_congr_left fun y hy => ?_).trans (List.map_id _)
    by_cases hin : y.axis ∈ axes
    · rw [if_pos (List.contains_iff_mem.mpr hin)]
      unfold State.retest
      rw [h y hy hin]
      rfl
    · rw [if_neg (mt List.contains_iff_mem.mp hin)]
      rfl
  unfold State.enterStage State.modActive
  rw [ha]
  simp only [Option.map_some, hmap]

theorem State.activeEntry_mem {s : State} {op : Operation} (ha : s.engine.active = some op) {a : Axis} {y : OutcomeEntry}
    (h : s.activeEntry a = some y) : y ∈ op.outcomes ∧ y.axis = a := by
  unfold State.activeEntry at h
  rw [ha] at h
  exact ⟨List.mem_of_find?_eq_some h, by simpa using List.find?_some h⟩

theorem OutcomeEntry.laterTarget_none {y : OutcomeEntry} (h : y.due = false) : y.laterTarget = none := by
  unfold OutcomeEntry.laterTarget; rw [h]; rfl

/-- R130, R131: an operation passes a phase none of whose axes is still to be moved. -/
theorem State.phase_passes {s : State} {op : Operation} {st : Stage} {axes : List Axis} (ha : s.engine.active = some op)
    (h : ∀ y ∈ op.outcomes, y.axis ∈ axes → y.due = false) :
    (s.enterStage st axes).admitPhase OutcomeEntry.laterTarget axes = s.withActive (some { op with stage := st }) := by
  rw [State.enterStage_none ha h]
  refine State.admitPhase_none fun a hin => ?_
  cases hy : (s.withActive (some { op with stage := st })).activeEntry a with
  | none => rfl
  | some y =>
    obtain ⟨hmem, hax⟩ := State.activeEntry_mem (op := { op with stage := st }) rfl hy
    exact OutcomeEntry.laterTarget_none (h y hmem (hax ▸ hin))

/-- R128: the outcome list when an axis has been re-tested. -/
def retested (es : List OutcomeEntry) (b : Axis) (g : Int) (c : Bool) : List OutcomeEntry :=
  es.map fun y => if y.axis = b then { y with target := some g, clamped := c } else y

/-- R128: a phase with one axis still to be moved, which passes its re-test. -/
theorem State.enterStage_one {s : State} {op : Operation} {st : Stage} {axes : List Axis} {b : Axis} {g : Int} {c : Bool}
    (ha : s.engine.active = some op) (hb : b ∈ axes) (ht : s.testAxis op.source b = .ok (g, c))
    (hdue : ∀ y ∈ op.outcomes, (y.axis = b → y.due = true) ∧ (y.axis ≠ b → y.axis ∈ axes → y.due = false)) :
    s.enterStage st axes = s.withActive (some { op with stage := st, outcomes := retested op.outcomes b g c }) := by
  have hmap : op.outcomes.map (fun e => if axes.contains e.axis then s.retest op.source e else e) =
      retested op.outcomes b g c := by
    refine List.map_congr_left fun y hy => ?_
    obtain ⟨h1, h2⟩ := hdue y hy
    by_cases hyb : y.axis = b
    · rw [if_pos hyb, if_pos (List.contains_iff_mem.mpr (hyb ▸ hb))]
      unfold State.retest
      rw [h1 hyb, if_pos rfl, hyb, ht]
    · rw [if_neg hyb]
      by_cases hin : y.axis ∈ axes
      · rw [if_pos (List.contains_iff_mem.mpr hin)]
        unfold State.retest
        rw [h2 hyb hin]
        rfl
      · rw [if_neg (mt List.contains_iff_mem.mp hin)]
  unfold State.enterStage State.modActive
  rw [ha]
  simp only [Option.map_some, hmap]

/-- R130, R131: the phase of the one axis still to be moved begins, and drives it. -/
theorem State.phase_begins {s : State} {op : Operation} {st : Stage} {axes : List Axis} {b : Axis} {g : Int} {c : Bool}
    (hm : s.moves = {}) (ha : s.engine.active = some op) (hc : s.engine.closing = []) (hr : s.power.state = .run)
    (hb : b ∈ axes) (hn : axes.Nodup) (ht : s.testAxis op.source b = .ok (g, c))
    (hdue : ∀ y ∈ op.outcomes, (y.axis = b → y.due = true) ∧ (y.axis ≠ b → y.axis ∈ axes → y.due = false))
    (hex : ∃ y ∈ op.outcomes, y.axis = b) (hi : (s.axis b).motion = .idle) (hbud : demand b ≤ s.budget)
    (hd : deadband b < ((s.axis b).position - g).natAbs) :
    (s.enterStage st axes).admitPhase OutcomeEntry.laterTarget axes =
      ((s.setAxis b ((s.axis b).drivenTo b g false)).withMoves
        { entries := [(op.entry b (.target g)).granted (1000 + 2 * (g - (s.axis b).position).natAbs * s.msPerCount b)]
          }).withActive (some { op with
            stage := st, outcomes := retested op.outcomes b g c }.told) := by
  obtain ⟨_, _, _, hhot, hfault⟩ := State.testAxis_ok ht
  let n : Operation := { op with stage := st, outcomes := retested op.outcomes b g c }
  let t := s.withActive (some n)
  have hadmit : t.admitOp b (.target g) = _ := State.admitOp_target (s := t) (op := n) hm rfl hc hr hi hhot hbud hfault hd
  have hmem : ∀ {a y}, t.activeEntry a = some y → y.axis = a ∧ ((a = b → y.laterTarget = some g) ∧
      (a ≠ b → a ∈ axes → y.laterTarget = none)) := by
    intro a y hy
    obtain ⟨hin, hax⟩ := State.activeEntry_mem (op := n) rfl hy
    obtain ⟨z, hz, hzy⟩ := List.mem_map.mp hin
    obtain ⟨h1, h2⟩ := hdue z hz
    by_cases hzb : z.axis = b
    · rw [if_pos hzb] at hzy
      subst hzy
      have hdz : OutcomeEntry.due { z with target := some g, clamped := c } = true := h1 hzb
      refine ⟨hax, fun _ => ?_, fun hab => absurd (hax.symm.trans hzb) hab⟩
      unfold OutcomeEntry.laterTarget
      rw [hdz]
      rfl
    · rw [if_neg hzb] at hzy
      subst hzy
      exact ⟨hax, fun hab => absurd (hax.trans hab) hzb, fun _ hin => OutcomeEntry.laterTarget_none (h2 hzb (hax ▸ hin))⟩
  rw [State.enterStage_one ha hb ht hdue, State.admitPhase_one (s := t) hb hn ?_ ?_ ?_, hadmit]
  · rfl
  · obtain ⟨z, hz, hzb⟩ := hex
    have hfound : ∃ y ∈ n.outcomes, (y.axis == b) = true :=
      ⟨_, List.mem_map.mpr ⟨z, hz, rfl⟩, by rw [if_pos hzb]; simpa using hzb⟩
    obtain ⟨y, hy⟩ := Option.isSome_iff_exists.mp (List.find?_isSome.mpr hfound)
    have hy' : t.activeEntry b = some y := hy
    rw [hy']
    exact (hmem hy').2.1 rfl
  · intro a hin hab
    cases hy : t.activeEntry a with
    | none => rfl
    | some y => exact (hmem hy).2.2 hab hin
  · intro a
    rw [hadmit]
    rfl

end Sys2Proof.Machine
end

section
/-! PROOF. What follows the end of an operation's one move (07, section 7.3): the operation closes, or a later phase
begins. -/

namespace Sys2Proof.Machine

/-! ## The next stage -/

/-- R126: with nothing on the list, the conclusion takes the active operation a stage on. -/
theorem State.concludeFor_advance {s : State} {op : Operation} {k : Nat} (hm : s.moves = { walksDue := k })
    (ha : s.engine.active = some op) (hc : s.engine.closing = []) (n : Nat) (ex : List Axis) :
    State.concludeFor (n + 1) ex s = State.concludeFor n [] ((s.withMoves {}).advance op) := by
  have harb : s.arbiter ex = s.withMoves {} := by
    rw [State.arbiter_empty (by rw [hm])]
    show s.withMoves { s.moves with walksDue := 0 } = _
    rw [hm]
  have hnext : (s.withMoves {}).nextWork = some ((s.withMoves {}).advance op) := by
    unfold State.nextWork
    simp [hc, ha, State.owns]
  rw [State.concludeFor_succ, harb, hnext]

/-- R126, R130, R131: a RECALL or an UNDO goes from phase to phase. -/
abbrev Operation.phased (op : Operation) : Prop := op.kind = .recall ∨ op.kind = .undo

theorem State.advance_phase1 {op : Operation} (h : op.phased) (hs : op.stage = .phase1) (s : State) :
    s.advance op = s.enterPhase2 := by
  unfold State.advance
  rcases h with h | h <;> rw [h, hs]

theorem State.advance_phase2 {op : Operation} (h : op.phased) (hs : op.stage = .phase2) (s : State) :
    s.advance op = s.enterPhase3 := by
  unfold State.advance
  rcases h with h | h <;> rw [h, hs]

theorem State.advance_closes {op : Operation} (hn : op.kind ≠ .normalise) (h : op.phased → op.stage = .phase3) (s : State) :
    s.advance op = s.releaseActive.closeOp op := by
  unfold State.advance
  cases hk : op.kind with
  | normalise => exact absurd hk hn
  | exit => rfl
  | ret => rfl
  | _ => rw [h (by simp [Operation.phased, hk])]

theorem seatAxes_iff (a : Axis) : a ∈ ([.recline, .tilt, .lift, .slide] : List Axis) ↔ a.val < 4 := by revert a; decide

theorem columnAxes_iff (a : Axis) : a ∈ ([.rake, .reach] : List Axis) ↔ a = .rake ∨ a = .reach := by simp

theorem OutcomeEntry.due_iff (y : OutcomeEntry) : y.due = true ↔
    y.planned = true ∧ (y.outcome = none ∨ y.outcome = some .reached) := by simp [OutcomeEntry.due]

/-- R130, R131: what a later phase moves, by the phase. -/
theorem Operation.movesLater_iff {op : Operation} (hp : op.phased) (y : OutcomeEntry) : op.movesLater y ↔
    y.due = true ∧ ((op.stage = .phase1 ∧ y.axis.val < 4) ∨ (op.stage ≠ .phase3 ∧ (y.axis = .rake ∨ y.axis = .reach))) := by
  rw [y.due_iff]
  constructor
  · rintro ⟨_, h1, h2, h3⟩; exact ⟨⟨h1, h2⟩, h3⟩
  · rintro ⟨⟨h1, h2⟩, h3⟩; exact ⟨hp, h1, h2, h3⟩

/-- R131: what is left to PHASE_3 was left to it before PHASE_2. -/
theorem Operation.movesLater.of_phase2 {op : Operation} {y : OutcomeEntry}
    (h : Operation.movesLater { op with stage := .phase2 } y) (h1 : op.stage = .phase1) : op.movesLater y := by
  obtain ⟨hp, hpl, ho, ⟨h2, _⟩ | ⟨_, hcol⟩⟩ := h
  · cases h2
  · exact ⟨hp, hpl, ho, .inr ⟨by rw [h1]; decide, hcol⟩⟩

theorem Bool.eq_false_of_not {b : Bool} {P : Prop} (h : ¬P) (k : b = true → P) : b = false := by
  cases b with
  | false => rfl
  | true => exact absurd (k rfl) h

section Phases

variable {s : State} {op : Operation} (ha : s.engine.active = some op) (hp : op.phased)

include ha hp

/-- R130: PHASE_2 with nothing to move. -/
theorem State.enterPhase2_passes (hs : op.stage = .phase1) (h : ∀ y ∈ op.outcomes, y.axis.val < 4 → ¬op.movesLater y) :
    s.enterPhase2 = s.withActive (some { op with stage := .phase2 }) :=
  State.phase_passes ha fun y hy hin => Bool.eq_false_of_not (h y hy ((seatAxes_iff _).mp hin)) fun hd =>
    (op.movesLater_iff hp y).mpr ⟨hd, .inl ⟨hs, (seatAxes_iff _).mp hin⟩⟩

/-- R131: PHASE_3 with nothing to move. -/
theorem State.enterPhase3_passes (hs : op.stage ≠ .phase3)
    (h : ∀ y ∈ op.outcomes, y.axis = .rake ∨ y.axis = .reach → ¬op.movesLater y) :
    s.enterPhase3 = s.withActive (some { op with stage := .phase3 }) :=
  State.phase_passes ha fun y hy hin => Bool.eq_false_of_not (h y hy ((columnAxes_iff _).mp hin)) fun hd =>
    (op.movesLater_iff hp y).mpr ⟨hd, .inr ⟨hs, (columnAxes_iff _).mp hin⟩⟩

end Phases

/-! ## The operation closes -/

/-- A part with nothing in hand has nothing left to do, however long the conclusion. -/
theorem State.concludeFor_quiet {s : State} (h : s.quiet) (n : Nat) : State.concludeFor (n + 1) [] s = s :=
  State.conclude_settled_for n (State.settled_of_quiet h) []

/-- An operation that closes leaves nothing in hand. -/
theorem State.closeOp_quiet {s : State} (hm : s.moves = {}) (hc : s.engine.closing = []) (hr : s.power.state = .run)
    {op : Operation} (h : s.startsNothing op) :
    s.releaseActive.closeOp op = (s.withActive none).opClosed op ∧ ((s.withActive none).opClosed op).quiet := by
  have hpark : (s.withActive none).power.state ≠ .park := by rw [show (s.withActive none).power.state = .run from hr]; decide
  obtain ⟨honly, hengine, _, _⟩ := State.opClosed_effect hpark op
  exact ⟨State.closeOp_closed (s := s.withActive none) hpark h, (honly .moves (by simp)).trans hm, by rw [hengine],
    by rw [hengine]; exact hc⟩

section Ends

variable {s : State} {op : Operation} {k : Nat} (hm : s.moves = { walksDue := k }) (ha : s.engine.active = some op)
  (hc : s.engine.closing = []) (hr : s.power.state = .run) (hn : op.kind ≠ .normalise)

include hm ha hc hr hn

theorem State.concludeFor_closes (hs : s.startsNothing op) (hlast : op.phased → op.stage = .phase3) (n : Nat) (ex : List Axis) :
    State.concludeFor (n + 2) ex s = ((s.withMoves {}).withActive none).opClosed op := by
  obtain ⟨hclose, hquiet⟩ := State.closeOp_quiet (s := s.withMoves {}) rfl hc hr hs
  rw [State.concludeFor_advance hm ha hc, State.advance_closes hn hlast, hclose, State.concludeFor_quiet hquiet]

theorem State.concludeFor_phase2 (hs : s.startsNothing op) (hp : op.phased) (h2 : op.stage = .phase2)
    (hno : ∀ y ∈ op.outcomes, ¬op.movesLater y) (n : Nat) (ex : List Axis) :
    State.concludeFor (n + 3) ex s = ((s.withMoves {}).withActive none).opClosed op := by
  have hpass := State.enterPhase3_passes (s := s.withMoves {}) ha hp (by rw [h2]; decide) fun y hy _ => hno y hy
  rw [State.concludeFor_advance hm ha hc, State.advance_phase2 hp h2, hpass]
  exact State.concludeFor_closes (s := (s.withMoves {}).withActive (some { op with stage := .phase3 }))
    (op := { op with stage := .phase3 }) (k := 0) rfl rfl hc hr hn hs (fun _ => rfl) n []

/-- R126, R130 to R132, R138: with no later phase to move an axis, the operation passes its phases and closes. -/
theorem State.conclude_closes (hs : s.startsNothing op) (hstage : op.stage = .phase1 ∨ op.stage = .phase2 ∨ op.stage = .phase3)
    (hno : ∀ y ∈ op.outcomes, ¬op.movesLater y) (ex : List Axis) :
    s.conclude ex = ((s.withMoves {}).withActive none).opClosed op := by
  have hfuel : s.conclude ex = State.concludeFor 16 ex s := by
    unfold State.conclude
    rw [hm, hc]
    rfl
  rw [hfuel]
  by_cases hp : op.phased
  · rcases hstage with h1 | h2 | h3
    · have hpass := State.enterPhase2_passes (s := s.withMoves {}) ha hp h1 fun y hy _ => hno y hy
      rw [State.concludeFor_advance hm ha hc, State.advance_phase1 hp h1, hpass]
      exact State.concludeFor_phase2 (s := (s.withMoves {}).withActive (some { op with stage := .phase2 }))
        (op := { op with stage := .phase2 }) (k := 0) rfl rfl hc hr hn hs hp rfl
        (fun y hy h => hno y hy (h.of_phase2 h1)) 12 []
    · exact State.concludeFor_phase2 hm ha hc hr hn hs hp h2 hno 13 ex
    · exact State.concludeFor_closes hm ha hc hr hn hs (fun _ => h3) 14 ex
  · exact State.concludeFor_closes hm ha hc hr hn hs (fun h => absurd h hp) 14 ex

end Ends

/-! ## A later phase begins -/

/-- With the active operation's one entry on the list and no walk due, nothing is left to do. -/
theorem State.settled_ofOp {s : State} {op : Operation} {e : MoveEntry} (hm : s.moves = { entries := [e] })
    (ha : s.engine.active = some op) (hc : s.engine.closing = []) (ho : e.owner = .operation op.id) : s.settled := by
  refine ⟨by rw [hm], by rw [hm]; rfl, by rw [hc]; rfl, ?_⟩
  rw [ha]
  simp [State.owns, hm, ho]

/-- The operation once the phase of an axis has begun, the axis re-tested. -/
def Operation.begun (op : Operation) (st : Stage) (b : Axis) (g : Int) (c : Bool) : Operation :=
  { op with stage := st, outcomes := retested op.outcomes b g c }.told

/-- R130, R131: the state in which the active operation's phase for an axis has begun. -/
def State.phaseBegun (s : State) (op : Operation) (st : Stage) (b : Axis) (g : Int) (c : Bool) : State :=
  ((s.setAxis b ((s.axis b).drivenTo b g false)).withMoves
    { entries := [(op.entry b (.target g)).granted (1000 + 2 * (g - (s.axis b).position).natAbs * s.msPerCount b)]
      }).withActive (some (op.begun st b g c))

theorem State.phaseBegun_settled {s : State} (hc : s.engine.closing = []) (op : Operation) (st : Stage) (b : Axis) (g : Int)
    (c : Bool) : (s.phaseBegun op st b g c).settled :=
  State.settled_ofOp rfl rfl hc rfl

section Begins

variable {s : State} {op : Operation} {k : Nat} {b : Axis} {g : Int} {c : Bool} (hm : s.moves = { walksDue := k })
  (ha : s.engine.active = some op) (hc : s.engine.closing = []) (hr : s.power.state = .run) (hp : op.phased)
  (hlater : ∀ y ∈ op.outcomes, (y.axis = b → op.movesLater y) ∧ (y.axis ≠ b → ¬op.movesLater y))
  (hex : ∃ y ∈ op.outcomes, y.axis = b) (ht : s.testAxis op.source b = .ok (g, c)) (hi : (s.axis b).motion = .idle)
  (hbud : demand b ≤ s.budget) (hd : 2 < ((s.axis b).position - g).natAbs)

include hm ha hc hr hp hlater hex ht hi hbud hd

theorem State.concludeFor_phase2_begins (h1 : op.stage = .phase1) (hb : b.val < 4) (n : Nat) (ex : List Axis) :
    State.concludeFor (n + 2) ex s = s.phaseBegun op .phase2 b g c := by
  have hbegin := State.phase_begins (s := s.withMoves {}) (st := .phase2) (axes := [.recline, .tilt, .lift, .slide]) rfl ha hc
    hr ((seatAxes_iff b).mpr hb) (by decide) ht (fun y hy => ⟨fun hyb => ((op.movesLater_iff hp y).mp ((hlater y hy).1 hyb)).1,
      fun hyb hin => Bool.eq_false_of_not ((hlater y hy).2 hyb) fun hdue =>
        (op.movesLater_iff hp y).mpr ⟨hdue, .inl ⟨h1, (seatAxes_iff _).mp hin⟩⟩⟩) hex hi hbud
    (by rw [deadband, if_pos (by simp [Axis.counted]; omega)]; exact hd)
  rw [State.concludeFor_advance hm ha hc, State.advance_phase1 hp h1]
  unfold State.enterPhase2
  rw [hbegin]
  exact State.conclude_settled_for n (State.phaseBegun_settled (s := s) hc op .phase2 b g c) []

theorem State.concludeFor_phase3_begins (h2 : op.stage = .phase2) (hb : b = .rake ∨ b = .reach) (n : Nat) (ex : List Axis) :
    State.concludeFor (n + 2) ex s = s.phaseBegun op .phase3 b g c := by
  have hns : op.stage ≠ .phase3 := by rw [h2]; decide
  have hcount : b.counted = true := by rcases hb with rfl | rfl <;> rfl
  have hbegin := State.phase_begins (s := s.withMoves {}) (st := .phase3) (axes := [.rake, .reach]) rfl ha hc
    hr ((columnAxes_iff b).mpr hb) (by decide) ht (fun y hy => ⟨fun hyb => ((op.movesLater_iff hp y).mp ((hlater y hy).1 hyb)).1,
      fun hyb hin => Bool.eq_false_of_not ((hlater y hy).2 hyb) fun hdue =>
        (op.movesLater_iff hp y).mpr ⟨hdue, .inr ⟨hns, (columnAxes_iff _).mp hin⟩⟩⟩) hex hi hbud
    (by rw [deadband, if_pos hcount]; exact hd)
  rw [State.concludeFor_advance hm ha hc, State.advance_phase2 hp h2]
  unfold State.enterPhase3
  rw [hbegin]
  exact State.conclude_settled_for n (State.phaseBegun_settled (s := s) hc op .phase3 b g c) []

/-- R126, R128, R130, R131: the phase of the one axis left to move begins. -/
theorem State.conclude_begins (hstage : op.stage = .phase1 ∨ op.stage = .phase2 ∨ op.stage = .phase3) (ex : List Axis) :
    s.conclude ex = s.phaseBegun op (if b.val < 4 then .phase2 else .phase3) b g c := by
  have hfuel : s.conclude ex = State.concludeFor 16 ex s := by
    unfold State.conclude
    rw [hm, hc]
    rfl
  rw [hfuel]
  obtain ⟨y, hy, hyb⟩ := hex
  obtain ⟨_, _, _, hwhere⟩ := (hlater y hy).1 hyb
  rw [hyb] at hwhere
  by_cases hb : b.val < 4
  · rw [if_pos hb]
    obtain ⟨h1, _⟩ | ⟨_, hcol⟩ := hwhere
    · exact State.concludeFor_phase2_begins hm ha hc hr hp hlater ⟨y, hy, hyb⟩ ht hi hbud hd h1 hb 14 ex
    · rcases hcol with rfl | rfl <;> exact absurd hb (by decide)
  · rw [if_neg hb]
    obtain ⟨hns, hcol⟩ := hwhere.resolve_left fun h => hb h.2
    by_cases h1 : op.stage = .phase1
    · have hpass := State.enterPhase2_passes (s := s.withMoves {}) ha hp h1 fun z hz hzs =>
        (hlater z hz).2 fun hzb => hb (hzb ▸ hzs)
      rw [State.concludeFor_advance hm ha hc, State.advance_phase1 hp h1, hpass]
      exact State.concludeFor_phase3_begins (s := (s.withMoves {}).withActive (some { op with stage := .phase2 }))
        (op := { op with stage := .phase2 }) (k := 0) rfl rfl hc hr hp
        (fun z hz => ⟨fun hzb => ⟨hp, ((hlater z hz).1 hzb).2.1, ((hlater z hz).1 hzb).2.2.1,
          .inr ⟨by simp, hzb ▸ hcol⟩⟩, fun hzb h => (hlater z hz).2 hzb (h.of_phase2 h1)⟩) ⟨y, hy, hyb⟩ ht hi hbud hd rfl hcol 13 []
    · have h2 : op.stage = .phase2 := (hstage.resolve_left h1).resolve_right hns
      exact State.concludeFor_phase3_begins hm ha hc hr hp hlater ⟨y, hy, hyb⟩ ht hi hbud hd h2 hcol 14 ex

end Begins

/-! ## The end of one move -/

/-- R132: the state in which the one move of the active operation has ended, with walks due. -/
def State.moveEnded (s : State) (op : Operation) (e : MoveEntry) (v : AxisUnit) (es : List OutcomeEntry) (k : Nat) : State :=
  ((s.setAxis e.axis v).withMoves { walksDue := k }).withActive
    (some { op with outcomes := es, progress := op.progress.map fun _ => 5000 })

/-- R132, R133: an ending as it enters the outcome list. -/
theorem Operation.takeReport_eq {op : Operation} {e : MoveEntry}
    (hstage : op.stage = .phase1 ∨ op.stage = .phase2 ∨ op.stage = .phase3) (v : AxisUnit) (o : AxisOutcome) (x : Int) :
    (op.takeReport e o x (e.axis.counted && v.confidence == .suspect)).restartProgress =
      { op with outcomes := op.listAfter e v o x, progress := op.progress.map fun _ => 5000 } := by
  have hleg : ¬(op.stage = .leg1 ∨ op.stage = .leg2) := by
    rcases hstage with h | h | h <;> rw [h] <;> decide
  unfold Operation.takeReport Operation.modOutcome Operation.restartProgress Operation.listAfter
  by_cases hc : e.cause = .backoff
  · rw [if_pos hc]
    simp only [hc, if_true, ite_not]
  · rw [if_neg hc, if_neg hleg]
    simp only [hc, if_false, ite_not]

theorem State.setAxis_frame (s : State) (a : Axis) (v : AxisUnit) :
    (s.setAxis a v).axis a = v ∧ ∀ b, b ≠ a → (s.setAxis a v).axis b = s.axis b :=
  ⟨State.axis_setAxis_same _ _ _, fun _ h => State.axis_setAxis_other _ _ h⟩

/-- R126, R132: what follows the end of the active operation's one move. -/
theorem State.goesOn {s : State} {c : Instr} {op : Operation} {e : MoveEntry} {v : AxisUnit} {o : AxisOutcome} {x : Int}
    {k : Nat} (hone : s.oneEntry op e) (hr : s.power.state = .run)
    (hexec : exec c s = .next ((s.moveEnded op e v (op.listAfter e v o x) k).conclude [])) :
    s.operationGoesOn c op e v o x := by
  obtain ⟨ha, hcl, hm, hkind, hstage, habort, ⟨z, hz, hzax, hzpl⟩, ho⟩ := hone
  let es := op.listAfter e v o x
  let n : Operation := { op with outcomes := es, progress := op.progress.map fun _ => 5000 }
  let u := s.moveEnded op e v es k
  obtain ⟨haxis, hother⟩ := s.setAxis_frame e.axis v
  have hplanned : es.any (·.planned) = true := by
    refine List.any_eq_true.mpr ⟨_, List.mem_map.mpr ⟨z, hz, rfl⟩, ?_⟩
    split
    · exact hzpl
    · split <;> exact hzpl
  refine ⟨fun harm hret hall => ?_, fun b g clamped hbe hexb hlater ht hi hbud hd => ?_⟩
  · have hconc : u.conclude [] = ((u.withMoves {}).withActive none).opClosed n :=
      State.conclude_closes (s := u) (op := n) rfl rfl hcl hr hkind (.inr ⟨harm, hret⟩) hstage
        (fun y hy => (hall y hy).2) []
    let w := (u.withMoves {}).withActive none
    have hpark : w.power.state ≠ .park := by rw [show w.power.state = .run from hr]; decide
    obtain ⟨honly, hengine, hstamp, hgains⟩ := State.opClosed_effect hpark n
    refine ⟨w.opClosed n, hexec.trans (congrArg _ hconc), ?_, ?_, fun b hb => ?_, honly .moves (by simp), ⟨?_, ?_⟩, ?_⟩
    · have hw : s.onlyIn w [.axes, .moves, .engine] := fun p hp => by
        cases p <;> first | rfl | exact absurd (by simp) hp
      exact (hw.mono (by simp)).trans (honly.mono (by simp))
    · exact (State.axis_congr (honly .axes (by simp)) e.axis).trans haxis
    · exact (State.axis_congr (honly .axes (by simp)) b).trans (hother b hb)
    · rw [hengine]
      show ({ s.engine with active := none, ring := _, returnAllowed := _ } : RecallEngine) = _
      have hopen : n.abortCause = none := habort
      rw [show n.outcomes.any (·.planned) = true from hplanned, if_pos rfl, hopen, Bool.and_true]
      rfl
    · exact hstamp.before rfl rfl
    · intro q
      have := hgains q
      rw [show n.abortCause = none from habort] at this
      exact this
  · have hbcount : 2 < ((u.axis b).position - g).natAbs := by
      show 2 < (((s.setAxis e.axis v).axis b).position - g).natAbs
      rw [hother b hbe]; exact hd
    have hub : u.axis b = s.axis b := hother b hbe
    obtain ⟨y, hy, hyb, _⟩ := hexb
    have hp : op.phased := ((hlater y hy).1 hyb).1
    have hconc : u.conclude [] = u.phaseBegun n (if b.val < 4 then .phase2 else .phase3) b g clamped := by
      refine State.conclude_begins (s := u) (op := n) rfl rfl hcl hr hp
        (fun y hy => ⟨(hlater y hy).1, fun h => ((hlater y hy).2 h).2⟩) ⟨y, hy, hyb⟩ ?_ ?_ hbud hbcount hstage []
      · rw [State.testAxis_congr (s := s) (t := u) rfl rfl hub]; exact ht
      · rw [hub]; exact hi
    let t := u.phaseBegun n (if b.val < 4 then .phase2 else .phase3) b g clamped
    obtain ⟨hbaxis, hbother⟩ := (s.setAxis e.axis v).setAxis_frame b ((u.axis b).drivenTo b g false)
    refine ⟨t, hexec.trans (congrArg _ hconc), ?_, ?_, ?_, fun a hae hab => ?_, ?_, ?_⟩
    · intro p hp
      cases p <;> first | rfl | exact absurd (by simp) hp
    · exact (hbother e.axis (Ne.symm hbe)).trans haxis
    · exact hbaxis.trans (by rw [hub])
    · exact (hbother a hab).trans (hother a hae)
    · show ({ entries := [_] } : MoveList) = _
      rw [hub]
      rfl
    · refine ⟨n.begun (if b.val < 4 then .phase2 else .phase3) b g clamped, rfl, rfl, rfl, rfl, rfl, rfl, habort, rfl, ?_, rfl⟩
      show (op.progress.map _).map _ = _
      rw [Option.map_map]
      rfl

end Sys2Proof.Machine
end

section
/-! PROOF. The axis timers and the Hall pulses (01): intervals, stalls, time limits and pulses under one jog or one operation. -/

namespace Sys2Proof.Machine

/-! ## One jog's entry ends at the cut -/

/-- R70, R78: the conclusion keeps an OPEN record whose entry has ended. -/
theorem State.conclude_ended {s : State} {j : JogRecord} {k : Nat} (hm : s.moves = { jogs := [j], walksDue := k })
    (hj : j.closing = false) (ha : s.engine.active = none) (hc : s.engine.closing = []) :
    s.conclude [] = s.withMoves { jogs := [j] } :=
  State.conclude_empty hm (fun _ h => by rw [List.mem_singleton.mp h]; exact hj) ha hc []

theorem State.cutEnding_jog_concluded {s : State} {e : MoveEntry} {j : JogRecord} (h : s.oneDrive e j) {o : AxisOutcome}
    (ho : o ≠ .aborted) (hp : ¬(o = .obstructed ∧ e.axis.counted = true ∧ e.noBackoff = false)) :
    (s.cutEnding e.axis o).conclude [] = (s.setAxis e.axis (((s.axis e.axis).cut e.axis false).takeOutcome e o)).withMoves
      { jogs := [j.ended o (s.axis e.axis).position] } := by
  obtain ⟨⟨hm, ha, hc, hown, hcause, _⟩, hs, hj, habort, _⟩ := h
  rw [State.cutEnding_jog hm hs hown o hp, JogRecord.takeReport_ended hcause habort ho]
  exact State.conclude_ended (s := (s.setAxis e.axis _).withMoves _) rfl hj ha hc

/-- A jog's one entry, or the active operation's, has its owner's work alone in hand. -/
theorem State.ownedBy_jog {s : State} {e : MoveEntry} {j : JogRecord} (h : s.oneJog e j) : s.ownedBy e [j] := by
  obtain ⟨_, ha, hc, ho, _, _⟩ := h
  exact ⟨fun _ hj _ => by rw [List.mem_singleton.mp hj]; exact ho, hc, fun op hop => by rw [ha] at hop; cases hop⟩

theorem State.ownedBy_op {s : State} {op : Operation} {e : MoveEntry} (h : s.oneEntry op e) : s.ownedBy e [] := by
  obtain ⟨ha, hc, _, _, _, _, _, ho⟩ := h
  exact ⟨nofun, hc, fun op' hop => by rw [ha] at hop; cases hop; exact ho⟩

/-- R132: the one move of the active operation ends at the cut. -/
theorem State.cutEnding_moveEnded {s : State} {op : Operation} {e : MoveEntry} (h : s.oneEntry op e) (hs : e.state = .driving)
    (o : AxisOutcome) (hp : ¬(o = .obstructed ∧ e.axis.counted = true ∧ e.noBackoff = false)) :
    let v := ((s.axis e.axis).cut e.axis false).takeOutcome e o
    s.cutEnding e.axis o = s.moveEnded op e v (op.listAfter e v o (s.axis e.axis).position) 2 := by
  obtain ⟨ha, hc, hm, _, hstage, _, _, ho⟩ := h
  intro v
  rw [State.cutEnding_op hm hs ha hc ho o hp, Operation.takeReport_eq hstage]
  rfl

theorem State.modAxis_setAxis_withMoves (s : State) (a : Axis) (u : AxisUnit) (m : MoveList) (f : AxisUnit → AxisUnit) :
    ((s.setAxis a u).withMoves m).modAxis a f = (s.setAxis a (f u)).withMoves m := by
  show ((s.setAxis a u).setAxis a (f ((s.setAxis a u).axis a))).withMoves m = _
  rw [State.axis_setAxis_same, State.setAxis_setAxis]

theorem State.modAxis_moveEnded (s : State) (op : Operation) (e : MoveEntry) (v : AxisUnit) (es : List OutcomeEntry) (k : Nat)
    (f : AxisUnit → AxisUnit) : (s.moveEnded op e v es k).modAxis e.axis f = s.moveEnded op e (f v) es k :=
  congrArg (State.withActive · _) (s.modAxis_setAxis_withMoves e.axis v _ f)

theorem State.moveEnded_setAxis (s : State) (op : Operation) (e : MoveEntry) (u v : AxisUnit) (es : List OutcomeEntry) (k : Nat) :
    (s.setAxis e.axis u).moveEnded op e v es k = s.moveEnded op e v es k := by
  unfold State.moveEnded
  rw [State.setAxis_setAxis]

/-! ## Intervals -/

theorem exec_heatInterval {s : State} (h : s.powered = true) (a : Axis) : exec (.heatInterval a) s = .next (s.heatInterval a) :=
  congrArg Host.Outcome.next (if_pos h)

theorem exec_runTimeInterval {s : State} (h : s.powered = true) (a : Axis) :
    exec (.runTimeInterval a) s = .next (s.runTimeInterval a) := congrArg Host.Outcome.next (if_pos h)

/-- R20, R21: the unit after a heat interval. -/
theorem AxisUnit.stepHeat_eq (u : AxisUnit) :
    let heat := if u.drove = true ∨ u.driving = true then min (u.heat + 4) 600 else u.heat - 1
    u.stepHeat = { u.countInterval with heat := heat, hot := nextHot u.hot heat } := by
  intro heat
  have h : nextHeat u.heat (u.drove || u.driving) = heat := by
    unfold nextHeat
    simp only [Bool.or_eq_true]
    rfl
  unfold AxisUnit.stepHeat
  rw [h]

/-- R21: the interval of an axis that does not become HOT. -/
theorem State.heatInterval_cool {s : State} {a : Axis} (hc : a.counted = true) (hr : s.intervalRuns a = true)
    (h : (s.axis a).hot = true ∨ (s.axis a).stepHeat.hot = false) : s.heatInterval a = s.setAxis a (s.axis a).stepHeat := by
  unfold State.heatInterval
  rw [if_pos ⟨hc, hr⟩]
  refine if_neg ?_
  show ¬(((s.setAxis a (s.axis a).stepHeat).axis a).hot = true ∧ _)
  rw [State.axis_setAxis_same]
  rcases h with h | h <;> simp [h]

/-- R21: the interval in which a driving axis becomes HOT. -/
theorem State.heatInterval_hot {s : State} {a : Axis} (hc : a.counted = true) (hr : s.intervalRuns a = true)
    (h0 : (s.axis a).hot = false) (h1 : (s.axis a).stepHeat.hot = true) (hd : (s.axis a).driving = true) :
    s.heatInterval a = ((((s.setAxis a (s.axis a).stepHeat).cutEnding a .hot).modAxis a
      fun u => { u with drove := false })).conclude [] := by
  let t := s.setAxis a (s.axis a).stepHeat
  have ht : t.axis a = (s.axis a).stepHeat := State.axis_setAxis_same _ _ _
  have hbecome : s.heatInterval a = t.becomeHot a := by
    unfold State.heatInterval
    rw [if_pos ⟨hc, hr⟩]
    refine if_pos ?_
    show (t.axis a).hot = true ∧ _
    rw [ht]
    exact ⟨h1, by rw [h0]; rfl⟩
  rw [hbecome]
  unfold State.becomeHot
  rw [ht]
  exact if_pos hd

/-! ## Stalls and time limits -/

theorem exec_stall {s : State} (h : s.powered = true) (a : Axis) : exec (.stall a) s = .next (s.stall a) :=
  congrArg Host.Outcome.next (if_pos h)

theorem exec_timeLimitExpiry {s : State} (h : s.powered = true) (a : Axis) :
    exec (.timeLimitExpiry a) s = .next (s.timeLimitExpiry a) := congrArg Host.Outcome.next (if_pos h)

/-- R12, R13: a stall under an entry of the list. -/
theorem State.stall_entry {s : State} {e : MoveEntry} (he : s.entryOf e.axis = some e)
    (ht : (s.axis e.axis).stallTimer.isSome = true) (hd : (s.axis e.axis).driving = true) :
    let t := s.setAxis e.axis { s.axis e.axis with stallPos := (s.axis e.axis).position }
    let d := t.classifyStall e (s.axis e.axis).position
    s.stall e.axis =
      if e.axis.counted then (t.cutInto e.axis false d).conclude [] else (t.cutEnding e.axis d.outcome).conclude [] := by
  intro t d
  have hpos : (t.axis e.axis).position = (s.axis e.axis).position := by rw [State.axis_setAxis_same]
  unfold State.stall
  rw [if_pos ⟨ht, hd⟩]
  show (match t.entryOf e.axis with | none => _ | some f => _) = _
  rw [show t.entryOf e.axis = some e from he]
  have hd' : t.classifyStall e (t.axis e.axis).position = d := by rw [hpos]
  show (if e.axis.counted = true then (t.cutInto e.axis false (t.classifyStall e (t.axis e.axis).position)).conclude []
    else (t.cutEnding e.axis (t.classifyStall e (t.axis e.axis).position).outcome).conclude []) = _
  rw [hd']

/-- R13: the classification of a counted axis's stall, but for a seek leg and a backoff. -/
abbrev State.stallSettles (s : State) (e : MoveEntry) (d : Disposition) : Prop :=
  let u := s.axis e.axis
  (u.confidence ≠ .lost ∧ (∃ st, s.stopsOf e.axis = some st ∧ (u.position ≤ st.lo + 16 ∨ st.hi - 16 ≤ u.position)) ∧
      d = .decided .endStop) ∨
    (u.confidence ≠ .lost ∧ (∃ st, s.stopsOf e.axis = some st ∧ st.lo + 16 < u.position ∧ u.position < st.hi - 16) ∧
      d = .decided .obstructed) ∨
    (u.confidence = .lost ∧ e.kind = .seek .up ∧ d = .decided .stalled) ∨
    (u.confidence = .lost ∧ e.kind = .seek .down ∧ s.stopsOf e.axis = none ∧ d = .decided .stalled) ∨
    (u.confidence = .lost ∧ e.kind = .seek .down ∧ (s.stopsOf e.axis).isSome ∧ d = .rereference)

/-- R13: the first two rows are those of a normalise's seek leg and of a backoff. -/
abbrev MoveEntry.plainMove (e : MoveEntry) : Prop := e.cause ≠ .normalise ∧ e.cause ≠ .backoff

theorem MoveEntry.isSeekLeg_plain {e : MoveEntry} (h : e.plainMove) : e.isSeekLeg = false := by
  simp [MoveEntry.isSeekLeg, h.1]

theorem State.classifyStall_counted {s : State} {e : MoveEntry} {d : Disposition} (hc : e.axis.counted = true)
    (he : e.plainMove) (h : s.stallSettles e d) : s.classifyStall e (s.axis e.axis).position = d := by
  have hmirror : e.axis.mirror = false := by rw [Axis.mirror_eq, hc]; rfl
  unfold State.classifyStall
  rw [e.isSeekLeg_plain he]
  simp only [he.2, hc, hmirror, Bool.true_and, beq_iff_eq, Bool.false_eq_true, if_false, false_and]
  rcases h with ⟨hl, ⟨st, hst, hnear⟩, rfl⟩ | ⟨hl, ⟨st, hst, hfar⟩, rfl⟩ | ⟨hl, hk, rfl⟩ | ⟨hl, hk, hst, rfl⟩ | ⟨hl, hk, hst, rfl⟩
  · have : s.nearStops e.axis (s.axis e.axis).position = true := by simpa [State.nearStops, hst] using hnear
    simp [hl, this]
  · have : s.nearStops e.axis (s.axis e.axis).position = false := by
      simp only [State.nearStops, hst, Bool.or_eq_false_iff, decide_eq_false_iff_not]
      omega
    simp [hl, this]
  · simp [hl, hk]
  · simp [hl, hk, hst]
  · simp [hl, hk, hst]

/-- R13: the classification of a mirror's stall. -/
theorem State.classifyStall_mirror {s : State} {e : MoveEntry} (hm : e.axis.mirror = true) (he : e.plainMove) (x : Int) :
    (s.classifyStall e x).outcome =
      if x ≤ (s.mirrorLimits e.axis).lo + 8 ∨ (s.mirrorLimits e.axis).hi - 8 ≤ x then .endStop else .obstructed := by
  have hc : e.axis.counted = false := by rw [Axis.mirror_eq] at hm; simpa using hm
  unfold State.classifyStall
  rw [e.isSeekLeg_plain he]
  simp only [he.2, hc, hm, Bool.false_and, Bool.false_eq_true, if_false, false_and, true_and, State.nearLimits,
    Bool.or_eq_true, decide_eq_true_eq]
  split <;> rfl

/-- R73: the time limit of the one entry expires. -/
theorem State.timeLimitExpiry_entry {s : State} {e : MoveEntry} (he : s.entryOf e.axis = some e) (hs : e.state = .driving)
    (ht : e.timeLimit.isSome = true) : s.timeLimitExpiry e.axis =
      if e.axis.counted then (s.cutInto e.axis false (.decided .timeout)).conclude []
      else (s.cutEnding e.axis .timeout).conclude [] := by
  unfold State.timeLimitExpiry
  rw [he]
  exact if_pos ⟨hs, ht⟩

/-- R9: a mirror has no confidence to lose at a TIMEOUT. -/
theorem AxisUnit.takeOutcome_timeout_mirror {u : AxisUnit} {e : MoveEntry} (h : e.axis.counted = false) :
    u.takeOutcome e .timeout = u := by
  simp [AxisUnit.takeOutcome, h]

/-- The cause of an operation's move, but for a NORMALISE's. -/
theorem OpKind.cause_plain {k : OpKind} (h : k ≠ .normalise) : k.cause ≠ .normalise ∧ k.cause ≠ .backoff := by
  cases k <;> first | exact absurd rfl h | decide

/-- R12, R13, R70: the stall of a counted axis's one entry: it settles. -/
theorem State.stall_counted {s : State} {e : MoveEntry} {js : List JogRecord} (hm : s.moves = { entries := [e], jogs := js })
    (ho : s.ownedBy e js) (hs : e.state = .driving) (hd : (s.axis e.axis).driving = true)
    (ht : (s.axis e.axis).stallTimer.isSome = true) (hc : e.axis.counted = true) (hp : e.plainMove) {d : Disposition}
    (h : s.stallSettles e d) : s.stall e.axis =
      (s.setAxis e.axis { (s.axis e.axis).coasting with stallPos := (s.axis e.axis).position }).withMoves
        { entries := [e.settles d], jogs := js } := by
  let w : AxisUnit := { s.axis e.axis with stallPos := (s.axis e.axis).position }
  let t := s.setAxis e.axis w
  have htw : t.axis e.axis = w := State.axis_setAxis_same _ _ _
  have hclass : t.classifyStall e (s.axis e.axis).position = d := by
    have := State.classifyStall_counted (s := t) (d := d) hc hp (by rw [State.stallSettles, htw]; exact h)
    rwa [htw] at this
  rw [State.stall_entry (State.entryOf_one (k := 0) hm) ht hd]
  show (if e.axis.counted = true then (t.cutInto e.axis false (t.classifyStall e (s.axis e.axis).position)).conclude [] else _) = _
  rw [if_pos hc, hclass, State.cutInto_conclude (s := t) hm hs ho, htw, AxisUnit.cut_counted (u := w) hd hc, State.setAxis_setAxis]
  rfl

/-- R12, R13, R70: the stall of a mirror's one entry: it ends at the cut. -/
theorem State.stall_mirror {s : State} {e : MoveEntry} (he : s.entryOf e.axis = some e)
    (hd : (s.axis e.axis).driving = true) (ht : (s.axis e.axis).stallTimer.isSome = true) (hc : e.axis.mirror = true)
    (hp : e.plainMove) :
    let o : AxisOutcome := if (s.axis e.axis).position ≤ (s.mirrorLimits e.axis).lo + 8 ∨
      (s.mirrorLimits e.axis).hi - 8 ≤ (s.axis e.axis).position then .endStop else .obstructed
    s.stall e.axis = ((s.setAxis e.axis { s.axis e.axis with stallPos := (s.axis e.axis).position }).cutEnding e.axis o).conclude [] ∧
      o ≠ .aborted ∧ o ≠ .timeout := by
  intro o
  have hnc : ¬e.axis.counted = true := by rw [Axis.mirror_eq] at hc; simpa using hc
  let t := s.setAxis e.axis { s.axis e.axis with stallPos := (s.axis e.axis).position }
  have hclass : (t.classifyStall e (s.axis e.axis).position).outcome = o := State.classifyStall_mirror hc hp _
  refine ⟨?_, ?_, ?_⟩
  · rw [State.stall_entry he ht hd]
    show (if e.axis.counted = true then _ else (t.cutEnding e.axis (t.classifyStall e (s.axis e.axis).position).outcome).conclude []) = _
    rw [if_neg hnc, hclass]
  · simp only [o]; split <;> decide
  · simp only [o]; split <;> decide

/-- R15: OBSTRUCTED sets HALTED. -/
theorem AxisUnit.takeOutcome_halts (u : AxisUnit) (e : MoveEntry) {o : AxisOutcome} (ht : o ≠ .timeout) :
    u.takeOutcome e o = { u with halted := u.halted || o == .obstructed } := by
  unfold AxisUnit.takeOutcome
  rw [if_neg fun h => ht h.1]
  by_cases ho : o = .obstructed
  · rw [if_pos ho, ho]; simp
  · rw [if_neg ho, show (o == AxisOutcome.obstructed) = false by simpa using ho, Bool.or_false]

end Sys2Proof.Machine

namespace Sys2Proof

open Machine

/-- Settles O57: the interval's arithmetic, and the cut of an entry whose axis becomes HOT. -/
theorem intervalsCountAndHeat : Obligations.IntervalsCountAndHeat := by
  unfold Obligations.IntervalsCountAndHeat
  intro s a hs hf ht hp u ran base
  have hruns : s.intervalRuns a = true := by simp [State.intervalRuns, hf, ht, hp]
  refine ⟨fun hm => (exec_runTimeInterval hs a).trans (congrArg _ (if_pos ⟨hm, hruns⟩)), fun hc => ?_⟩
  intro heat hot
  have hstep : (s.axis a).stepHeat = { base with heat := heat, hot := hot } := u.stepHeat_eq
  refine ⟨fun h => ?_, fun e j hd hax hr h0 h1 => ?_, fun op e hone hcause hax hdr hdriving hr h0 h1 => ?_⟩
  · refine (exec_heatInterval hs a).trans (congrArg _ ?_)
    rw [State.heatInterval_cool hc hruns (h.imp_right fun h => by rw [hstep]; exact h), hstep]
  · subst hax
    obtain ⟨⟨hm, hact, hcl, hown, hcause, _⟩, hdr, hj, habort, hdriving⟩ := hd
    let w : AxisUnit := { base with heat := heat, hot := true }
    have hw : (s.axis e.axis).stepHeat = w := by rw [hstep, h1]
    have hheat := State.heatInterval_hot hc hruns h0 (by rw [hw]) hdriving
    rw [hw] at hheat
    let t := s.setAxis e.axis w
    have htw : t.axis e.axis = w := State.axis_setAxis_same _ _ _
    have hcut : t.cutEnding e.axis .hot =
        (s.setAxis e.axis w.coasting).withMoves { jogs := [j.ended .hot u.position], walksDue := 2 } := by
      rw [State.cutEnding_jog (s := t) hm hdr hown .hot nofun, htw, AxisUnit.cut_counted (u := w) hdriving hc,
        AxisUnit.takeOutcome_same _ _ (by decide) (by decide), JogRecord.takeReport_ended hcause habort (by decide),
        State.setAxis_setAxis]
    rw [hcut, State.modAxis_setAxis_withMoves] at hheat
    refine (exec_heatInterval hs _).trans (congrArg _ (hheat.trans ?_))
    exact State.conclude_ended (s := (s.setAxis e.axis _).withMoves _) (j := j.ended .hot u.position) rfl hj hact hcl
  · subst hax
    obtain ⟨hact, hcl, hm, hkind, hstage, hab, hout, hown⟩ := hone
    let w : AxisUnit := { base with heat := heat, hot := true }
    have hw : (s.axis e.axis).stepHeat = w := by rw [hstep, h1]
    have hheat := State.heatInterval_hot hc hruns h0 (by rw [hw]) hdriving
    rw [hw] at hheat
    let t := s.setAxis e.axis w
    have htw : t.axis e.axis = w := State.axis_setAxis_same _ _ _
    have hone' : t.oneEntry op e := ⟨hact, hcl, hm, hkind, hstage, hab, hout, hown⟩
    have hcut : t.cutEnding e.axis .hot = s.moveEnded op e w.coasting (op.listAfter e w.coasting .hot u.position) 2 := by
      rw [State.cutEnding_moveEnded hone' hdr .hot nofun, htw, AxisUnit.cut_counted (u := w) hdriving hc,
        AxisUnit.takeOutcome_same _ _ (by decide) (by decide)]
      exact State.moveEnded_setAxis ..
    rw [hcut, State.modAxis_moveEnded] at hheat
    exact State.goesOn ⟨hact, hcl, hm, hkind, hstage, hab, hout, hown⟩ hr
      ((exec_heatInterval hs _).trans (congrArg _ hheat))

/-- Settles O56: the stall by its classification, the time limit with TIMEOUT. -/
theorem stallAndTimeLimitEndTheDrive : Obligations.StallAndTimeLimitEndTheDrive := by
  unfold Obligations.StallAndTimeLimitEndTheDrive
  intro s a hs u lim settlesTo mirrorStall stalledMirror opDrives
  refine ⟨⟨fun h => ?_, fun e j hd hax ht hr => ?_, fun op e hop ht => ?_⟩, fun h => ?_, fun e j hd hax ht hr => ?_,
    fun op e hop ht => ?_⟩
  · refine (exec_stall hs a).trans (congrArg _ (if_neg ?_))
    rw [show (s.axis a).stallTimer = none from h]
    exact fun k => by cases k.1
  · subst hax
    obtain ⟨⟨hm, hact, hcl, hown, hcause, hjax⟩, hdr, hj, habort, hdriving⟩ := hd
    have hplain : e.plainMove := by rw [MoveEntry.plainMove, hcause]; decide
    refine ⟨fun hc d hd => (exec_stall hs _).trans (congrArg _ ?_), fun hmir => (exec_stall hs _).trans (congrArg _ ?_)⟩
    · exact State.stall_counted hm (State.ownedBy_jog ⟨hm, hact, hcl, hown, hcause, hjax⟩) hdr hdriving ht hc hplain hd
    · obtain ⟨hstall, hna, hnt⟩ := State.stall_mirror (State.entryOf_one (k := 0) hm) hdriving ht hmir hplain
      let w : AxisUnit := { s.axis e.axis with stallPos := (s.axis e.axis).position }
      have htw : (s.setAxis e.axis w).axis e.axis = w := State.axis_setAxis_same _ _ _
      have hnc : e.axis.counted = false := by rw [Axis.mirror_eq] at hmir; simpa using hmir
      have hone : (s.setAxis e.axis w).oneDrive e j :=
        ⟨⟨hm, hact, hcl, hown, hcause, hjax⟩, hdr, hj, habort, by rw [htw]; exact hdriving⟩
      rw [hstall, State.cutEnding_jog_concluded hone hna (by rw [hnc]; simp), htw,
        AxisUnit.cut_mirror (u := w) hdriving hnc, AxisUnit.takeOutcome_halts _ _ hnt, State.setAxis_setAxis]
      rfl
  · obtain ⟨hone, hcause, hax, hdr, hdriving, hr⟩ := hop
    subst hax
    obtain ⟨hact, hcl, hm, hkind, hstage, hab, hout, hown⟩ := hone
    have hplain : e.plainMove := by rw [MoveEntry.plainMove, hcause]; exact OpKind.cause_plain hkind
    refine ⟨fun hc d hd => (exec_stall hs _).trans (congrArg _ ?_), fun hmir => ?_⟩
    · exact State.stall_counted hm (State.ownedBy_op ⟨hact, hcl, hm, hkind, hstage, hab, hout, hown⟩) hdr hdriving ht hc hplain hd
    · obtain ⟨hstall, _, hnt⟩ := State.stall_mirror (State.entryOf_one (k := 0) hm) hdriving ht hmir hplain
      let w : AxisUnit := { s.axis e.axis with stallPos := (s.axis e.axis).position }
      have htw : (s.setAxis e.axis w).axis e.axis = w := State.axis_setAxis_same _ _ _
      have hnc : e.axis.counted = false := by rw [Axis.mirror_eq] at hmir; simpa using hmir
      have hone : (s.setAxis e.axis w).oneEntry op e := ⟨hact, hcl, hm, hkind, hstage, hab, hout, hown⟩
      refine State.goesOn ⟨hact, hcl, hm, hkind, hstage, hab, hout, hown⟩ hr (k := 2)
        ((exec_stall hs _).trans (congrArg _ (hstall.trans (congrArg (State.conclude · []) ?_))))
      rw [State.cutEnding_moveEnded hone hdr _ (by rw [hnc]; simp), htw, AxisUnit.cut_mirror (u := w) hdriving hnc,
        AxisUnit.takeOutcome_halts _ _ hnt, State.moveEnded_setAxis]
      rfl
  · refine (exec_timeLimitExpiry hs a).trans (congrArg _ ?_)
    unfold State.timeLimitExpiry
    cases he : s.entryOf a with
    | none => rfl
    | some e => exact if_neg fun k => h e he k.1
  · subst hax
    have hone := hd
    obtain ⟨⟨hm, hact, hcl, hown, hcause, hjax⟩, hdr, hj, habort, hdriving⟩ := hd
    have hexp := State.timeLimitExpiry_entry (State.entryOf_one (k := 0) hm) hdr ht
    refine ⟨fun hc => (exec_timeLimitExpiry hs _).trans (congrArg _ ?_), fun hmir => (exec_timeLimitExpiry hs _).trans
      (congrArg _ ?_)⟩
    · rw [hexp, if_pos hc, State.cutInto_conclude hm hdr (State.ownedBy_jog hone.1), AxisUnit.cut_counted hdriving hc]
    · have hnc : e.axis.counted = false := by rw [Axis.mirror_eq] at hmir; simpa using hmir
      rw [hexp, if_neg (by rw [hnc]; decide), State.cutEnding_jog_concluded (o := .timeout) hone (by decide) nofun,
        AxisUnit.cut_mirror hdriving hnc, AxisUnit.takeOutcome_timeout_mirror hnc]
  · obtain ⟨hone, hcause, hax, hdr, hdriving, hr⟩ := hop
    subst hax
    have hm : s.moves = { entries := [e] } := hone.2.2.1
    have hexp := State.timeLimitExpiry_entry (State.entryOf_one (js := []) (k := 0) hm) hdr ht
    refine ⟨fun hc => (exec_timeLimitExpiry hs _).trans (congrArg _ ?_), fun hmir => ?_⟩
    · rw [hexp, if_pos hc, State.cutInto_conclude hm hdr (State.ownedBy_op hone), AxisUnit.cut_counted hdriving hc]
    · have hnc : e.axis.counted = false := by rw [Axis.mirror_eq] at hmir; simpa using hmir
      refine State.goesOn hone hr (k := 2) ((exec_timeLimitExpiry hs _).trans (congrArg _ ?_))
      rw [hexp, if_neg (by rw [hnc]; decide), State.cutEnding_moveEnded hone hdr .timeout nofun, AxisUnit.cut_mirror hdriving hnc,
        AxisUnit.takeOutcome_timeout_mirror hnc]

end Sys2Proof
end

section
/-! PROOF. The Hall pulses and the mirror samples (01), under one jog or one operation. -/

namespace Sys2Proof.Machine

theorem exec_hallPulse {s : State} (h : s.powered = true) (a : Axis) : exec (.hallPulse a) s = .next (s.hallPulse a) :=
  congrArg Host.Outcome.next (if_pos h)

theorem exec_mirrorSample {s : State} (h : s.powered = true) (a : Axis) (raw : BitVec 10) :
    exec (.mirrorSample a raw) s = .next (s.mirrorSample a raw) := congrArg Host.Outcome.next (if_pos h)

theorem State.senses_iff (s : State) : s.senses = true ↔ s.power.state = .run ∨ s.power.state = .parking := by
  simp [State.senses]

/-! ## Pulses -/

/-- R6: the count saturates. -/
theorem stepCount_eq (x : Int) (d : Dir) : stepCount x d =
    max (-32768) (min 32767 (match d with | .up => x + 1 | .down => x - 1)) := by
  cases d <;> simp only [stepCount, clampInt] <;> split <;> (try split) <;> omega

theorem State.modActive_same {s : State} {f : Operation → Operation} (h : ∀ op, s.engine.active = some op → f op = op) :
    s.modActive f = s := by
  have hmap : s.engine.active.map f = s.engine.active := by
    cases ha : s.engine.active with
    | none => rfl
    | some op => exact congrArg some (h op ha)
  unfold State.modActive
  rw [hmap]

/-- R6: a counted pulse that does not reach a cut point, under no leg 1. -/
theorem State.hallPulse_counts {s : State} {a : Axis} (hc : a.counted = true) (hf : s.isFitted a = true)
    (hs : s.senses = true) (hleg : ∀ op, s.engine.active = some op → op.stage ≠ .leg1) {d : Dir}
    (hd : (s.axis a).countingDir = some d) (hp : ((s.axis a).countPulse d).atCutPoint = false) :
    s.hallPulse a = s.setAxis a ((s.axis a).countPulse d) := by
  have hsame : (s.modAxis a (·.countPulse d)).modActive (·.countLeg1 a) = s.setAxis a ((s.axis a).countPulse d) :=
    State.modActive_same fun op hop => if_neg fun h => hleg op hop h.1
  unfold State.hallPulse
  rw [if_pos ⟨hc, hf, hs⟩, hd]
  dsimp only
  rw [hsame, State.axis_setAxis_same, hp]
  rfl

/-- R16: the counted pulse at the cut point of one drive. -/
theorem State.hallPulse_cuts {s : State} {e : MoveEntry} {js : List JogRecord} (hm : s.moves = { entries := [e], jogs := js })
    (ho : s.ownedBy e js) (hs : e.state = .driving) (hc : e.axis.counted = true) (hf : s.isFitted e.axis = true)
    (hsense : s.senses = true) (ha : s.engine.active = none) {d : Dir} (hd : (s.axis e.axis).countingDir = some d)
    (hp : ((s.axis e.axis).countPulse d).atCutPoint = true) :
    s.hallPulse e.axis = (s.setAxis e.axis (((s.axis e.axis).countPulse d).cut e.axis true)).withMoves
      { entries := [e.settles .judge], jogs := js } := by
  let t := s.setAxis e.axis ((s.axis e.axis).countPulse d)
  have hsame : (s.modAxis e.axis (·.countPulse d)).modActive (·.countLeg1 e.axis) = t :=
    State.modActive_same fun op hop => by rw [show s.engine.active = some op from hop] at ha; cases ha
  have htw : t.axis e.axis = (s.axis e.axis).countPulse d := State.axis_setAxis_same _ _ _
  unfold State.hallPulse
  rw [if_pos ⟨hc, hf, hsense⟩, hd]
  dsimp only
  rw [hsame, htw, if_pos hp, State.cutInto_conclude (s := t) hm hs ho, htw, State.setAxis_setAxis]

/-- R7: a pulse while IDLE. -/
theorem State.strayPulse_effect (s : State) (a : Axis) : s.onlyIn (s.strayPulse a) [.ports, .axes] ∧
    (s.strayPulse a).axes = (s.setAxis a { s.axis a with
      confidence := if (s.axis a).confidence = .normalised then .suspect else (s.axis a).confidence
      strayRaised := true }).axes ∧
    s.gains (s.strayPulse a) (if (s.axis a).strayRaised then noEvents else eventAt [.vehicle, .panel] (.axisFault a .stray)) := by
  let t := s.setAxis a { s.axis a with
    confidence := if (s.axis a).confidence = .normalised then .suspect else (s.axis a).confidence
    strayRaised := true }
  have ht : s.onlyIn t [.axes] := s.onlyIn_setAxis _ _
  have hraise := t.raiseAt_only [.vehicle, .panel] (.axisFault a .stray)
  unfold State.strayPulse
  dsimp only
  by_cases h : (s.axis a).strayRaised = true
  · rw [if_pos h, if_pos h]
    exact ⟨ht.mono (by simp), rfl, State.gains_of_ports rfl⟩
  · rw [if_neg h, if_neg h]
    exact ⟨(ht.mono (by simp)).trans (hraise.mono (by simp)), hraise .axes (by simp), fun q => t.gains_raiseAt (by decide) _ q⟩

end Sys2Proof.Machine

namespace Sys2Proof

open Machine

/-- Settles O53: a pulse by the motion state, and the pulse at the cut point. -/
theorem hallPulseCounts : Obligations.HallPulseCounts := by
  unfold Obligations.HallPulseCounts
  intro s hs
  refine ⟨fun a hc => ?_, fun e j hr hone hc hf => ?_⟩
  · intro u counted sensed
    have hsense : sensed → s.isFitted a = true ∧ s.senses = true := fun h => ⟨h.1, s.senses_iff.mpr h.2⟩
    refine ⟨fun h => ?_, fun h hleg => ⟨fun hm hcut => ?_, fun hm hcut => ?_, fun hm => ?_⟩, fun h hm => ?_⟩
    · refine (exec_hallPulse hs a).trans (congrArg _ (if_neg fun k => h ⟨k.2.1, s.senses_iff.mp k.2.2⟩))
    · obtain ⟨hf, hsen⟩ := hsense h
      have hdir : u.countingDir = some .up := by rw [AxisUnit.countingDir, hm]
      have hdriving : u.driving = true := by simp [AxisUnit.driving, hm]
      have hpoint : (u.countPulse .up).atCutPoint = false := by
        simp only [AxisUnit.atCutPoint, AxisUnit.countPulse, stepCount_eq, Bool.and_eq_false_iff, beq_eq_false_iff_ne]
        exact .inr hcut
      refine (exec_hallPulse hs a).trans (congrArg _ ((State.hallPulse_counts hc hf hsen hleg hdir hpoint).trans ?_))
      simp only [AxisUnit.countPulse, stepCount_eq]
      rw [show (s.axis a).driving = true from hdriving]
      rfl
    · obtain ⟨hf, hsen⟩ := hsense h
      have hdir : u.countingDir = some .down := by rw [AxisUnit.countingDir, hm]
      have hdriving : u.driving = true := by simp [AxisUnit.driving, hm]
      have hpoint : (u.countPulse .down).atCutPoint = false := by
        simp only [AxisUnit.atCutPoint, AxisUnit.countPulse, stepCount_eq, Bool.and_eq_false_iff, beq_eq_false_iff_ne]
        exact .inr hcut
      refine (exec_hallPulse hs a).trans (congrArg _ ((State.hallPulse_counts hc hf hsen hleg hdir hpoint).trans ?_))
      simp only [AxisUnit.countPulse, stepCount_eq]
      rw [show (s.axis a).driving = true from hdriving]
      rfl
    · obtain ⟨hf, hsen⟩ := hsense h
      have hdir : u.countingDir = some u.lastDir := by rw [AxisUnit.countingDir, hm]
      have hstill : u.driving = false := by simp [AxisUnit.driving, hm]
      have hpoint : (u.countPulse u.lastDir).atCutPoint = false := by
        have : (u.countPulse u.lastDir).driving = false := hstill
        simp [AxisUnit.atCutPoint, this]
      refine (exec_hallPulse hs a).trans (congrArg _ ((State.hallPulse_counts hc hf hsen hleg hdir hpoint).trans ?_))
      simp only [AxisUnit.countPulse, stepCount_eq]
      rw [show (s.axis a).driving = false from hstill]
      rfl
    · obtain ⟨hf, hsen⟩ := hsense h
      have hdir : u.countingDir = none := by rw [AxisUnit.countingDir, hm]
      have hstray : s.hallPulse a = s.strayPulse a := by
        unfold State.hallPulse
        rw [if_pos ⟨hc, hf, hsen⟩, hdir]
      obtain ⟨honly, haxes, hgains⟩ := s.strayPulse_effect a
      exact ⟨s.strayPulse a, (exec_hallPulse hs a).trans (congrArg _ hstray), honly,
        (State.axis_congr haxes a).trans (State.axis_setAxis_same _ _ _),
        fun b hb => (State.axis_congr haxes b).trans (State.axis_setAxis_other _ _ hb), hgains⟩
  · intro u x hcut
    obtain ⟨⟨hm, hact, hcl, hown, hcause, hjax⟩, hdr, _, _, hdriving⟩ := hone
    obtain ⟨d, hdir, hx⟩ : ∃ d, u.countingDir = some d ∧ stepCount u.position d = x := by
      have hmotion : u.motion = .drivingUp ∨ u.motion = .drivingDown := by simpa [AxisUnit.driving] using hdriving
      rcases hmotion with h | h
      · exact ⟨.up, by rw [AxisUnit.countingDir, h], by rw [stepCount_eq]; simp only [x]; rw [if_pos h]⟩
      · exact ⟨.down, by rw [AxisUnit.countingDir, h], by rw [stepCount_eq]; simp only [x]; rw [if_neg (by rw [h]; decide)]⟩
    have hcount : u.countPulse d = { u with position := x, travel := u.travel + 1, stallTimer := some 200 } := by
      unfold AxisUnit.countPulse
      rw [hx, if_pos hdriving]
    have hpoint : (u.countPulse d).atCutPoint = true := by
      have : (u.countPulse d).driving = true := hdriving
      rw [AxisUnit.atCutPoint, this, hcount]
      simpa using hcut
    have hpulse := State.hallPulse_cuts hm (State.ownedBy_jog ⟨hm, hact, hcl, hown, hcause, hjax⟩) hdr hc hf
      (s.senses_iff.mpr (.inl hr)) hact hdir hpoint
    obtain ⟨haxis, hother⟩ := s.setAxis_frame e.axis ((u.countPulse d).cut e.axis true)
    refine ⟨_, (exec_hallPulse hs _).trans (congrArg _ hpulse), ?_, rfl, haxis.trans ?_, hother⟩
    · exact ((s.onlyIn_setAxis _ _).mono (by simp)).trans ((State.onlyIn_withMoves _ _).mono (by simp))
    · have hdrive : (u.countPulse d).driving = true := hdriving
      unfold AxisUnit.cut
      rw [if_pos hdrive, if_pos hc, hcount]

end Sys2Proof
end

section
/-! PROOF. The mirror samples (01, sections 1.5 to 1.7), and the judgement of an arrival (R18, R19). -/

namespace Sys2Proof.Machine

/-! ## Endings and judgement, the unit being as given -/

/-- R78: the one jog's entry ends, its axis's unit being as given. -/
theorem State.finishEntry_jogAt (s : State) {e : MoveEntry} {j : JogRecord} (v : AxisUnit) (k : Nat) (ho : e.owner = .jog j.id)
    (o : AxisOutcome) (x : Int) (hp : ¬(o = .obstructed ∧ e.axis.counted = true ∧ e.noBackoff = false)) :
    ((s.setAxis e.axis v).withMoves { entries := [e], jogs := [j], walksDue := k }).finishEntry e o x =
      (s.setAxis e.axis (v.takeOutcome e o)).withMoves { jogs := [j.takeReport e o x], walksDue := k + 1 } := by
  rw [State.finishEntry_jog (s := (s.setAxis e.axis v).withMoves _) rfl rfl ho o x hp]
  show ((s.setAxis e.axis v).setAxis e.axis (((s.setAxis e.axis v).axis e.axis).takeOutcome e o)).withMoves _ = _
  rw [State.setAxis_setAxis, State.axis_setAxis_same]

/-- R132: the one move of the active operation ends, its axis's unit being as given. -/
theorem State.finishEntry_opAt {s : State} {op : Operation} {e : MoveEntry} (h : s.oneEntry op e) (v : AxisUnit) (k : Nat)
    (o : AxisOutcome) (x : Int) (hp : ¬(o = .obstructed ∧ e.axis.counted = true ∧ e.noBackoff = false)) :
    ((s.setAxis e.axis v).withMoves { entries := [e], walksDue := k }).finishEntry e o x =
      s.moveEnded op e (v.takeOutcome e o) (op.listAfter e (v.takeOutcome e o) o x) (k + 1) := by
  obtain ⟨ha, hc, _, _, hstage, _, _, ho⟩ := h
  have hfin := State.finishEntry_op (s := (s.setAxis e.axis v).withMoves { entries := [e], walksDue := k }) (f := e) rfl rfl ha
    hc ho o x hp
  have haxis : ((s.setAxis e.axis v).withMoves { entries := [e], walksDue := k }).axis e.axis = v := State.axis_setAxis_same _ _ _
  rw [haxis] at hfin
  rw [hfin, Operation.takeReport_eq hstage]
  show (((s.setAxis e.axis v).setAxis e.axis (v.takeOutcome e o)).withMoves _).withActive _ = _
  rw [State.setAxis_setAxis]
  rfl

section Judge

variable {s : State} {e : MoveEntry} {g : Int} (hk : e.kind = .target g)

include hk

theorem State.judge_reached (h : ((s.axis e.axis).position - g).natAbs ≤ deadband e.axis) :
    s.judge e = s.finishEntry e .reached (s.axis e.axis).position := by
  unfold State.judge
  dsimp only
  rw [hk]
  exact if_pos h

theorem State.judge_offTarget (h : deadband e.axis < ((s.axis e.axis).position - g).natAbs) (hc : e.correctionUsed = true) :
    s.judge e = s.finishEntry e .offTarget (s.axis e.axis).position := by
  unfold State.judge
  dsimp only
  rw [hk, if_neg (by dsimp only; omega), if_pos hc]

theorem State.judge_corrects (h : deadband e.axis < ((s.axis e.axis).position - g).natAbs) (hc : e.correctionUsed = false) :
    s.judge e = s.returnToWaiting { e with correctionUsed := true } := by
  unfold State.judge
  dsimp only
  rw [hk, if_neg (by dsimp only; omega), if_neg (by rw [hc]; decide)]

end Judge

/-- R63: the one entry, as given, returns to WAITING. -/
theorem State.returnToWaiting_one {s : State} {e f : MoveEntry} {js : List JogRecord} {k : Nat}
    (hm : s.moves = { entries := [e], jogs := js, walksDue := k }) (hf : f.axis = e.axis) (hh : (s.axis f.axis).hot = false) :
    s.returnToWaiting f = s.withMoves
      { entries := [{ f with state := .waiting, timeLimit := none, disposition := none }], jogs := js, walksDue := k + 1 } := by
  unfold State.returnToWaiting
  rw [if_neg (by rw [hh]; decide), State.setEntry_one hm (f := { f with state := .waiting, timeLimit := none, disposition := none }) hf]
  rfl

/-! ## Samples -/

theorem outOfRange_iff (raw : BitVec 10) : outOfRange raw = true ↔ ¬(8 ≤ raw.toNat ∧ raw.toNat ≤ 1015) := by
  simp only [outOfRange, Bool.or_eq_true, decide_eq_true_eq]
  omega

/-- R28: a mirror's time limits count 10 ms for each count. -/
theorem State.msPerCount_mirror (s : State) {a : Axis} (h : a.counted = false) : s.msPerCount a = 10 := by
  unfold State.msPerCount; rw [h]; rfl

/-- R10: the unit after a sample of a driving mirror. -/
theorem AxisUnit.takeSample_driving {u : AxisUnit} (h : u.driving = true) (raw : BitVec 10) : u.takeSample raw =
    { u with
      position := raw.toNat, travel := u.travel + BitVec.ofNat 32 ((raw.toNat : Int) - u.position).natAbs
      cutSampleDue := false } := by
  unfold AxisUnit.takeSample
  rw [if_pos (.inl h)]

/-- R10: the unit after a sample of a mirror that does not drive. -/
theorem AxisUnit.takeSample_still {u : AxisUnit} (h : u.driving = false) (raw : BitVec 10) : u.takeSample raw =
    { u with
      position := raw.toNat, cutSampleDue := false
      travel := if u.cutSampleDue then u.travel + BitVec.ofNat 32 ((raw.toNat : Int) - u.position).natAbs else u.travel } := by
  unfold AxisUnit.takeSample
  simp only [h, Bool.false_eq_true, false_or]

/-- R19: a mirror that drives arrives by the direction of its drive. -/
theorem AxisUnit.arrived_iff {u : AxisUnit} (h : u.lastDir = if u.motion = .drivingUp then Dir.up else .down) (g : Int) :
    u.arrived g = true ↔ if u.motion = .drivingUp then g ≤ u.position else u.position ≤ g := by
  unfold AxisUnit.arrived
  rw [h]
  by_cases hm : u.motion = .drivingUp
  · rw [if_pos hm, if_pos hm]; exact decide_eq_true_iff
  · rw [if_neg hm, if_neg hm]; exact decide_eq_true_iff

theorem outOfRange_good {raw : BitVec 10} (h : 8 ≤ raw.toNat ∧ raw.toNat ≤ 1015) : outOfRange raw = false := by
  cases ho : outOfRange raw with
  | false => rfl
  | true => exact absurd h ((outOfRange_iff raw).mp ho)

section Samples

variable {s : State} {a : Axis} {raw : BitVec 10} (hm : a.mirror = true) (hf : s.isFitted a = true) (hs : s.senses = true)

include hm hf hs

theorem State.mirrorSample_sensed : s.mirrorSample a raw =
    let t := s.setAxis a ((s.axis a).takeSample raw)
    if outOfRange raw then (if (s.axis a).sensorFault then t else t.setFault a)
    else if (s.axis a).driving then t.driveSample a
    else t.modAxis a fun u => { u with sensorFault := false } := if_pos ⟨hm, hf, hs⟩

/-- R10: an out-of-range sample with SENSOR_FAULT set already. -/
theorem State.mirrorSample_faulty (ho : outOfRange raw = true) (h : (s.axis a).sensorFault = true) :
    s.mirrorSample a raw = s.setAxis a ((s.axis a).takeSample raw) := by
  rw [State.mirrorSample_sensed hm hf hs]
  dsimp only
  rw [if_pos ho, if_pos h]

/-- R11: an out-of-range sample that sets SENSOR_FAULT. -/
theorem State.mirrorSample_faults (ho : outOfRange raw = true) (h : (s.axis a).sensorFault = false) :
    let v : AxisUnit := { (s.axis a).takeSample raw with sensorFault := true }
    let t := (s.setAxis a v).raiseAt [.vehicle, .panel] (.axisFault a .sensor)
    s.mirrorSample a raw = if (s.axis a).driving then (t.cutEnding a .sensor).conclude [] else t := by
  intro v t
  have hset : (s.setAxis a ((s.axis a).takeSample raw)).modAxis a (fun u => { u with sensorFault := true }) = s.setAxis a v := by
    show (s.setAxis a _).setAxis a { (s.setAxis a ((s.axis a).takeSample raw)).axis a with sensorFault := true } = _
    rw [State.axis_setAxis_same, State.setAxis_setAxis]
  have hta : t.axis a = v := (State.axis_congr (State.raiseAt_only _ _ _ .axes (by simp)) a).trans (State.axis_setAxis_same _ _ _)
  have hdrive : (t.axis a).driving = (s.axis a).driving := by rw [hta]; rfl
  rw [State.mirrorSample_sensed hm hf hs]
  dsimp only
  rw [if_pos ho, if_neg (by rw [h]; decide)]
  unfold State.setFault
  rw [hset]
  show (if (t.axis a).driving = true then _ else _) = _
  rw [hdrive]

/-- R10: an in-range sample of a mirror that does not drive. -/
theorem State.mirrorSample_still (ho : outOfRange raw = false) (h : (s.axis a).driving = false) :
    s.mirrorSample a raw = s.setAxis a { (s.axis a).takeSample raw with sensorFault := false } := by
  rw [State.mirrorSample_sensed hm hf hs]
  dsimp only
  rw [if_neg (by rw [ho]; decide), if_neg (by rw [h]; decide)]
  show (s.setAxis a _).setAxis a { (s.setAxis a ((s.axis a).takeSample raw)).axis a with sensorFault := false } = _
  rw [State.axis_setAxis_same, State.setAxis_setAxis]

/-- R12, R19: an in-range sample of a mirror that drives towards a target. -/
theorem State.mirrorSample_drives (ho : outOfRange raw = false) (h : (s.axis a).driving = true) {e : MoveEntry} {g : Int}
    (he : s.entryOf a = some e) (hk : e.kind = .target g) (hd : e.state = .driving) :
    let v := (s.axis a).takeSample raw
    s.mirrorSample a raw = if v.arrived g then (s.setAxis a v).mirrorArrival e else s.setAxis a v.stallProgress := by
  intro v
  have hset : (s.setAxis a v).modAxis a (·.stallProgress) = s.setAxis a v.stallProgress := by
    show (s.setAxis a v).setAxis a ((s.setAxis a v).axis a).stallProgress = _
    rw [State.axis_setAxis_same, State.setAxis_setAxis]
  rw [State.mirrorSample_sensed hm hf hs]
  dsimp only
  rw [if_neg (by rw [ho]; decide), if_pos h]
  unfold State.driveSample
  rw [State.entryOf_setAxis, he]
  dsimp only
  rw [hk]
  dsimp only
  rw [State.axis_setAxis_same, hset, hd]
  simp only [true_and]
  rfl

end Samples

/-- R19: the arrival of the one entry's mirror, up to its judgement. -/
theorem State.mirrorArrival_one {s : State} {e : MoveEntry} {js : List JogRecord} {v : AxisUnit}
    (hm : s.moves = { entries := [e], jogs := js }) (hc : e.axis.counted = false) (hd : v.driving = true) :
    (s.setAxis e.axis v).mirrorArrival e =
      (((s.setAxis e.axis v.stopped).withMoves { entries := [e], jogs := js, walksDue := 1 }).judge e).conclude [] := by
  have hcut : ((s.setAxis e.axis v).cutMotor e.axis false).askWalk =
      (s.setAxis e.axis v.stopped).withMoves { entries := [e], jogs := js, walksDue := 1 } := by
    show ((s.setAxis e.axis v).setAxis e.axis (((s.setAxis e.axis v).axis e.axis).cut e.axis false)).withMoves
      { s.moves with walksDue := s.moves.walksDue + 1 } = _
    rw [State.axis_setAxis_same, State.setAxis_setAxis, AxisUnit.cut_mirror hd hc, hm]
  unfold State.mirrorArrival
  rw [hcut]

end Sys2Proof.Machine

namespace Sys2Proof

open Machine

/-- Settles O54: a sample by whether its mirror drives, is in range and has arrived. -/
theorem mirrorSampleJudged : Obligations.MirrorSampleJudged := by
  unfold Obligations.MirrorSampleJudged
  intro s a raw hs hmir u sensed good x moved
  have hnc : a.counted = false := by rw [Axis.mirror_eq] at hmir; simpa using hmir
  refine ⟨fun h => ?_, fun h hstill => ?_, fun e j g hone hax hk hf hr hfault hdir => ?_, fun op e g hone hcause hax hk hdr
    hdriving hf hr hfault hdir hgood => ?_⟩
  · refine (exec_mirrorSample hs a raw).trans (congrArg _ (if_neg fun k => h ⟨k.2.1, s.senses_iff.mp k.2.2⟩))
  · obtain ⟨hf, hp⟩ := h
    have hsen := s.senses_iff.mpr hp
    have htake := AxisUnit.takeSample_still hstill raw
    have leaves : ∀ v : AxisUnit, s.mirrorSample a raw = s.setAxis a v → (¬good → u.sensorFault = true) →
        v = { u with position := x, cutSampleDue := false, sensorFault := decide (¬good)
                     travel := if u.cutSampleDue then u.travel + moved else u.travel } →
        ∃ t, exec (.mirrorSample a raw) s = .next t ∧ s.onlyIn t [.ports, .axes] ∧ (∀ b, b ≠ a → t.axis b = s.axis b) ∧
          t.axis a = { u with position := x, cutSampleDue := false, sensorFault := decide (¬good)
                              travel := if u.cutSampleDue then u.travel + moved else u.travel } ∧
          s.gains t (if ¬good ∧ u.sensorFault = false then eventAt [.vehicle, .panel] (.axisFault a .sensor) else noEvents) := by
      intro v hv hfaulty heq
      obtain ⟨haxis, hother⟩ := s.setAxis_frame a v
      refine ⟨_, (exec_mirrorSample hs a raw).trans (congrArg _ hv), (s.onlyIn_setAxis a v).mono (by simp), hother,
        haxis.trans heq, ?_⟩
      rw [if_neg fun k => by rw [hfaulty k.1] at k; exact absurd k.2 (by decide)]
      exact State.gains_of_ports rfl
    by_cases hgood : good
    · have hin : outOfRange raw = false := outOfRange_good hgood
      refine leaves _ (State.mirrorSample_still hmir hf hsen hin hstill) (fun k => absurd hgood k) ?_
      rw [htake, decide_eq_false (not_not_intro hgood)]
    · have ho := (outOfRange_iff raw).mpr hgood
      by_cases hfault : u.sensorFault = true
      · refine leaves _ (State.mirrorSample_faulty hmir hf hsen ho hfault) (fun _ => hfault) ?_
        rw [htake, decide_eq_true hgood, ← hfault]
      · have hfault : u.sensorFault = false := by simpa using hfault
        have hsample := (State.mirrorSample_faults hmir hf hsen ho hfault).trans
          (if_neg (show ¬u.driving = true by rw [hstill]; decide))
        rw [htake] at hsample
        let v : AxisUnit := { u with
          position := x, cutSampleDue := false, sensorFault := true
          travel := if u.cutSampleDue then u.travel + moved else u.travel }
        obtain ⟨haxis, hother⟩ := s.setAxis_frame a v
        have hraise := (s.setAxis a v).raiseAt_only [.vehicle, .panel] (.axisFault a .sensor)
        have haxes := State.axis_congr (hraise .axes (by simp))
        refine ⟨_, (exec_mirrorSample hs a raw).trans (congrArg _ hsample),
          ((s.onlyIn_setAxis a v).mono (by simp)).trans (hraise.mono (by simp)), fun b hb => (haxes b).trans (hother b hb),
          (haxes a).trans (haxis.trans ?_), ?_⟩
        · rw [decide_eq_true hgood]
        · have htold : (if ¬good ∧ u.sensorFault = false then eventAt [.vehicle, .panel] (.axisFault a .sensor) else noEvents) =
              eventAt [.vehicle, .panel] (.axisFault a .sensor) := if_pos ⟨hgood, hfault⟩
          rw [htold]
          exact (s.setAxis a v).gains_raiseAt (by decide) (.axisFault a .sensor)
  · subst hax
    have hone' := hone
    obtain ⟨⟨hm, hact, hcl, hown, hcause, hjax⟩, hdr, hj, habort, hdriving⟩ := hone
    have hsen := s.senses_iff.mpr (.inl hr)
    have htake := AxisUnit.takeSample_driving hdriving raw
    intro v arrived
    have hvdriving : v.driving = true := hdriving
    have hentry := State.entryOf_one (k := 0) hm
    have hvlast : v.arrived g = true ↔ arrived := AxisUnit.arrived_iff (u := v) hdir g
    have hin : good → outOfRange raw = false := outOfRange_good
    have hdrives : good → s.mirrorSample e.axis raw =
        if v.arrived g then (s.setAxis e.axis v).mirrorArrival e else s.setAxis e.axis v.stallProgress := fun h => by
      have := State.mirrorSample_drives hmir hf hsen (hin h) hdriving hentry hk hdr
      rw [htake] at this
      exact this
    refine ⟨fun hbad => ?_, fun hgood hnot => ?_, fun hgood harr => ?_⟩
    · let w : AxisUnit := { v with sensorFault := true }
      let t := (s.setAxis e.axis w).raiseAt [.vehicle, .panel] (.axisFault e.axis .sensor)
      have hraise : (s.setAxis e.axis w).onlyIn t [.ports] := State.raiseAt_only _ _ _
      have htw : t.axis e.axis = w := (State.axis_congr (hraise .axes (by simp)) e.axis).trans (State.axis_setAxis_same _ _ _)
      have hsample := (State.mirrorSample_faults hmir hf hsen ((outOfRange_iff raw).mpr hbad) hfault).trans (if_pos hdriving)
      rw [htake] at hsample
      have htone : t.oneDrive e j := by
        refine ⟨⟨(hraise .moves (by simp)).trans hm, ?_, ?_, hown, hcause, hjax⟩, hdr, hj, habort, by rw [htw]; exact hdriving⟩
        · rw [show t.engine = s.engine from hraise .engine (by simp)]; exact hact
        · rw [show t.engine = s.engine from hraise .engine (by simp)]; exact hcl
      have hend := State.cutEnding_jog_concluded (o := .sensor) htone (by decide) nofun
      rw [htw, AxisUnit.cut_mirror (u := w) hdriving hnc, AxisUnit.takeOutcome_same _ _ (by decide) (by decide)] at hend
      obtain ⟨haxis, hother⟩ := t.setAxis_frame e.axis w.stopped
      refine ⟨_, (exec_mirrorSample hs _ raw).trans (congrArg _ (hsample.trans hend)), ?_, haxis, fun b hb => ?_, rfl, ?_⟩
      · exact ((s.onlyIn_setAxis _ w).mono (by simp)).trans ((hraise.mono (by simp)).trans
          (((t.onlyIn_setAxis _ _).mono (by simp)).trans ((State.onlyIn_withMoves _ _).mono (by simp))))
      · exact (hother b hb).trans ((State.axis_congr (hraise .axes (by simp)) b).trans (State.axis_setAxis_other _ _ hb))
      · exact (s.setAxis e.axis w).gains_raiseAt (by decide) (.axisFault e.axis .sensor)
    · have hpass := (hdrives hgood).trans (if_neg (mt hvlast.mp hnot))
      exact (exec_mirrorSample hs _ raw).trans (congrArg _ hpass)
    · have harrive := (hdrives hgood).trans ((if_pos (hvlast.mpr harr)).trans (State.mirrorArrival_one hm hnc hvdriving))
      let t := (s.setAxis e.axis v.stopped).withMoves { entries := [e], jogs := [j], walksDue := 1 }
      have htx : (t.axis e.axis).position = x := congrArg AxisUnit.position (State.axis_setAxis_same s e.axis v.stopped)
      have hband : deadband e.axis = 3 := by rw [deadband, hnc]; rfl
      refine ⟨fun hnear => ?_, fun hfar hcorr => ?_, fun hfar hcorr hcold hbud => ?_⟩
      · have hjudge : t.judge e = t.finishEntry e .reached x := by
          rw [State.judge_reached hk (by rw [htx, hband]; exact hnear), htx]
        refine (exec_mirrorSample hs _ raw).trans (congrArg _ (harrive.trans ?_))
        rw [show State.judge _ e = _ from hjudge, State.finishEntry_jogAt s v.stopped 1 hown .reached x nofun,
          AxisUnit.takeOutcome_same _ _ (by decide) (by decide), JogRecord.takeReport_ended hcause habort (by decide)]
        exact State.conclude_ended (s := (s.setAxis e.axis _).withMoves _) rfl hj hact hcl
      · have hjudge : t.judge e = t.finishEntry e .offTarget x := by
          rw [State.judge_offTarget hk (by rw [htx, hband]; exact hfar) hcorr, htx]
        refine (exec_mirrorSample hs _ raw).trans (congrArg _ (harrive.trans ?_))
        rw [show State.judge _ e = _ from hjudge, State.finishEntry_jogAt s v.stopped 1 hown .offTarget x nofun,
          AxisUnit.takeOutcome_same _ _ (by decide) (by decide), JogRecord.takeReport_ended hcause habort (by decide)]
        exact State.conclude_ended (s := (s.setAxis e.axis _).withMoves _) rfl hj hact hcl
      · have hjudge : t.judge e = t.returnToWaiting { e with correctionUsed := true } :=
          State.judge_corrects hk (by rw [htx, hband]; exact hfar) hcorr
        have htv : t.axis e.axis = v.stopped := State.axis_setAxis_same _ _ _
        let f : MoveEntry := { e with correctionUsed := true, state := .waiting, timeLimit := none, disposition := none }
        have hreturn : t.returnToWaiting { e with correctionUsed := true } =
            t.withMoves { entries := [f], jogs := [j], walksDue := 2 } :=
          State.returnToWaiting_one (e := e) (f := { e with correctionUsed := true }) rfl rfl (by
            show (t.axis e.axis).hot = false
            rw [htv]; exact hcold)
        refine (exec_mirrorSample hs _ raw).trans (congrArg _ (harrive.trans ?_))
        rw [show State.judge _ e = _ from hjudge, hreturn]
        let r := t.withMoves { entries := [f], jogs := [j], walksDue := 2 }
        have hrv : r.axis f.axis = v.stopped := htv
        have hwaits : r.OneWaits f [j] [] :=
          ⟨⟨1, rfl⟩, rfl, hr, by rw [hrv]; rfl, by rw [hrv]; exact hcold, List.not_mem_nil⟩
        have hconc := hwaits.conclude_jog (g := g) hown hact hcl hbud hk (fun _ => by rw [hrv]; exact hfault)
          (by rw [hrv, show deadband f.axis = 3 from hband]; exact hfar)
        rw [hrv] at hconc
        refine hconc.trans ?_
        have hms : r.msPerCount f.axis = 10 := State.msPerCount_mirror _ hnc
        have hlimit : 1000 + 2 * (g - v.stopped.position).natAbs * 10 = 1000 + 20 * (g - x).natAbs := by
          show 1000 + 2 * (g - x).natAbs * 10 = _
          omega
        rw [hms, hlimit]
        show ((s.setAxis e.axis v.stopped).setAxis e.axis (v.stopped.drivenTo e.axis g true)).withMoves _ = _
        rw [State.setAxis_setAxis, hdr]
        rfl
  · subst hax
    have hsen := s.senses_iff.mpr (.inl hr)
    have htake := AxisUnit.takeSample_driving hdriving raw
    intro harr v
    have hm := hone.2.2.1
    have hdrives := State.mirrorSample_drives hmir hf hsen (outOfRange_good hgood) hdriving
      (State.entryOf_one (js := []) (k := 0) hm) hk hdr
    rw [htake] at hdrives
    have harrive := hdrives.trans ((if_pos ((AxisUnit.arrived_iff (u := v) hdir g).mpr harr)).trans
      (State.mirrorArrival_one hm hnc hdriving))
    let t := (s.setAxis e.axis v.stopped).withMoves { entries := [e], walksDue := 1 }
    have htx : (t.axis e.axis).position = x := congrArg AxisUnit.position (State.axis_setAxis_same s e.axis v.stopped)
    have hband : deadband e.axis = 3 := by rw [deadband, hnc]; rfl
    refine ⟨fun hnear => ?_, fun hfar hcorr => ?_⟩
    · have hjudge : t.judge e = t.finishEntry e .reached x := by
        rw [State.judge_reached hk (by rw [htx, hband]; exact hnear), htx]
      refine State.goesOn (k := 2) hone hr ((exec_mirrorSample hs _ raw).trans (congrArg _ (harrive.trans ?_)))
      rw [show State.judge _ e = _ from hjudge, State.finishEntry_opAt hone v.stopped 1 .reached x nofun,
        AxisUnit.takeOutcome_same _ _ (by decide) (by decide)]
    · have hjudge : t.judge e = t.finishEntry e .offTarget x := by
        rw [State.judge_offTarget hk (by rw [htx, hband]; exact hfar) hcorr, htx]
      refine State.goesOn (k := 2) hone hr ((exec_mirrorSample hs _ raw).trans (congrArg _ (harrive.trans ?_)))
      rw [show State.judge _ e = _ from hjudge, State.finishEntry_opAt hone v.stopped 1 .offTarget x nofun,
        AxisUnit.takeOutcome_same _ _ (by decide) (by decide)]

end Sys2Proof
end

section
/-! PROOF. The coast end (01, 04): what settles on the axis is judged, ends or returns to WAITING; a jog's record closes. -/

namespace Sys2Proof.Machine

/-! ## A jog record closes -/

/-- R82: the abort cause of a jog's history record. -/
def JogRecord.stopCause (j : JogRecord) (o : AxisOutcome) : Option AbortCause :=
  if o = .aborted ∧ j.abortSource = some .stopAll then some .stop else none

theorem JogRecord.result_eq {j : JogRecord} {o : AxisOutcome} (h : j.outcome = some o) :
    j.result = (jogResult o, j.stopCause o) := by
  unfold JogRecord.result JogRecord.stopCause jogResult
  rw [h]
  cases o with
  | aborted =>
    cases ha : j.abortSource with
    | none => rfl
    | some c => cases c <;> rfl
  | _ => rfl

/-- R82: a CLOSING record without an entry closes with its outcome. -/
theorem State.conclude_jogClosed {s : State} {j : JogRecord} {k : Nat} (hm : s.moves = { jogs := [j], walksDue := k })
    (hcl : j.closing = true) (hb : j.backoff = false) (ha : s.engine.active = none) (hc : s.engine.closing = [])
    {o : AxisOutcome} {y : Int} (ho : j.outcome = some o) (hy : j.final = some y) (ex : List Axis) :
    s.conclude ex = s.jogClosed j o y (j.stopCause o) := by
  have hhist : j.history = { tag := 0, cause := .jog, port := .panel, result := jogResult o, abortCause := j.stopCause o
                             entries := [⟨j.axis, j.from_, y, o⟩] } := by
    unfold JogRecord.history
    rw [j.result_eq ho, ho, hy]
    rfl
  rw [State.conclude_closeJog (by rw [hm]) (by rw [hm]) (by rw [hm]) hcl hb ha hc]
  unfold State.closeJog State.jogClosed State.writeHistory
  rw [hhist]
  simp [hm, State.withDue]

/-! ## The coast end -/

theorem exec_coastEnd {s : State} (h : s.powered = true) (a : Axis) : exec (.coastEnd a) s = .next (s.coastEnd a) :=
  congrArg Host.Outcome.next (if_pos h)

theorem State.coastEnd_eq {s : State} {a : Axis} (ht : (s.axis a).coastTimer.isSome = true) (hm : (s.axis a).motion = .coasting) :
    s.coastEnd a = ((((s.setAxis a (s.axis a).rested).askWalk).resolveAxis a).conclude []).coastWaitOver := by
  unfold State.coastEnd
  rw [if_pos ⟨ht, hm⟩]
  show ((((s.setAxis a (s.axis a).endCoast).askWalk).resolveAxis a).conclude []).coastWaitOver = _
  rw [AxisUnit.endCoast_rested]

/-- R168: no snapshot waits for the coast ends. -/
theorem State.coastWaitOver_off {s : State} (h : s.power.coastWait = false) : s.coastWaitOver = s :=
  if_neg (by rw [h]; exact fun k => by cases k.1)

theorem State.conclude_power (s : State) (ex : List Axis) : (s.conclude ex).power = s.power :=
  (undisturbed.conclude s ex).power

/-- R71: the coast end under the one entry of the list, which settles. -/
theorem State.coastEnd_settling {s : State} {e : MoveEntry} {js : List JogRecord} (hm : s.moves = { entries := [e], jogs := js })
    (ht : (s.axis e.axis).coastTimer.isSome = true) (hmo : (s.axis e.axis).motion = .coasting)
    (hw : s.power.coastWait = false) (hs : e.state = .settling) :
    let t := (s.setAxis e.axis (s.axis e.axis).rested).withMoves { entries := [e], jogs := js, walksDue := 1 }
    (t.resolve e).power = t.power → s.coastEnd e.axis = (t.resolve e).conclude [] := by
  intro t hpow
  have hask : (s.setAxis e.axis (s.axis e.axis).rested).askWalk = t := by
    show (s.setAxis e.axis (s.axis e.axis).rested).withMoves { s.moves with walksDue := s.moves.walksDue + 1 } = _
    rw [hm]
  have hres : t.resolveAxis e.axis = t.resolve e := by
    unfold State.resolveAxis
    rw [State.entryOf_one (s := t) (js := js) (k := 1) rfl]
    exact if_pos hs
  rw [State.coastEnd_eq ht hmo, hask, hres, State.coastWaitOver_off]
  rw [State.conclude_power, hpow]
  exact hw

/-- R71, R18: the ends of a settling entry that no backoff follows: its outcome, the axis's unit, the final position. -/
abbrev MoveEntry.endsWith (e : MoveEntry) (u : AxisUnit) (o : AxisOutcome) (v : AxisUnit) (y : Int) : Prop :=
  (e.disposition = some (.decided o) ∧ o ≠ .obstructed ∧ o ≠ .timeout ∧ v = u.rested ∧ y = u.position) ∨
  (e.disposition = some .judge ∧ o = .reached ∧ (∃ g, e.kind = .target g ∧ (u.position - g).natAbs ≤ 2) ∧
    v = u.rested ∧ y = u.position) ∨
  (e.disposition = some .judge ∧ o = .offTarget ∧ e.correctionUsed = true ∧
    (∃ g, e.kind = .target g ∧ 2 < (u.position - g).natAbs) ∧ v = u.rested ∧ y = u.position) ∨
  (e.disposition = some (.decided .timeout) ∧ o = .timeout ∧ y = u.position ∧
    v = { u.rested with confidence := if u.confidence = .normalised then .suspect else u.confidence }) ∨
  (e.disposition = some .rereference ∧ o = .endStop ∧ y = 0 ∧ v = { u.rested with
    position := 0, confidence := if u.confidence = .lost then .suspect else u.confidence }) ∨
  (e.disposition = some (.decided .obstructed) ∧ e.noBackoff = true ∧ o = .obstructed ∧ y = u.position ∧
    v = { u.rested with halted := true })

theorem AxisUnit.takeOutcome_timeout {u : AxisUnit} {e : MoveEntry} (hc : e.axis.counted = true) (hs : e.isSeekLeg = false) :
    u.takeOutcome e .timeout = { u with confidence := if u.confidence = .normalised then .suspect else u.confidence } := by
  unfold AxisUnit.takeOutcome
  by_cases h : u.confidence = .normalised
  · rw [if_pos ⟨rfl, hc, h, by rw [hs]; rfl⟩, if_pos h]
  · rw [if_neg fun k => h k.2.2.1, if_neg h]
    rfl

/-- R71: the settling entry of a counted axis ends. -/
theorem State.resolve_ends {s : State} {e : MoveEntry} {js : List JogRecord} (hc : e.axis.counted = true)
    (hsl : e.isSeekLeg = false) {o : AxisOutcome} {v : AxisUnit} {y : Int} (h : e.endsWith (s.axis e.axis) o v y) :
    ∃ w : AxisUnit, ((s.setAxis e.axis (s.axis e.axis).rested).withMoves { entries := [e], jogs := js, walksDue := 1 }).resolve e =
        ((s.setAxis e.axis w).withMoves { entries := [e], jogs := js, walksDue := 1 }).finishEntry e o y ∧
      w.takeOutcome e o = v ∧ ¬(o = .obstructed ∧ e.axis.counted = true ∧ e.noBackoff = false) := by
  let u := s.axis e.axis
  let t := (s.setAxis e.axis u.rested).withMoves { entries := [e], jogs := js, walksDue := 1 }
  have htv : t.axis e.axis = u.rested := State.axis_setAxis_same s e.axis u.rested
  have htx : (t.axis e.axis).position = u.position := by rw [htv]; rfl
  have hband : deadband e.axis = 2 := if_pos hc
  have decided : ∀ o, e.disposition = some (.decided o) → t.resolve e = t.finishEntry e o u.position := fun o ho => by
    unfold State.resolve
    rw [ho, ← htx]
  rcases h with ⟨hd, hno, hnt, rfl, rfl⟩ | ⟨hd, rfl, ⟨g, hk, hg⟩, rfl, rfl⟩ | ⟨hd, rfl, hcor, ⟨g, hk, hg⟩, rfl, rfl⟩ |
    ⟨hd, rfl, rfl, rfl⟩ | ⟨hd, rfl, rfl, rfl⟩ | ⟨hd, hnb, rfl, rfl, rfl⟩
  · exact ⟨u.rested, decided o hd, AxisUnit.takeOutcome_same _ _ hnt hno, fun k => hno k.1⟩
  · refine ⟨u.rested, ?_, AxisUnit.takeOutcome_same _ _ (by decide) (by decide), nofun⟩
    have : t.resolve e = t.judge e := by unfold State.resolve; rw [hd]
    refine this.trans ?_
    rw [State.judge_reached hk (by rw [htx, hband]; exact hg), htx]
  · refine ⟨u.rested, ?_, AxisUnit.takeOutcome_same _ _ (by decide) (by decide), nofun⟩
    have : t.resolve e = t.judge e := by unfold State.resolve; rw [hd]
    refine this.trans ?_
    rw [State.judge_offTarget hk (by rw [htx, hband]; exact hg) hcor, htx]
  · exact ⟨u.rested, decided _ hd, AxisUnit.takeOutcome_timeout hc hsl, nofun⟩
  · refine ⟨_, ?_, AxisUnit.takeOutcome_same _ _ (by decide) (by decide), nofun⟩
    have : t.resolve e = (t.rereference e.axis).finishEntry e .endStop 0 := by unfold State.resolve; rw [hd]
    refine this.trans (congrArg (State.finishEntry · e .endStop 0) ?_)
    exact State.modAxis_setAxis_withMoves s e.axis u.rested _ _
  · refine ⟨u.rested, decided _ hd, (AxisUnit.takeOutcome_halts _ _ (by decide)).trans ?_, fun k => by rw [hnb] at k; cases k.2.2⟩
    rw [show (AxisOutcome.obstructed == AxisOutcome.obstructed) = true from rfl, Bool.or_true]

/-- R71: a settling entry that ends or goes on leaves the power state. -/
theorem State.resolve_power (s : State) (e : MoveEntry) : (s.resolve e).power = s.power :=
  (undisturbed.resolve s e).power

/-- R168: a commit of the snapshot block behind a full queue, in a busy store, is held. -/
theorem State.commit_held {s : State} (h : s.commitPlace 50 = false) (hb : s.store.state ≠ .idle) :
    (s.commit 50).store = { s.store with
      snapState := .pending, held := if 50 ∈ s.store.held then s.store.held else s.store.held ++ [50] } := by
  unfold State.commitPlace at h
  rw [Bool.or_eq_false_iff] at h
  obtain ⟨hq, hl⟩ := h
  have hs : s.setStorage 50 .pending = { s with store := { s.store with snapState := .pending } } := rfl
  have hp : (s.setStorage 50 .pending).placeCommit 50 =
      { s with store := { s.store with
        snapState := .pending, held := if 50 ∈ s.store.held then s.store.held else s.store.held ++ [50] } } := by
    unfold State.placeCommit
    rw [hs]
    simp only [hq, Bool.false_eq_true, ↓reduceIte, of_decide_eq_false hl, List.contains_eq_mem, decide_eq_true_eq]
    split <;> rfl
  unfold State.commit
  rw [hp, State.startWrite_busy (by exact hb)]

/-- R168: the coast end the snapshot waits for raises its commit, where no other counted axis coasts. -/
theorem State.coastWaitOver_raises {s : State} (hp : s.power.state = .parking) (hw : s.power.coastWait = true) :
    (s.countedCoasting = true → s.coastWaitOver = s) ∧
    (s.countedCoasting = false →
      s.onlyIn s.coastWaitOver [.store, .power] ∧ s.coastWaitOver.power = { s.power with coastWait := false } ∧
      s.coastWaitOver.store.snapState = .pending ∧ s.coastWaitOver.snapshotImage.consumed = false ∧
      (s.commitPlace 50 = true → s.tookCommit s.coastWaitOver 50) ∧
      (s.commitPlace 50 = false → s.store.state ≠ .idle → s.coastWaitOver.store = { s.store with
        snapState := .pending, held := if 50 ∈ s.store.held then s.store.held else s.store.held ++ [50] })) := by
  let w : State := { s with power := { s.power with coastWait := false } }
  refine ⟨fun h => if_neg fun k => (by rw [h] at k; cases k.2), fun h => ?_⟩
  have ht : s.coastWaitOver = w.commit 50 := if_pos ⟨hw, by rw [h]; rfl⟩
  have hpower : (w.commit 50).power = w.power := (w.commit_frame 50).power
  rw [ht]
  refine ⟨?_, hpower, ((w.commit_storage 50).2.2).trans (if_pos rfl), ?_, fun hc => ?_, State.commit_held (s := w)⟩
  · exact ((s.onlyIn_power _).mono (by simp)).trans ((State.commit_only_store rfl w).mono (by simp))
  · show ((w.commit 50).power.state != .parking) = false
    rw [hpower]
    show (s.power.state != .parking) = false
    rw [hp]; rfl
  · exact State.tookCommit_commit (s := w) rfl (by show s.power.state ≠ .park; rw [hp]; decide) hc

/-- R71, R82: the superseded entry of a jog that settled off the list ends, and its record closes. -/
theorem State.coastEnd_offList {s : State} {e : MoveEntry} {j : JogRecord} (h : s.oneOffList e j)
    (ht : (s.axis e.axis).coastTimer.isSome = true) (hmo : (s.axis e.axis).motion = .coasting) :
    s.coastEnd e.axis = ((s.setAxis e.axis (s.axis e.axis).rested).jogClosed j .superseded
      (s.axis e.axis).position none).coastWaitOver := by
  obtain ⟨hm, hact, hcl, hown, hcause, hjax, hd, hj, hb, hab⟩ := h
  let u := s.axis e.axis
  let t := (s.setAxis e.axis u.rested).withMoves { offList := [e], jogs := [j], walksDue := 1 }
  have htv : t.axis e.axis = u.rested := State.axis_setAxis_same s e.axis u.rested
  have hask : (s.setAxis e.axis u.rested).askWalk = t := by
    show (s.setAxis e.axis u.rested).withMoves { s.moves with walksDue := s.moves.walksDue + 1 } = _
    rw [hm]
  have hres : t.resolveAxis e.axis = t.resolveOff e := by
    unfold State.resolveAxis
    rw [show t.moves.offList.find? (·.axis == e.axis) = some e from List.find?_cons_of_pos (beq_self_eq_true _)]
  have hoff : t.resolveOff e = (t.withMoves { jogs := [j.ended .superseded u.position], walksDue := 1 }) := by
    have hfilter : [e].filter (·.axis != e.axis) = [] := by simp
    unfold State.resolveOff
    rw [hd]
    show (t.withMoves { offList := [e].filter (·.axis != e.axis), jogs := [j], walksDue := 1 }).endEntry e .superseded
      (t.axis e.axis).position = _
    rw [htv, hfilter]
    show State.report (State.setAxis _ e.axis ((t.axis e.axis).takeOutcome e .superseded)) e .superseded u.position = _
    rw [AxisUnit.takeOutcome_same _ _ (by decide) (by decide), State.report_jog (j := j) (k := 1) rfl hown,
      JogRecord.takeReport_ended hcause hab (by decide)]
    have hsame := congrArg (State.withMoves · { jogs := [j.ended .superseded u.position], walksDue := 1 })
      (State.setAxis_axis t e.axis)
    exact hsame
  rw [State.coastEnd_eq ht hmo, hask, hres, hoff, State.conclude_jogClosed
    (s := t.withMoves { jogs := [j.ended .superseded u.position], walksDue := 1 }) (k := 1) rfl (show (j.ended .superseded u.position).closing = true from hj) hb hact hcl rfl rfl []]
  have hcause' : (j.ended .superseded u.position).stopCause .superseded = none := if_neg nofun
  rw [hcause']
  rfl

/-! ## A jog's entry at the coast end -/

/-- R71, R78: the settling entry of a jog ends. -/
theorem State.coastEnd_jog {s : State} {e : MoveEntry} {j : JogRecord} (h : s.oneJog e j) (hs : e.state = .settling)
    (hc : e.axis.counted = true) (ht : (s.axis e.axis).coastTimer.isSome = true)
    (hmo : (s.axis e.axis).motion = .coasting) (hw : s.power.coastWait = false) {o : AxisOutcome} {v : AxisUnit} {y : Int}
    (hends : e.endsWith (s.axis e.axis) o v y) :
    s.coastEnd e.axis =
      ((s.setAxis e.axis v).withMoves { jogs := [j.takeReport e o y], walksDue := 2 }).conclude [] := by
  obtain ⟨hm, hact, hcl, hown, hcause, hjax⟩ := h
  obtain ⟨w, hres, hv, hp⟩ := State.resolve_ends (s := s) (js := [j]) hc
    (MoveEntry.isSeekLeg_plain ⟨by rw [hcause]; decide, by rw [hcause]; decide⟩) hends
  rw [State.coastEnd_settling hm ht hmo hw hs (State.resolve_power _ _), hres,
    State.finishEntry_jogAt s w 1 hown o y hp, hv]

/-- R73, R18: the settling entry of a jog returns to WAITING, with or without its correction used. -/
theorem State.coastEnd_returns {s : State} {e : MoveEntry} {j : JogRecord} (h : s.oneJog e j) (hs : e.state = .settling)
    (hc : e.axis.counted = true) (ht : (s.axis e.axis).coastTimer.isSome = true)
    (hmo : (s.axis e.axis).motion = .coasting) (hw : s.power.coastWait = false) (hcold : (s.axis e.axis).hot = false)
    {g : Int} {c : Bool} (hk : e.kind = .target g)
    (hd : (e.disposition = some .resume ∧ c = e.correctionUsed) ∨ (e.disposition = some .judge ∧ e.correctionUsed = false ∧
      2 < ((s.axis e.axis).position - g).natAbs ∧ c = true)) :
    s.coastEnd e.axis = ((s.setAxis e.axis (s.axis e.axis).rested).withMoves
      { entries := [{ e with state := .waiting, timeLimit := none, disposition := none, correctionUsed := c }]
        jogs := [j], walksDue := 2 }).conclude [] := by
  obtain ⟨hm, hact, hcl, hown, hcause, hjax⟩ := h
  let t := (s.setAxis e.axis (s.axis e.axis).rested).withMoves { entries := [e], jogs := [j], walksDue := 1 }
  have htv : t.axis e.axis = (s.axis e.axis).rested := State.axis_setAxis_same s e.axis _
  have hhot : (t.axis e.axis).hot = false := by rw [htv]; exact hcold
  have hres : t.resolve e = t.returnToWaiting { e with correctionUsed := c } := by
    unfold State.resolve
    rcases hd with ⟨hd, rfl⟩ | ⟨hd, hcor, hfar, rfl⟩
    · rw [hd]
      rfl
    · rw [hd]
      refine State.judge_corrects hk ?_ hcor
      rw [htv, show deadband e.axis = 2 from if_pos hc]
      exact hfar
  rw [State.coastEnd_settling hm ht hmo hw hs (State.resolve_power _ _)]
  refine congrArg (State.conclude · []) (hres.trans ?_)
  rw [State.returnToWaiting_one (s := t) (e := e) (f := { e with correctionUsed := c }) (js := [j]) (k := 1) rfl rfl hhot]

/-- R66: the one entry of the list, a jog's that waits, at the conclusion: without budget it goes on waiting, with budget
and beyond its deadband it drives. -/
theorem State.jogWaits {s : State} {v : AxisUnit} {w : MoveEntry} {r : JogRecord} {k : Nat} {g : Int}
    (ho : w.owner = .jog r.id) (hst : w.state = .waiting) (hrun : s.power.state = .run) (hidle : v.motion = .idle)
    (hcold : v.hot = false) (hf : w.axis.mirror = true → v.sensorFault = false) (ha : s.engine.active = none)
    (hc : s.engine.closing = []) (hk : w.kind = .target g) :
    let t := (s.setAxis w.axis v).withMoves { entries := [w], jogs := [r], walksDue := k + 1 }
    (s.budget < demand w.axis → t.conclude [] = (s.setAxis w.axis v).withMoves { entries := [w], jogs := [r] }) ∧
    (demand w.axis ≤ s.budget → deadband w.axis < (v.position - g).natAbs →
      t.conclude [] = (s.setAxis w.axis (v.drivenTo w.axis g w.correctionUsed)).withMoves
        { entries := [w.granted (1000 + 2 * (g - v.position).natAbs * s.msPerCount w.axis)], jogs := [r] }) := by
  intro t
  have htv : t.axis w.axis = v := State.axis_setAxis_same s w.axis v
  have hone : t.OneWaits w [r] [] :=
    { list := ⟨k, rfl⟩, waiting := hst, run := hrun, idle := (congrArg AxisUnit.motion htv).trans hidle
      cold := (congrArg AxisUnit.hot htv).trans hcold, granted := List.not_mem_nil }
  have howned : t.ownedBy w [r] :=
    ⟨fun _ hj _ => by rw [List.mem_singleton.mp hj]; exact ho, hc, fun op hop => by cases ha.symm.trans hop⟩
  refine ⟨fun hbud => hone.conclude_lacks howned hbud, fun hbud hfar => ?_⟩
  have hd := hone.conclude_jog ho ha hc hbud hk (fun h => (congrArg AxisUnit.sensorFault htv).trans (hf h)) (by rw [htv]; exact hfar)
  rw [htv] at hd
  refine hd.trans ?_
  have hsame := congrArg (State.withMoves ·
      { entries := [w.granted (1000 + 2 * (g - v.position).natAbs * s.msPerCount w.axis)], jogs := [r] })
    (State.setAxis_setAxis s w.axis v (v.drivenTo w.axis g w.correctionUsed))
  exact hsame

/-- R14: the backoff of an obstructed move. -/
def State.backoffOf (s : State) (e : MoveEntry) (x : Int) (o : Owner) : MoveEntry :=
  { axis := e.axis, cause := .backoff, kind := .target (s.backoffTarget e.axis x), tag := e.tag, owner := o }

/-- R14, R61: the obstructed entry of a jog leaves the list, and its backoff waits there. -/
theorem State.coastEnd_backsOff {s : State} {e : MoveEntry} {j : JogRecord} (h : s.oneJog e j) (hs : e.state = .settling)
    (hc : e.axis.counted = true) (ht : (s.axis e.axis).coastTimer.isSome = true)
    (hmo : (s.axis e.axis).motion = .coasting) (hw : s.power.coastWait = false) (hcold : (s.axis e.axis).hot = false)
    (hab : j.abortSource = none) (hd : e.disposition = some (.decided .obstructed)) (hnb : e.noBackoff = false) :
    let x := (s.axis e.axis).position
    s.coastEnd e.axis = ((s.setAxis e.axis { (s.axis e.axis).rested with halted := true }).withMoves
      { entries := [s.backoffOf e x (.jog j.id)], jogs := [{ j.ended .obstructed x with backoff := true }]
        walksDue := 3 }).conclude [] := by
  intro x
  obtain ⟨hm, hact, hcl, hown, hcause, hjax⟩ := h
  let v : AxisUnit := { (s.axis e.axis).rested with halted := true }
  let t := (s.setAxis e.axis (s.axis e.axis).rested).withMoves { entries := [e], jogs := [j], walksDue := 1 }
  let d := (s.setAxis e.axis v).withMoves { jogs := [j.ended .obstructed x], walksDue := 2 }
  have htv : t.axis e.axis = (s.axis e.axis).rested := State.axis_setAxis_same s e.axis _
  have hdv : d.axis e.axis = v := State.axis_setAxis_same s e.axis _
  have hresolve : t.resolve e = t.finishEntry e .obstructed x := by
    unfold State.resolve
    rw [hd]
    exact congrArg (t.finishEntry e .obstructed ·.position) htv
  have hend : ((t.dropEntry e.axis).askWalk).endEntry e .obstructed x = d := by
    have hdrop : (t.dropEntry e.axis).askWalk =
        (s.setAxis e.axis (s.axis e.axis).rested).withMoves { jogs := [j], walksDue := 2 } := by
      show (s.setAxis e.axis _).withMoves { entries := [e].filter (·.axis != e.axis), jogs := [j], walksDue := 2 } = _
      rw [show [e].filter (·.axis != e.axis) = [] by simp]
    unfold State.endEntry
    rw [hdrop, State.modAxis_setAxis_withMoves,
      State.report_jog (j := j) (k := 2) (s := (s.setAxis e.axis _).withMoves { jogs := [j], walksDue := 2 }) rfl hown,
      JogRecord.takeReport_ended hcause hab (by decide)]
    rfl
  have hoffer : d.offerBackoff e x = (s.setAxis e.axis v).withMoves
      { entries := [s.backoffOf e x (.jog j.id)], jogs := [{ j.ended .obstructed x with backoff := true }]
        walksDue := 3 } := by
    have hhot : ¬(d.axis e.axis).hot = true := by rw [hdv]; show ¬(s.axis e.axis).hot = true; rw [hcold]; decide
    have howner : d.backoffOwner e = .jog j.id := by unfold State.backoffOwner; rw [hown]
    have htarget : d.backoffTarget e.axis x = s.backoffTarget e.axis x := by
      unfold State.backoffTarget
      rw [hdv]
      rfl
    unfold State.offerBackoff
    rw [howner, htarget]
    refine (if_neg hhot).trans ?_
    show (s.setAxis e.axis v).withMoves { entries := _, jogs := [if j.id = j.id then _ else _], walksDue := 3 } = _
    rw [if_pos rfl]
    rfl
  have hfinish : t.finishEntry e .obstructed x = d.offerBackoff e x := by
    unfold State.finishEntry State.endAndFollow
    rw [hend]
    exact if_pos ⟨rfl, hc, by rw [hnb]; rfl⟩
  rw [State.coastEnd_settling hm ht hmo hw hs (State.resolve_power _ _)]
  exact congrArg (State.conclude · []) (hresolve.trans (hfinish.trans hoffer))

end Sys2Proof.Machine

namespace Sys2Proof

open Machine

/-- Settles O55: what the coast end makes of the entry that settles there, and of the snapshot that waits for it. -/
theorem coastEndResolves : Obligations.CoastEndResolves := by
  unfold Obligations.CoastEndResolves
  intro s a hs u x
  refine ⟨fun h => ?_, fun ht hmo hp hw hc => ?_, fun ht hmo hr hw hc => ?_⟩
  · refine (exec_coastEnd hs a).trans (congrArg _ (if_neg fun k => ?_))
    rw [show (s.axis a).coastTimer = none from h] at k
    cases k.1
  · intro goesOn
    have goes : ∀ b : State, b.power = s.power → b.store = s.store → (∀ c, b.axis c = (s.setAxis a u.rested).axis c) →
        s.coastEnd a = b.coastWaitOver → goesOn b := fun b hbp hbs hba heq => by
      have hexec : exec (.coastEnd a) s = .next b.coastWaitOver := (exec_coastEnd hs a).trans (congrArg _ heq)
      obtain ⟨hwaits, hraises⟩ := b.coastWaitOver_raises (by rw [hbp]; exact hp) (by rw [hbp]; exact hw)
      have hcoast : b.countedCoasting = true ↔ ∃ c : Axis, c ≠ a ∧ c.counted = true ∧ (s.axis c).motion = .coasting := by
        rw [b.countedCoasting_iff]
        refine exists_congr fun c => ?_
        rw [hba]
        by_cases hca : c = a
        · subst hca
          rw [State.axis_setAxis_same]
          exact iff_of_false (fun k => nomatch k.2) (fun k => k.1 rfl)
        · rw [State.axis_setAxis_other _ _ hca]
          exact (and_iff_right hca).symm
      refine ⟨fun k => hexec.trans (congrArg _ (hwaits (hcoast.mpr k))), fun k => ⟨_, hexec, ?_⟩⟩
      obtain ⟨h1, h2, h3, h4, h5, h6⟩ := hraises (Bool.eq_false_iff.mpr fun h => by
        obtain ⟨c, hca, hcc, hcm⟩ := hcoast.mp h
        exact k c hca hcc hcm)
      rw [State.commitPlace, hbs] at h5 h6
      rw [hbp] at h2
      exact ⟨h1, h2, h3, h4, fun k => by simpa only [State.tookCommit, hbs] using h5 k, h6⟩
    refine ⟨fun hq => ?_, fun e j hoff hax => ?_⟩
    · refine goes (s.setAxis a u.rested) rfl rfl (fun _ => rfl) ?_
      have hres : ((s.setAxis a u.rested).askWalk).resolveAxis a = (s.setAxis a u.rested).withMoves { walksDue := 1 } := by
        have hask : (s.setAxis a u.rested).askWalk = (s.setAxis a u.rested).withMoves { walksDue := 1 } := by
          show (s.setAxis a u.rested).withMoves { s.moves with walksDue := s.moves.walksDue + 1 } = _
          rw [hq.1]
        rw [hask]
        rfl
      rw [State.coastEnd_eq ht hmo, hres, State.conclude_empty (s := (s.setAxis a u.rested).withMoves { walksDue := 1 })
        (js := []) (k := 1) rfl nofun hq.2.1 hq.2.2, ← hq.1]
      rfl
    · subst hax
      exact goes _ rfl rfl (fun _ => rfl) (State.coastEnd_offList hoff ht hmo)
  · intro leaves limit ends
    have hexec : ∀ t, s.coastEnd a = t → exec (.coastEnd a) s = .next t := fun t h => (exec_coastEnd hs a).trans (congrArg _ h)
    refine ⟨fun hq => hexec _ ?_, fun e j o v y hax hends => ⟨fun hset => hexec _ ?_, fun hset hab => hexec _ ?_,
      fun hset hab hout => hexec _ ?_⟩,
      fun op e o v y hone hcause hax hst hends => ?_, fun e j hset hax => ?_⟩
    · have hask : (s.setAxis a u.rested).askWalk = (s.setAxis a u.rested).withMoves { walksDue := 1 } := by
        show (s.setAxis a u.rested).withMoves { s.moves with walksDue := s.moves.walksDue + 1 } = _
        rw [hq.1]
      have hres : ((s.setAxis a u.rested).withMoves { walksDue := 1 }).resolveAxis a =
        (s.setAxis a u.rested).withMoves { walksDue := 1 } := rfl
      rw [State.coastEnd_eq ht hmo, hask, hres, State.conclude_empty
        (s := (s.setAxis a u.rested).withMoves { walksDue := 1 }) (js := []) (k := 1) rfl nofun hq.2.1 hq.2.2, ← hq.1]
      exact State.coastWaitOver_off hw
    · subst hax
      obtain ⟨hone, hst, hj, hab⟩ := hset
      obtain ⟨hm, hact, hcl, hown, hcause, hjax⟩ := id hone
      have hrep := JogRecord.takeReport_jog hcause (by rw [hab]; decide) o y
      rw [State.coastEnd_jog hone hst hc ht hmo hw hends, hrep]
      exact State.conclude_ended (s := (s.setAxis e.axis v).withMoves _) (k := 2) rfl hj hact hcl
    · subst hax
      obtain ⟨hone, hst, hj, hb⟩ := hset
      obtain ⟨hm, hact, hcl, hown, hcause, hjax⟩ := id hone
      have hrep := JogRecord.takeReport_jog hcause (by rw [hab]; decide) o y
      rw [State.coastEnd_jog hone hst hc ht hmo hw hends, hrep]
      refine (State.conclude_jogClosed (s := (s.setAxis e.axis v).withMoves _)
        (j := { j.ended o y with abortSource := if o = .aborted then some .maskDeparture else none }) (k := 2) rfl hj hb hact
        hcl rfl rfl []).trans ?_
      have hstop : ({ j.ended o y with abortSource := if o = .aborted then some .maskDeparture else none } : JogRecord).stopCause
          o = none := if_neg fun k => by
        have hsome : (if o = .aborted then some AbortSource.maskDeparture else none) = some .stopAll := k.2
        rw [if_pos k.1] at hsome
        cases hsome
      rw [hstop]
      rfl
    · subst hax
      obtain ⟨hone, hst, hj, hb⟩ := hset
      obtain ⟨hm, hact, hcl, hown, hcause, hjax⟩ := id hone
      have hrep : j.takeReport e o y = { j with final := some y } := by
        unfold JogRecord.takeReport
        rw [if_neg (by rw [hcause]; decide), if_pos hab]
      rw [State.coastEnd_jog hone hst hc ht hmo hw hends, hrep]
      refine (State.conclude_jogClosed (s := (s.setAxis e.axis v).withMoves _) (j := { j with final := some y }) (k := 2)
        rfl hj hb hact hcl hout rfl []).trans ?_
      rw [show ({ j with final := some y } : JogRecord).stopCause .aborted = some .stop from if_pos ⟨rfl, hab⟩]
      rfl
    · subst hax
      refine State.goesOn (k := 2) hone hr (hexec _ ?_)
      have hkind : op.kind ≠ .normalise := hone.2.2.2.1
      have hsl : e.isSeekLeg = false := by
        have hnorm : e.cause ≠ .normalise := by
          rcases hcause with h | h
          · rw [h]; exact (OpKind.cause_plain hkind).1
          · rw [h]; decide
        unfold MoveEntry.isSeekLeg
        rw [beq_false_of_ne hnorm, Bool.false_and]
      obtain ⟨w, hres, hv, hp⟩ := State.resolve_ends (s := s) (js := []) hc hsl hends
      rw [State.coastEnd_settling hone.2.2.1 ht hmo hw hst (State.resolve_power _ _), hres,
        State.finishEntry_opAt hone w 1 o y hp, hv]
    · subst hax
      have hone : s.oneJog e j := hset.elim (·.1) (·.1.1)
      have hst : e.state = .settling := hset.elim (·.2.1) (·.1.2.1)
      have hab : j.abortSource = none := hset.elim (·.2.2.2) (·.2)
      obtain ⟨hm, hact, hcl, hown, hcause, hjax⟩ := id hone
      have hmirror : e.axis.mirror = true → ∀ b : Bool, b = false := fun k => by rw [Axis.mirror_eq, hc] at k; cases k
      refine ⟨fun hd hnb hcold => ?_, fun g c hk hd hcold => ?_⟩
      · intro v raw g b r
        have hback := State.coastEnd_backsOff hone hst hc ht hmo hw hcold hab hd hnb
        obtain ⟨hlacks, hdrives⟩ := State.jogWaits (s := s) (v := v) (w := b) (r := r) (k := 2) (g := g) rfl rfl hr rfl hcold
          (fun k => hmirror k _) hact hcl rfl
        exact ⟨fun hbud => hexec _ (hback.trans (hlacks hbud)), fun hbud hfar => hexec _
          (hback.trans (hdrives hbud (by rw [show deadband b.axis = 2 from if_pos hc]; exact hfar)))⟩
      · intro w
        have hback := State.coastEnd_returns hone hst hc ht hmo hw hcold hk hd
        obtain ⟨hlacks, hdrives⟩ := State.jogWaits (s := s) (v := (s.axis e.axis).rested) (w := w) (r := j) (k := 1) (g := g)
          hown rfl hr rfl hcold (fun k => hmirror k _) hact hcl hk
        exact ⟨fun hbud => hexec _ (hback.trans (hlacks hbud)), fun hbud hfar => hexec _
          (hback.trans (hdrives hbud (by rw [show deadband w.axis = 2 from if_pos hc]; exact hfar)))⟩

end Sys2Proof
end

section
/-! PROOF. Jogs (04, section 4.7): a new jog drives at once; an open jog is refreshed and released; STOP_ALL. -/

namespace Sys2Proof.Machine

/-! ## A new jog -/

/-- R65: a conclusion whose walks leave one entry that has its owner. -/
theorem State.conclude_arbitrated {s t : State} {f : MoveEntry} {js : List JogRecord} {ex : List Axis}
    (harb : s.arbiter ex = t) (hm : t.moves = { entries := [f], jogs := js }) (ho : t.ownedBy f js) : s.conclude ex = t := by
  rw [← harb]
  refine State.conclude_of_arbiter (State.Attended.nextWork ?_)
  rw [harb]
  exact State.attended_one hm ho

theorem State.onlyIn_bumpId (s : State) : s.onlyIn s.bumpId [.model] := by
  intro p hp
  cases p <;> first | rfl | exact absurd (by simp) hp

theorem AxisUnit.drive_seek {a : Axis} (hc : a.counted = true) (u : AxisUnit) (d : Dir) :
    u.drive a d none = { u with
      motion := Dir.motion d, lastDir := d, drove := true, cutPoint := none, stallTimer := some 200 } := by
  unfold AxisUnit.drive
  rw [if_pos hc, if_pos hc]

/-- R77: the target of a jog, where its axis has stops or is LOST. -/
theorem State.jogKind_eq {s : State} {a : Axis} (h : a.counted = true → (s.axis a).confidence ≠ .lost → (s.stopsOf a).isSome)
    (d : Dir) : s.jogKind a d = if a.counted = true ∧ (s.axis a).confidence = .lost then MoveKind.seek d
      else .target (match d with
        | .up => ((if a.counted then s.stopsOf a else none).getD (s.mirrorLimits a)).hi
        | .down => ((if a.counted then s.stopsOf a else none).getD (s.mirrorLimits a)).lo) := by
  unfold State.jogKind
  by_cases hc : a.counted = true
  · by_cases hl : (s.axis a).confidence = .lost
    · rw [if_pos hc, if_pos ⟨hc, hl⟩]
      cases s.stopsOf a with
      | none => rfl
      | some st => exact if_pos hl
    · obtain ⟨st, hst⟩ := Option.isSome_iff_exists.mp (h hc hl)
      rw [if_pos hc, if_neg fun k => hl k.2, hst, if_pos hc]
      exact (if_neg hl).trans (by cases d <;> rfl)
  · rw [if_neg hc, if_neg fun k => hc k.1, if_neg hc]
    cases d <;> rfl

/-- R78: the record of a new jog. -/
abbrev State.jogRecord (s : State) (a : Axis) (d : Dir) : JogRecord :=
  { id := s.model.nextId, axis := a, dir := d, from_ := (s.axis a).position }

/-- R77: the entry of a new jog. -/
abbrev State.jogEntry (s : State) (a : Axis) (k : MoveKind) : MoveEntry :=
  { axis := a, cause := .jog, kind := k, tag := 0, owner := .jog s.model.nextId }

/-- R77: a new jog on a quiet part opens its record and has its entry on the list. -/
theorem State.newJog_opens {s : State} {a : Axis} {d : Dir} (hq : s.quiet) (hh : (s.axis a).hot = false) :
    s.newJog a d = (((s.setAxis a { s.axis a with halted := false }).bumpId).withMoves
      { entries := [s.jogEntry a (s.jogKind a d)], jogs := [s.jogRecord a d], walksDue := 1 }).conclude [] := by
  obtain ⟨hm, ha, hc⟩ := hq
  let t := s.setAxis a { s.axis a with halted := false }
  have hta : t.axis a = { s.axis a with halted := false } := State.axis_setAxis_same s a _
  have habort : (s.abortActive .user).arbiter [] = s := by
    have hnone : s.abortActive .user = s := by unfold State.abortActive; rw [ha]
    rw [hnone]
    exact State.arbiter_idle (by rw [hm]) []
  have hkind : t.jogKind a d = s.jogKind a d := by
    unfold State.jogKind
    rw [hta]
    rfl
  have hopen : t.openNewJog a d = (t.bumpId).withMoves
      { entries := [s.jogEntry a (s.jogKind a d)], jogs := [s.jogRecord a d], walksDue := 1 } := by
    unfold State.openNewJog
    rw [hkind, hta]
    refine State.place_first (js := [s.jogRecord a d]) ?_ (by exact (congrArg AxisUnit.hot hta).trans hh)
    show { s.moves with jogs := s.moves.jogs ++ [s.jogRecord a d] } = _
    rw [hm]
    rfl
  unfold State.newJog
  rw [habort]
  dsimp only
  rw [State.modJogs_none (by rw [hm]; exact nofun)]
  exact congrArg (State.conclude · []) hopen

/-- R4, R12, R16: the unit of an axis that a new jog drives. -/
def AxisUnit.jogged (u : AxisUnit) (a : Axis) : MoveKind → AxisUnit
  | .target g => { u.drivenTo a g false with halted := false }
  | .seek d => { u with
      motion := Dir.motion d, lastDir := d, drove := true, cutPoint := none, stallTimer := some 200, halted := false }

/-- R77, R78, R15, R16: a new jog that can drive at once drives. -/
theorem State.newJog_eq {s : State} {a : Axis} {d : Dir} (hq : s.quiet) (hr : s.power.state = .run) (hf : s.jogFree a d) :
    s.newJog a d = ((s.setAxis a ((s.axis a).jogged a (s.jogKind a d))).bumpId).withMoves
      { entries := [(s.jogEntry a (s.jogKind a d)).granted (s.timeLimitOf a (s.axis a).position (s.jogKind a d))]
        jogs := [s.jogRecord a d] } := by
  obtain ⟨_, hh, hidle, hsens, hbud, hstops, hfar⟩ := hf
  obtain ⟨hm, ha, hc⟩ := id hq
  have hopens := State.newJog_opens (d := d) hq hh
  have hkinds := State.jogKind_eq hstops d
  generalize s.jogKind a d = kind at hopens hkinds hfar ⊢
  let v : AxisUnit := { s.axis a with halted := false }
  let e := s.jogEntry a kind
  let m : MoveList :=
    { entries := [e.granted (s.timeLimitOf a (s.axis a).position kind)], jogs := [s.jogRecord a d] }
  let t := ((s.setAxis a v).bumpId).withMoves { entries := [e], jogs := [s.jogRecord a d], walksDue := 1 }
  have hta : t.axis a = v := State.axis_setAxis_same s a v
  have hwaits : t.OneWaits e [s.jogRecord a d] [] :=
    { list := ⟨0, rfl⟩, waiting := rfl, run := hr, idle := (congrArg AxisUnit.motion hta).trans hidle
      cold := (congrArg AxisUnit.hot hta).trans hh, granted := List.not_mem_nil }
  have hnew : ∀ w, t.arbiter [] = (t.setAxis a w).withMoves m → s.newJog a d = ((s.setAxis a w).bumpId).withMoves m :=
    fun w harb => by
    rw [hopens]
    refine (State.conclude_arbitrated harb rfl
      ⟨fun _ hj _ => by rw [List.mem_singleton.mp hj]; rfl, hc, fun op hop => by cases ha.symm.trans hop⟩).trans ?_
    have hsame := congrArg (fun x : State => (x.bumpId).withMoves m) (s.setAxis_setAxis a v w)
    exact hsame
  refine hnew _ ?_
  by_cases hl : a.counted = true ∧ (s.axis a).confidence = .lost
  · obtain rfl := hkinds.trans (if_pos hl)
    have harb := hwaits.seeks hbud rfl hl.1
    rw [State.grantReport_jog rfl, hta, AxisUnit.drive_seek hl.1] at harb
    exact harb
  · obtain rfl := hkinds.trans (if_neg hl)
    have harb := hwaits.drivesTo hbud rfl (fun k => (congrArg AxisUnit.sensorFault hta).trans (hsens k))
      (by rw [hta]; exact hfar _ rfl)
    rw [State.grantReport_jog rfl, hta] at harb
    exact harb

theorem State.newJog_drives {s : State} {a : Axis} {d : Dir} (hq : s.quiet) (hr : s.power.state = .run)
    (hf : s.jogFree a d) : s.onlyIn (s.newJog a d) [.axes, .moves, .model] ∧ s.jogDrives (s.newJog a d) a d := by
  rw [State.newJog_eq hq hr hf]
  refine ⟨?_, ?_⟩
  · exact (((s.onlyIn_setAxis a _).mono (by simp)).trans ((State.onlyIn_bumpId _).mono (by simp))).trans
      ((State.onlyIn_withMoves _ _).mono (by simp))
  · unfold State.jogDrives
    intro u kind
    have hkind : s.jogKind a d = kind := State.jogKind_eq hf.2.2.2.2.2.1 d
    clear_value kind
    subst hkind
    refine ⟨⟨s.model.nextId, rfl⟩, (State.axis_setAxis_same s a _).trans ?_, fun b hb => State.axis_setAxis_other s _ hb⟩
    cases s.jogKind a d with
    | target g => rfl
    | seek d => cases d <;> rfl

/-! ## Stopping the one entry of the list -/

theorem State.stopEntries_one {s : State} {e : MoveEntry} {pick : MoveEntry → Bool} (hm : s.moves.entries = [e])
    (hp : pick e = true) (h : StopHow) : s.stopEntries pick h = s.stopEntry e h := by
  unfold State.stopEntries
  rw [hm, List.filter_cons_of_pos hp]
  rfl

theorem State.stopEntries_none {s : State} {pick : MoveEntry → Bool} (hp : ∀ e ∈ s.moves.entries, pick e = false)
    (h : StopHow) : s.stopEntries pick h = s := by
  unfold State.stopEntries
  rw [List.filter_eq_nil_iff.mpr fun e he => Bool.eq_false_iff.mp (hp e he)]
  rfl

section StopEntry

variable {s : State} {e : MoveEntry} {js : List JogRecord} {k : Nat}
  (hm : s.moves = { entries := [e], jogs := js, walksDue := k })

theorem State.stopEntry_waiting (hs : e.state = .waiting) (h : StopHow) :
    s.stopEntry e h = s.finishEntry e h.outcome (s.axis e.axis).position := by
  unfold State.stopEntry
  rw [hs]

include hm in
/-- R74, R80: a driving counted axis is cut, and its entry settles. -/
theorem State.stopEntry_counted (hs : e.state = .driving) (hc : e.axis.counted = true)
    (hd : (s.axis e.axis).driving = true) (h : StopHow) :
    s.stopEntry e h = (s.setAxis e.axis (s.axis e.axis).coasting).withMoves
      { entries := [{ e.settles (.decided h.outcome) with stopAll := e.stopAll || h.stopAll }], jogs := js
        walksDue := k + 1 } := by
  have hcut : s.cutMotor e.axis false = s.setAxis e.axis (s.axis e.axis).coasting :=
    congrArg (s.setAxis e.axis) (AxisUnit.cut_counted hd hc)
  have hm1 : (s.cutMotor e.axis false).askWalk.moves = { entries := [e], jogs := js, walksDue := k + 1 } := by
    show ({ s.moves with walksDue := s.moves.walksDue + 1 } : MoveList) = _
    rw [hm]
  unfold State.stopEntry
  rw [hs]
  refine (if_pos hc).trans ?_
  have hset := State.setEntry_one
    (f := { e.settles (.decided h.outcome) with stopAll := e.stopAll || h.stopAll }) hm1 rfl
  rw [hcut] at hset ⊢
  exact hset

include hm in
/-- R74, R80: a driving mirror is cut, and its entry ends at the cut. -/
theorem State.stopEntry_mirror (hs : e.state = .driving) (hc : e.axis.counted = false)
    (hd : (s.axis e.axis).driving = true) (h : StopHow) :
    s.stopEntry e h = ((s.setAxis e.axis (s.axis e.axis).stopped).withMoves
      { entries := [e], jogs := js, walksDue := k + 1 }).finishEntry e h.outcome (s.axis e.axis).position := by
  have hcut : (s.cutMotor e.axis false).askWalk = (s.setAxis e.axis (s.axis e.axis).stopped).withMoves
      { entries := [e], jogs := js, walksDue := k + 1 } := by
    show (s.setAxis e.axis ((s.axis e.axis).cut e.axis false)).withMoves { s.moves with walksDue := s.moves.walksDue + 1 } = _
    rw [hm, AxisUnit.cut_mirror hd hc]
  unfold State.stopEntry
  rw [hs]
  refine (if_neg (by rw [hc]; decide)).trans ?_
  rw [hcut]

include hm in
/-- R71: a settling entry takes the stop's disposition. -/
theorem State.stopEntry_settling (hs : e.state = .settling) (h : StopHow) :
    s.stopEntry e h = s.withMoves
      { entries := [{ e with
          disposition := some (h.disposition e.disposition), noBackoff := e.noBackoff || h.noBackoff
          stopAll := e.stopAll || h.stopAll }], jogs := js, walksDue := k } := by
  unfold State.stopEntry
  rw [hs]
  exact State.setEntry_one hm rfl

end StopEntry

section StopJog

variable {s : State} {e : MoveEntry} {j : JogRecord} {k : Nat} {h : StopHow}
  (hm : s.moves = { entries := [e], jogs := [j], walksDue := k }) (ho : e.owner = .jog j.id)
  (hnt : h.outcome ≠ .timeout) (hno : h.outcome ≠ .obstructed)

include hm ho hnt hno

theorem State.stopEntry_waitingJog (hs : e.state = .waiting) : s.stopEntry e h =
    s.withMoves { jogs := [j.takeReport e h.outcome (s.axis e.axis).position], walksDue := k + 1 } := by
  rw [State.stopEntry_waiting hs, State.finishEntry_jog hm rfl ho _ _ fun c => hno c.1, AxisUnit.takeOutcome_same _ _ hnt hno,
    State.setAxis_axis]

theorem State.stopEntry_mirrorJog (hs : e.state = .driving) (hc : e.axis.counted = false)
    (hd : (s.axis e.axis).driving = true) : s.stopEntry e h = (s.setAxis e.axis (s.axis e.axis).stopped).withMoves
      { jogs := [j.takeReport e h.outcome (s.axis e.axis).position], walksDue := k + 2 } := by
  rw [State.stopEntry_mirror hm hs hc hd, State.finishEntry_jogAt s _ (k + 1) ho _ _ fun c => hno c.1,
    AxisUnit.takeOutcome_same _ _ hnt hno]

end StopJog

/-! ## An open jog is released -/

/-- R80: the release of the one jog, whose entry is on the list. -/
theorem State.releaseJog_one {s : State} {e : MoveEntry} {j : JogRecord} (h : s.oneJog e j) :
    s.releaseJog j = (s.withMoves { entries := [e], jogs := [j.released] }).stopEntry e byRelease := by
  obtain ⟨hm, _, _, hown, hcause, _⟩ := h
  have hmod : s.modJogs (·.id == j.id) JogRecord.release = s.withMoves { entries := [e], jogs := [j.released] } := by
    unfold State.modJogs
    rw [hm]
    show s.withMoves { entries := [e], jogs := [if j.id == j.id then j.release else j] } = _
    rw [if_pos (beq_self_eq_true _)]
    rfl
  unfold State.releaseJog
  rw [hmod]
  exact State.stopEntries_one rfl (by rw [hown, hcause, beq_self_eq_true, beq_self_eq_true]; rfl) _

/-- R82: a released jog whose entry has ended closes. -/
theorem State.conclude_releasedEnded {s : State} {e : MoveEntry} {j : JogRecord} (h : s.oneJog e j) (hb : j.backoff = false)
    (hab : j.abortSource = none) (v : AxisUnit) (x : Int) (k : Nat) :
    ((s.setAxis e.axis v).withMoves { jogs := [j.released.takeReport e .reached x], walksDue := k }).conclude [] =
      (s.setAxis e.axis v).jogClosed j .reached x none := by
  obtain ⟨_, hact, hcl, _, hcause, _⟩ := h
  rw [JogRecord.takeReport_ended (j := j.released) hcause hab (by decide)]
  refine (State.conclude_jogClosed (s := (s.setAxis e.axis v).withMoves _) (j := j.released.ended .reached x) rfl rfl hb hact hcl
    rfl rfl []).trans ?_
  rw [show (j.released.ended .reached x).stopCause .reached = none from if_neg nofun]
  rfl

section Release

variable {s : State} {e : MoveEntry} {j : JogRecord}

theorem State.releaseJog_driving (h : s.oneDrive e j) (hc : e.axis.counted = true) :
    (s.releaseJog j).conclude [] = (s.setAxis e.axis (s.axis e.axis).coasting).withMoves
      { entries := [e.settles (.decided .reached)], jogs := [j.released] } := by
  obtain ⟨hone, hs, _, _, hd⟩ := h
  rw [State.releaseJog_one hone, State.stopEntry_counted (s := s.withMoves _) (js := [j.released]) (k := 0) rfl hs hc hd,
    show (e.stopAll || byRelease.stopAll) = e.stopAll from Bool.or_false _]
  obtain ⟨_, hact, hcl, hown, _, _⟩ := hone
  exact State.conclude_busy (s := (s.setAxis e.axis _).withMoves _) (e := e.settles (.decided .reached)) (js := [j.released])
    (k := 1) rfl nofun ⟨fun _ hj _ => by rw [List.mem_singleton.mp hj]; exact hown, hcl,
      fun op hop => by cases hact.symm.trans hop⟩ []

theorem State.releaseJog_mirror (h : s.oneDrive e j) (hb : j.backoff = false) (hc : e.axis.counted = false) :
    (s.releaseJog j).conclude [] =
      (s.setAxis e.axis (s.axis e.axis).stopped).jogClosed j .reached (s.axis e.axis).position none := by
  obtain ⟨hone, hs, _, hab, hd⟩ := h
  rw [State.releaseJog_one hone, State.stopEntry_mirrorJog (s := s.withMoves _) (j := j.released) (k := 0)
    (h := byRelease) rfl hone.2.2.2.1 nofun nofun hs hc hd]
  exact State.conclude_releasedEnded hone hb hab _ _ _

theorem State.releaseJog_waiting (h : s.oneQueued e j) :
    (s.releaseJog j).conclude [] = s.jogClosed j .reached (s.axis e.axis).position none := by
  obtain ⟨hone, hs, _, hab, hb⟩ := h
  rw [State.releaseJog_one hone, State.stopEntry_waitingJog (s := s.withMoves _) (j := j.released) (k := 0)
    (h := byRelease) rfl hone.2.2.2.1 nofun nofun hs]
  have hclose := State.conclude_releasedEnded hone hb hab (s.axis e.axis) (s.axis e.axis).position 1
  rw [State.setAxis_axis] at hclose
  exact hclose

theorem State.releaseJog_settling (h : s.oneSettling e j) {d : Disposition} (hd : e.disposition = some d) :
    (s.releaseJog j).conclude [] = s.withMoves
      { entries := [{ e with disposition := some (if d = .judge ∨ d = .resume then .decided .reached else d) }]
        jogs := [j.released] } := by
  obtain ⟨hone, hs, _, _⟩ := h
  have hdisp : byRelease.disposition e.disposition = if d = .judge ∨ d = .resume then .decided .reached else d := by
    rw [hd]
    cases d <;> rfl
  rw [State.releaseJog_one hone, State.stopEntry_settling (s := s.withMoves _) (js := [j.released]) (k := 0) rfl hs, hdisp,
    show (e.stopAll || byRelease.stopAll) = e.stopAll from Bool.or_false _,
    show (e.noBackoff || byRelease.noBackoff) = e.noBackoff from Bool.or_false _]
  obtain ⟨_, hact, hcl, hown, _, _⟩ := hone
  refine State.conclude_busy (s := (s.withMoves _).withMoves _) (e := { e with disposition := _ }) (js := [j.released])
    (k := 0) rfl ?_ ⟨fun _ hj _ => by rw [List.mem_singleton.mp hj]; exact hown, hcl,
      fun op hop => by cases hact.symm.trans hop⟩ []
  show e.state ≠ .waiting
  rw [hs]
  decide

/-- R80, R82: a jog whose entry has ended before is released. -/
theorem State.releaseJog_ended (hm : s.moves = { jogs := [j] }) (ha : s.engine.active = none) (hc : s.engine.closing = [])
    (hb : j.backoff = false) {o : AxisOutcome} {y : Int} (ho : j.outcome = some o) (hy : j.final = some y) :
    (s.releaseJog j).conclude [] = s.jogClosed j o y (j.stopCause o) := by
  have hmod : s.modJogs (·.id == j.id) JogRecord.release = s.withMoves { jogs := [j.released] } := by
    unfold State.modJogs
    rw [hm]
    show s.withMoves { jogs := [if j.id == j.id then j.release else j] } = _
    rw [if_pos (beq_self_eq_true _)]
    rfl
  have hrel : s.releaseJog j = s.withMoves { jogs := [j.released] } := by
    unfold State.releaseJog
    rw [hmod]
    exact State.stopEntries_none (fun e he => absurd he List.not_mem_nil) _
  rw [hrel]
  refine (State.conclude_jogClosed (s := s.withMoves _) (j := j.released) (k := 0) rfl rfl hb ha hc ho hy []).trans ?_
  unfold State.jogClosed
  rfl

end Release

/-- R80: what releases the open jog of an axis: JOG_END, or the expiry of the keep-alive timer. -/
abbrev State.releaseCause (s : State) (x : Byte) (j : JogRecord) (c : Instr) : Prop :=
  (c = .jogEnd x ∧ s.ready .panel) ∨
    (c = .keepAliveExpiry j.axis ∧ s.powered = true ∧ s.power.state = .run ∧ j.keepAlive.isSome)

theorem exec_keepAliveExpiry {s : State} (h : s.powered = true) (a : Axis) :
    exec (.keepAliveExpiry a) s = .next (s.keepAliveExpiry a) := congrArg Host.Outcome.next (if_pos h)

/-- R80: the command that releases the open jog, given what the release comes to, whatever the panel port holds. -/
theorem exec_releases {s : State} {x : Byte} {j : JogRecord} {c : Instr} (hax : j.axis.val = x.toNat)
    (heff : s.isEffective j.axis = true) (hopen : s.openJog j.axis = some j) (hc : s.releaseCause x j c) {u : AxisUnit}
    {m : MoveList} {g : RecallEngine}
    (hrel : ∀ w, (((s.setPort .panel w).releaseJog j).conclude []) =
      { ((s.setPort .panel w).setAxis j.axis u).withMoves m with engine := g }) :
    ∃ t, exec c s = .next t ∧ s.onlyIn t [.ports, .axes, .moves, .engine] ∧ t.moves = m ∧ t.engine = g ∧
      t.axis j.axis = u ∧ (∀ b, b ≠ j.axis → t.axis b = s.axis b) ∧
      (c = .jogEnd x → s.answersWith t .panel (.jogEnd x) { code := .ok } noEvents) ∧
      (c = .keepAliveExpiry j.axis → t.ports = s.ports) := by
  have only : ∀ b : State, b.onlyIn { (b.setAxis j.axis u).withMoves m with engine := g } [.axes, .moves, .engine] := fun b =>
    (((b.onlyIn_setAxis _ _).mono (by simp)).trans ((State.onlyIn_withMoves _ m).mono (by simp))).trans
      ((State.onlyIn_engine _ g).mono (by simp))
  rcases hc with ⟨rfl, k⟩ | ⟨rfl, hp, hr, hk⟩
  · let v : State := { ((s.written .panel (.jogEnd x)).setAxis j.axis u).withMoves m with engine := g }
    have hv : (s.written .panel (.jogEnd x)).handle .panel (.jogEnd x) = (v, okWith []) := by
      refine (State.reqJogEnd_axis _ hax).trans ((if_neg fun h => by cases heff.symm.trans h).trans ?_)
      rw [show (s.written .panel (.jogEnd x)).openJog j.axis = some j from hopen]
      exact congrArg (Prod.mk · (okWith [])) (hrel _)
    obtain ⟨t, ht, hst, hvt, hans⟩ := exec_changes (c := .jogEnd x) rfl k rfl (Request.length_frame_le _ nofun) hv
      (ps := [.ports, .axes, .moves, .engine]) ((only _).mono (by simp)) (by simp) (State.gains_of_ports rfl)
    have haxis := State.axis_congr (hvt .axes (by simp))
    exact ⟨t, ht, hst, hvt .moves (by simp), hvt .engine (by simp), (haxis _).trans (State.axis_setAxis_same _ _ u),
      fun b hb => (haxis b).trans (State.axis_setAxis_other _ u hb), fun _ => hans, nofun⟩
  · have hw : (s.releaseJog j).conclude [] = { (s.setAxis j.axis u).withMoves m with engine := g } := by
      have h := hrel (s.port .panel)
      rw [show s.setPort .panel (s.port .panel) = s from rfl] at h
      exact h
    have hexec : exec (.keepAliveExpiry j.axis) s = .next ((s.releaseJog j).conclude []) := by
      refine (exec_keepAliveExpiry hp _).trans (congrArg Host.Outcome.next ?_)
      unfold State.keepAliveExpiry
      rw [hopen]
      exact if_pos ⟨hk, by rw [hr]; decide⟩
    exact ⟨_, hexec.trans (congrArg _ hw), (only s).mono (by simp), rfl, rfl, State.axis_setAxis_same _ _ u,
      fun b hb => State.axis_setAxis_other _ u hb, nofun, fun _ => rfl⟩

/-- R75: the JOG in the direction of an open record. -/
theorem State.reqJog_refreshes {s : State} (hr : s.power.state = .run) {x y : Byte} {a : Axis} {r : JogRecord}
    (hax : a.val = x.toNat) (heff : s.isEffective a = true) (hopen : s.openJog a = some r)
    (hy : y = (match r.dir with | .up => 0 | .down => 1)) :
    s.reqJog x y = (s.withMoves { s.moves with jogs := s.moves.jogs.map fun q =>
      if q.axis = a ∧ q.closing = false then { q with keepAlive := some 300 } else q }, okWith []) := by
  rw [State.reqJog_axis hr hax (by rw [hy]; exact decDir_byte r.dir), if_neg (by rw [heff]; decide), hopen,
    if_pos (show (some r).any (·.dir == r.dir) = true from beq_self_eq_true _)]
  have hmap : (fun q : JogRecord => if (q.axis == a && !q.closing) = true then q.refresh else q) =
      fun q => if q.axis = a ∧ q.closing = false then { q with keepAlive := some 300 } else q := by
    funext q
    exact if_congr (by simp) rfl rfl
  refine congrArg (Prod.mk · (okWith [])) ?_
  unfold State.modJogs
  rw [hmap]

end Sys2Proof.Machine

namespace Sys2Proof

open Machine

/-- Settles O47: the jog's record opens and its entry, granted in the same action, drives. -/
theorem jogDrivesAtOnce : Obligations.JogDrivesAtOnce := by
  unfold Obligations.JogDrivesAtOnce
  intro s x y a d k hq hax hy hf
  let v := s.written .panel (.jog x y)
  have hfree : v.jogFree a d := hf
  obtain ⟨ho, hd⟩ := State.newJog_drives (s := v) hq k.2.1 hfree
  have hhandle : v.handle .panel (.jog x y) = (v.newJog a d, okWith []) := by
    show v.reqJog x y = _
    have hopen : v.openJog a = none := by
      show s.moves.jogs.find? _ = none
      rw [hq.1]
      rfl
    rw [State.reqJog_axis (s := v) k.2.1 hax (by rw [hy]; exact decDir_byte d), hopen]
    have heff : ¬v.isEffective a = false := fun h => by cases hf.1.symm.trans h
    have hhot : ¬(v.axis a).hot = true := Bool.eq_false_iff.mp hf.2.1
    rw [if_neg heff, if_neg (by simp), if_neg hhot]
  have hl : (Request.jog x y).frame.length ≤ 100 := Request.length_frame_le _ nofun
  obtain ⟨t, ht, hst, hvt, hans⟩ := exec_changes (c := .jog x y) rfl k rfl hl hhandle
    (ps := [.ports, .axes, .moves, .model]) (ho.mono (by simp)) (by simp) (State.gains_of_ports (ho .ports (by simp)))
  obtain ⟨⟨id, hm⟩, hu, hb⟩ := hd
  have haxis := State.axis_congr (hvt .axes (by simp))
  exact ⟨t, ht, hst, hans, ⟨id, (hvt .moves (by simp)).trans hm⟩, (haxis a).trans hu, fun b hba => (haxis b).trans (hb b hba)⟩

/-- Settles O48: the keep-alive timer restarted, and the release of a jog by the state of its entry. -/
theorem openJogRefreshedOrReleased : Obligations.OpenJogRefreshedOrReleased := by
  unfold Obligations.OpenJogRefreshedOrReleased
  intro s x a hax heff
  refine ⟨fun y r k hopen hy => ?_, fun k hopen => ?_, fun hp hopen => ?_, fun j c hja hb hc => ?_⟩
  · obtain ⟨t, ht, hst, hvt, hans⟩ := exec_changes (c := .jog x y) rfl k rfl (Request.length_frame_le _ nofun)
      (State.reqJog_refreshes (s := s.written .panel (.jog x y)) k.2.1 hax heff hopen hy) (ps := [.ports, .moves])
      ((State.onlyIn_withMoves _ _).mono (by simp)) (by simp) (State.gains_of_ports rfl)
    exact ⟨t, ht, hst, hvt .moves (by simp), hans⟩
  · refine exec_answered rfl k rfl (Request.length_frame_le _ nofun) fun u => ?_
    refine (State.reqJogEnd_axis _ hax).trans ((if_neg fun h => by cases heff.symm.trans h).trans ?_)
    rw [show (s.setPort .panel u).openJog a = none from hopen]
    rfl
  · refine (exec_keepAliveExpiry hp _).trans (congrArg Host.Outcome.next ?_)
    unfold State.keepAliveExpiry
    rw [hopen]
  · subst hja
    intro p releases closed
    have hopens : ∀ es, s.moves = { entries := es, jogs := [j] } → j.closing = false → s.openJog j.axis = some j :=
      fun es hm hj => by
      unfold State.openJog
      rw [hm]
      exact List.find?_cons_of_pos (by simp [hj])
    have hself : ∀ w, (s.setPort .panel w).setAxis j.axis (s.axis j.axis) = s.setPort .panel w := fun w =>
      State.setAxis_axis (s.setPort .panel w) j.axis
    refine ⟨fun e h hcount => ?_, fun e h hmir => ?_, fun e h => ?_, fun e d h hd => ?_, fun o y hm ha hcl hj ho hy => ?_⟩
    · obtain ⟨⟨hm, _, _, _, _, hjax⟩, _, hj, _, _⟩ := id h
      refine exec_releases hax heff (hopens _ hm hj) hc fun w => ?_
      rw [← hjax] at hcount ⊢
      exact State.releaseJog_driving (s := s.setPort .panel w) h hcount
    · obtain ⟨⟨hm, _, _, _, _, hjax⟩, _, hj, _, _⟩ := id h
      refine exec_releases hax heff (hopens _ hm hj) hc fun w => ?_
      have hm' : e.axis.counted = false := by
        rw [Axis.mirror_eq, ← hjax] at hmir
        simpa using hmir
      have hrel := State.releaseJog_mirror (s := s.setPort .panel w) h hb hm'
      rw [hjax] at hrel
      exact hrel
    · obtain ⟨⟨hm, _, _, _, _, hjax⟩, _, hj, _, _⟩ := id h
      refine exec_releases hax heff (hopens _ hm hj) hc fun w => ?_
      have hrel := State.releaseJog_waiting (s := s.setPort .panel w) h
      rw [hjax] at hrel
      rw [hself]
      exact hrel
    · obtain ⟨⟨hm, _, _, _, _, hjax⟩, _, hj, _⟩ := id h
      refine exec_releases hax heff (hopens _ hm hj) hc fun w => ?_
      rw [hself]
      exact State.releaseJog_settling (s := s.setPort .panel w) h hd
    · refine exec_releases hax heff (hopens _ hm hj) hc fun w => ?_
      rw [hself]
      exact State.releaseJog_ended (s := s.setPort .panel w) hm ha hcl hb ho hy

end Sys2Proof
end

section
/-! PROOF. STOP_ALL (10, section 10.8), and an axis that leaves the effective mask under its jog (02, section 2.6). -/

namespace Sys2Proof.Machine

/-! ## STOP_ALL -/

/-- R186: a STOP_ALL that finds nothing to end. -/
theorem State.reqStopAll_nothing {s : State} (ha : s.engine.active = none) (he : ∀ e ∈ s.moves.entries, e.stopped = true)
    (hj : ∀ j ∈ s.moves.jogs, j.stoppable = false) (h : s.conclude [] = s) :
    s.reqStopAll = (s, okWith (List.replicate 7 0)) := by
  have habort : s.abortActive .stop = s := by unfold State.abortActive; rw [ha]
  have hmod : s.modJogs JogRecord.stoppable JogRecord.markStopped = s :=
    State.modJogs_none fun r hr => Bool.eq_false_iff.mp (hj r hr)
  have hstop : s.stopEntries (!·.stopped) byStopAll = s :=
    State.stopEntries_none (fun e hm => by rw [he e hm]; rfl) _
  have hentries : s.moves.entries.filter (!·.stopped) = [] :=
    List.filter_eq_nil_iff.mpr fun e hm => by rw [he e hm]; decide
  have hjogs : s.moves.jogs.filter (·.stoppable) = [] :=
    List.filter_eq_nil_iff.mpr fun j hm => Bool.eq_false_iff.mp (hj j hm)
  unfold State.reqStopAll
  rw [habort]
  dsimp only
  rw [hmod, hstop, hentries, hjogs, ha, h]
  rfl

/-- R75, R78: the jog record that STOP_ALL has marked. -/
abbrev JogRecord.stopped (j : JogRecord) : JogRecord :=
  { j with outcome := some .aborted, abortSource := some .stopAll }

/-- R75: STOP_ALL under the driving jog of a counted axis. -/
theorem State.reqStopAll_drive {s : State} {e : MoveEntry} {j : JogRecord} (h : s.oneDrive e j)
    (hc : e.axis.counted = true) : s.reqStopAll =
      ((s.setAxis e.axis (s.axis e.axis).coasting).withMoves { entries := [e.stoppedByAll], jogs := [j.stopped] },
        okWith [1, 0, 0, 0, 0, 0, 1]) := by
  obtain ⟨⟨hm, ha, hcl, hown, hcause, hjax⟩, hs, hj, hab, hd⟩ := h
  have habort : s.abortActive .stop = s := by unfold State.abortActive; rw [ha]
  have hstoppable : j.stoppable = true := by
    unfold JogRecord.stoppable
    rw [hj, hab]
    decide
  have hfound : (!e.stopped) = true := by
    unfold MoveEntry.stopped
    rw [hs]
    rfl
  have hmod : s.modJogs JogRecord.stoppable JogRecord.markStopped = s.withMoves { entries := [e], jogs := [j.stopped] } := by
    unfold State.modJogs
    rw [hm]
    show s.withMoves { entries := [e], jogs := [if j.stoppable then j.markStopped else j] } = _
    rw [if_pos hstoppable]
    rfl
  have hstop : (s.withMoves { entries := [e], jogs := [j.stopped] }).stopEntries (!·.stopped) byStopAll =
      (s.setAxis e.axis (s.axis e.axis).coasting).withMoves
        { entries := [e.stoppedByAll], jogs := [j.stopped], walksDue := 1 } := by
    rw [State.stopEntries_one rfl hfound, State.stopEntry_counted (s := s.withMoves _) (js := [j.stopped]) (k := 0) rfl hs hc hd,
      show (e.stopAll || byStopAll.stopAll) = true from Bool.or_true _]
    rfl
  have hconc := State.conclude_busy (s := (s.setAxis e.axis (s.axis e.axis).coasting).withMoves
      { entries := [e.stoppedByAll], jogs := [j.stopped], walksDue := 1 }) (e := e.stoppedByAll) (js := [j.stopped]) (k := 1)
    rfl nofun ⟨fun _ hj _ => by rw [List.mem_singleton.mp hj]; exact hown, hcl,
      fun op hop => by cases ha.symm.trans hop⟩ []
  have hentries : s.moves.entries.filter (!·.stopped) = [e] := by rw [hm]; exact List.filter_cons_of_pos hfound
  have hjogs : s.moves.jogs.filter (·.stoppable) = [j] := by rw [hm]; exact List.filter_cons_of_pos hstoppable
  unfold State.reqStopAll
  rw [habort]
  dsimp only
  rw [hmod, hstop, hconc, hentries, hjogs, ha]
  rfl

/-! ## A departing axis -/

theorem State.entryOf_none {s : State} {a b : Axis} (h : ∀ e ∈ s.moves.entries, e.axis = a) (hb : b ≠ a) :
    s.entryOf b = none :=
  List.find?_eq_none.mpr fun e he => by rw [h e he]; simpa using Ne.symm hb

theorem State.openJog_none {s : State} {a b : Axis} (h : ∀ j ∈ s.moves.jogs, j.axis = a) (hb : b ≠ a) :
    s.openJog b = none :=
  List.find?_eq_none.mpr fun j hj => by rw [h j hj]; simp [Ne.symm hb]

/-- R37: where the moves and the jogs are all of one axis, the departures come to that axis's. -/
theorem State.foldl_depart_one {s : State} {a : Axis} {l : List Axis} (hn : l.Nodup) (ha : a ∈ l)
    (h : ∀ t, t = s ∨ t = s.depart a → (∀ e ∈ t.moves.entries, e.axis = a) ∧ ∀ j ∈ t.moves.jogs, j.axis = a) :
    l.foldl State.depart s = s.depart a := by
  have idle : ∀ t, t = s ∨ t = s.depart a → ∀ b, b ≠ a → t.entryOf b = none ∧ t.openJog b = none := fun t ht b hb =>
    ⟨State.entryOf_none (h t ht).1 hb, State.openJog_none (h t ht).2 hb⟩
  induction l with
  | nil => cases ha
  | cons b l ih =>
    obtain ⟨hb, hn⟩ := List.nodup_cons.mp hn
    rw [List.foldl_cons]
    by_cases hba : b = a
    · subst hba
      exact State.foldl_depart_idle _ fun c hc => idle _ (.inr rfl) c fun h => hb (h ▸ hc)
    · obtain ⟨h1, h2⟩ := idle s (.inl rfl) b hba
      rw [State.depart_idle h1 h2]
      exact ih hn ((List.mem_cons.mp ha).resolve_left (Ne.symm hba))

/-- R37: the departure of the axis of the one jog. -/
theorem State.depart_jog {s : State} {e : MoveEntry} {j : JogRecord} (h : s.oneJog e j) (hj : j.closing = false) :
    s.depart e.axis = (s.withMoves { entries := [e], jogs := [j.released] }).stopEntry e byDeparture := by
  obtain ⟨hm, _, _, _, _, hjax⟩ := h
  have hmod : s.modJogs (fun r => r.axis == e.axis && !r.closing) JogRecord.release =
      s.withMoves { entries := [e], jogs := [j.released] } := by
    unfold State.modJogs
    rw [hm]
    show s.withMoves { entries := [e], jogs := [if (j.axis == e.axis && !j.closing) = true then j.release else j] } = _
    rw [if_pos (by rw [hjax, hj, beq_self_eq_true]; rfl)]
    rfl
  unfold State.depart
  rw [hmod]
  dsimp only
  rw [State.entryOf_one (s := s.withMoves _) (js := [j.released]) (k := 0) rfl]

/-- R37, R82: what the departure of the jog's axis leaves of its unit, the move list and the engine. -/
structure State.Departed (s : State) (e : MoveEntry) (j : JogRecord) (u : AxisUnit) (m : MoveList) (g : RecallEngine) :
    Prop where
  list : ∃ w, (∀ x ∈ w.entries, x.axis = e.axis) ∧ (∀ r ∈ w.jogs, r.axis = e.axis) ∧
    s.depart e.axis = (s.setAxis e.axis u).withMoves w ∧
    ∀ t : State, t.moves = w → t.engine = s.engine → t.conclude [] = { t with moves := m, engine := g }

section Departs

variable {s : State} {e : MoveEntry} {j : JogRecord}

/-- R82: the record of a departed axis whose entry has ended closes, ABORTED without an abort cause. -/
theorem State.departed_ended (h : s.oneJog e j) (hb : j.backoff = false) (hab : j.abortSource = none) {u : AxisUnit} {k : Nat}
    (hd : s.depart e.axis = (s.setAxis e.axis u).withMoves
      { jogs := [j.released.takeReport e .aborted (s.axis e.axis).position], walksDue := k }) :
    s.Departed e j u {} (s.jogClosed j .aborted (s.axis e.axis).position none).engine := by
  obtain ⟨_, hact, hcl, _, hcause, hjax⟩ := h
  have hrep := JogRecord.takeReport_jog (j := j.released) hcause (by show j.abortSource ≠ _; rw [hab]; decide) .aborted
    (s.axis e.axis).position
  rw [hrep] at hd
  refine ⟨_, fun x hx => absurd hx List.not_mem_nil, fun r hr => by rw [List.mem_singleton.mp hr]; exact hjax.symm, hd, fun t hm he => ?_⟩
  refine (State.conclude_jogClosed hm rfl hb (by rw [he]; exact hact) (by rw [he]; exact hcl) rfl rfl []).trans ?_
  have hcause' : ({ j.released.ended .aborted (s.axis e.axis).position with
      abortSource := if AxisOutcome.aborted = .aborted then some .maskDeparture else none } : JogRecord).stopCause .aborted =
        none := if_neg fun k => by cases k.2
  rw [hcause']
  unfold State.jogClosed
  rw [he]
  rfl

/-- R37: the entry of a departed axis goes on settling. -/
theorem State.departed_settles (h : s.oneJog e j) {f : MoveEntry} {u : AxisUnit} {k : Nat} (hf : f.owner = e.owner)
    (hfa : f.axis = e.axis) (hfs : f.state = .settling)
    (hd : s.depart e.axis = (s.setAxis e.axis u).withMoves { entries := [f], jogs := [j.released], walksDue := k }) :
    s.Departed e j u { entries := [f], jogs := [j.released] } s.engine := by
  obtain ⟨_, hact, hcl, hown, _, hjax⟩ := h
  refine ⟨_, fun x hx => by rw [List.mem_singleton.mp hx]; exact hfa,
    fun r hr => by rw [List.mem_singleton.mp hr]; exact hjax.symm, hd, fun t hm he => ?_⟩
  refine (State.conclude_busy hm (by rw [hfs]; decide)
    ⟨fun _ hj _ => by rw [List.mem_singleton.mp hj, hf]; exact hown, by rw [he]; exact hcl,
      fun op hop => by rw [he, hact] at hop; cases hop⟩ []).trans ?_
  rw [← he]

theorem State.departed_waiting (h : s.oneQueued e j) :
    s.Departed e j (s.axis e.axis) {} (s.jogClosed j .aborted (s.axis e.axis).position none).engine := by
  obtain ⟨hone, hs, hj, hab, hb⟩ := h
  refine State.departed_ended hone hb hab (k := 1) ?_
  rw [State.depart_jog hone hj, State.stopEntry_waitingJog (s := s.withMoves _) (j := j.released) (k := 0) (h := byDeparture)
    rfl hone.2.2.2.1 nofun nofun hs, State.setAxis_axis]
  rfl

theorem State.departed_mirror (h : s.oneDrive e j) (hb : j.backoff = false) (hc : e.axis.counted = false) :
    s.Departed e j (s.axis e.axis).stopped {} (s.jogClosed j .aborted (s.axis e.axis).position none).engine := by
  obtain ⟨hone, hs, hj, hab, hd⟩ := h
  refine State.departed_ended hone hb hab (k := 2) ?_
  rw [State.depart_jog hone hj, State.stopEntry_mirrorJog (s := s.withMoves _) (j := j.released) (k := 0) (h := byDeparture)
    rfl hone.2.2.2.1 nofun nofun hs hc hd]
  rfl

theorem State.departed_counted (h : s.oneDrive e j) (hc : e.axis.counted = true) :
    s.Departed e j (s.axis e.axis).coasting
      { entries := [e.settles (.decided .aborted)], jogs := [j.released] } s.engine := by
  obtain ⟨hone, hs, hj, hab, hd⟩ := h
  refine State.departed_settles hone rfl rfl rfl (k := 1) ?_
  rw [State.depart_jog hone hj, State.stopEntry_counted (s := s.withMoves _) (js := [j.released]) (k := 0) rfl hs hc hd,
    show (e.stopAll || byDeparture.stopAll) = e.stopAll from Bool.or_false _]
  rfl

theorem State.departed_settling (h : s.oneSettling e j) : s.Departed e j (s.axis e.axis)
    { entries := [{ e with disposition := some (.decided .aborted), noBackoff := true }], jogs := [j.released] } s.engine := by
  obtain ⟨hone, hs, hj, hab⟩ := h
  refine State.departed_settles hone rfl rfl hs (k := 0) ?_
  rw [State.depart_jog hone hj, State.stopEntry_settling (s := s.withMoves _) (js := [j.released]) (k := 0) rfl hs,
    show (e.stopAll || byDeparture.stopAll) = e.stopAll from Bool.or_false _,
    show (e.noBackoff || byDeparture.noBackoff) = true from Bool.or_true _, State.setAxis_axis]
  rfl

end Departs

/-- R35, R37: SET_ENABLE_MASK where the one jog's axis departs. -/
theorem exec_departs {s : State} {mask : BitVec 16} {e : MoveEntry} {j : JogRecord} (k : s.ready .fleet)
    (hp : s.commitPlace 49 = true) (heff : s.isEffective e.axis = true) (hmask : mask.getLsbD e.axis.val = false)
    (hm : s.moves = { entries := [e], jogs := [j] }) (hjax : e.axis = j.axis) {u : AxisUnit} {m : MoveList}
    {g : RecallEngine}
    (h : State.Departed
      { s.written .fleet (.setEnableMask mask) with van := { s.van with enable := mask.setWidth 10 } } e j u m g) :
    ∃ t, exec (.setEnableMask mask) s = .next t ∧ s.onlyIn t [.ports, .van, .store, .axes, .moves, .engine] ∧
      t.van = { s.van with enable := mask.setWidth 10 } ∧ t.store.vanState = .pending ∧ s.tookCommit t 49 ∧
      s.answersWith t .fleet (.setEnableMask mask)
        { code := .ok, fields := enc16 ((s.fitted &&& mask.setWidth 10).setWidth 16) } noEvents ∧
      (∀ a, a ≠ e.axis → t.axis a = s.axis a) ∧ t.axis e.axis = u ∧ t.moves = m ∧ t.engine = g := by
  let s0 := s.written .fleet (.setEnableMask mask)
  let masked : State := { s0 with van := { s0.van with enable := mask.setWidth 10 } }
  obtain ⟨w, hw1, hw2, hdep, hconc⟩ := h
  have hdepart : (s0.leaving mask).foldl State.depart masked = (masked.setAxis e.axis u).withMoves w := by
    refine (State.foldl_depart_one ?_ ((s0.mem_leaving mask e.axis).mpr ⟨heff, hmask⟩) fun t ht => ?_).trans hdep
    · exact List.Nodup.filter _ (List.nodup_finRange 10)
    · rcases ht with rfl | rfl
      · show (∀ x ∈ s.moves.entries, _) ∧ ∀ r ∈ s.moves.jogs, _
        rw [hm]
        exact ⟨fun x hx => by rw [List.mem_singleton.mp hx], fun r hr => by rw [List.mem_singleton.mp hr]; exact hjax.symm⟩
      · rw [show masked.depart e.axis = _ from hdep]
        exact ⟨hw1, hw2⟩
  let d := (masked.setAxis e.axis u).withMoves w
  have hframe := d.commit_frame vanBlock
  have hv : s0.handle .fleet (.setEnableMask mask) =
      ({ d.commit vanBlock with moves := m, engine := g }, okWith (encMask masked.effective)) := by
    refine (s0.reqSetEnableMask_eq mask).trans ?_
    rw [if_neg (show ¬s0.commitPlace vanBlock = false from fun h => by cases hp.symm.trans h), hdepart]
    exact congrArg (Prod.mk · _) (hconc _ hframe.moves hframe.engine)
  have hd : s0.onlyIn d [.van, .axes, .moves] :=
    (((s0.onlyIn_van _).mono (by simp)).trans ((masked.onlyIn_setAxis _ u).mono (by simp))).trans
      ((State.onlyIn_withMoves _ w).mono (by simp))
  have htook : s0.tookCommit (d.commit vanBlock) vanBlock :=
    State.tookCommit_commit (hd .store (by simp)) (by show s.power.state ≠ .park; rw [k.2.1]; decide) hp
  have hd2 : (d.commit vanBlock).onlyIn { d.commit vanBlock with moves := m, engine := g } [.moves, .engine] :=
    ((State.onlyIn_withMoves _ m).mono (by simp)).trans ((State.onlyIn_engine _ g).mono (by simp))
  obtain ⟨t, ht, hst, hvt, hans⟩ := exec_changes (c := .setEnableMask mask) rfl k rfl (Request.length_frame_le _ nofun) hv
    (ps := [.ports, .van, .store, .axes, .moves, .engine])
    ((hd.mono (by simp)).trans (((State.commit_only_store rfl d).mono (by simp)).trans (hd2.mono (by simp)))) (by simp)
    (State.gains_of_ports hframe.ports)
  have hdt : (d.commit vanBlock).onlyIn t [.ports, .moves, .engine] := (hd2.mono (by simp)).trans (hvt.mono (by simp))
  have haxis : ∀ a, t.axis a = d.axis a := State.axis_congr ((hdt .axes (by simp)).trans hframe.axes)
  refine ⟨t, ht, hst, (hdt .van (by simp)).trans hframe.van, ?_, ?_, hans, fun a ha => ?_, ?_, hvt .moves (by simp),
    hvt .engine (by simp)⟩
  · have hstore : t.store = (d.commit vanBlock).store := hdt .store (by simp)
    rw [hstore, (d.commit_storage vanBlock).2.1]
    rfl
  · have htook' : s.tookCommit { d.commit vanBlock with moves := m, engine := g } vanBlock := htook
    exact htook'.after_ports hvt
  · exact (haxis a).trans (State.axis_setAxis_other masked u ha)
  · exact (haxis _).trans (State.axis_setAxis_same masked _ u)

end Sys2Proof.Machine

namespace Sys2Proof

open Machine

/-- Settles O52: the jog's entry settles to ABORTED, and a second STOP_ALL finds nothing of it. -/
theorem stopAllEndsTheDrive : Obligations.StopAllEndsTheDrive := by
  unfold Obligations.StopAllEndsTheDrive
  intro s p k
  refine ⟨fun hq => ?_, fun e j h hc => ?_⟩
  · refine exec_answered (c := .stopAll p) rfl k (by cases p <;> rfl) (Request.length_frame_le _ nofun) fun u => ?_
    have hq' : (s.setPort p u).quiet := hq
    refine State.reqStopAll_nothing hq'.2.1 ?_ ?_ (State.conclude_settled (State.settled_of_quiet hq') [])
    · rw [hq'.1]
      exact fun x hx => absurd hx List.not_mem_nil
    · rw [hq'.1]
      exact fun x hx => absurd hx List.not_mem_nil
  · have hdrive : (s.written p .stopAll).oneDrive e j := h
    obtain ⟨t, ht, hst, hvt, hans⟩ := exec_changes (c := .stopAll p) rfl k (by cases p <;> rfl) (Request.length_frame_le _ nofun)
      (State.reqStopAll_drive hdrive hc) (ps := [.ports, .axes, .moves])
      (((State.onlyIn_setAxis _ _ _).mono (by simp)).trans ((State.onlyIn_withMoves _ _).mono (by simp))) (by simp)
      (State.gains_of_ports rfl)
    have haxis := State.axis_congr (hvt .axes (by simp))
    have hmoves := hvt .moves (by simp)
    refine ⟨t, ht, hst, hans, hmoves, (haxis _).trans (State.axis_setAxis_same _ _ _),
      fun b hb => (haxis b).trans (State.axis_setAxis_other _ _ hb), fun q hq => ?_⟩
    have ha' : t.engine.active = none := by
      rw [show t.engine = s.engine from hvt .engine (by simp)]
      exact h.1.2.1
    have hcl' : t.engine.closing = [] := by
      rw [show t.engine = s.engine from hvt .engine (by simp)]
      exact h.1.2.2.1
    refine exec_answered (c := .stopAll q) rfl hq (by cases q <;> rfl) (Request.length_frame_le _ nofun) fun u => ?_
    have hm : (t.setPort q u).moves = { entries := [e.stoppedByAll], jogs := [j.stopped] } := hmoves
    refine State.reqStopAll_nothing (s := t.setPort q u) ha' ?_ ?_ ?_
    · rw [hm]
      exact fun x hx => by rw [List.mem_singleton.mp hx]; rfl
    · rw [hm]
      exact fun x hx => by rw [List.mem_singleton.mp hx]; exact Bool.and_false _
    · refine (State.conclude_busy (k := 0) hm nofun
        ⟨fun _ hx _ => by rw [List.mem_singleton.mp hx]; exact h.1.2.2.2.1, hcl', fun op hop => by cases ha'.symm.trans hop⟩
        []).trans ?_
      rw [← hm]

/-- Settles O41: by the state of the departed axis's entry. -/
theorem departingAxisEndsItsMove : Obligations.DepartingAxisEndsItsMove := by
  unfold Obligations.DepartingAxisEndsItsMove
  intro s mask e j k hstate hb hp heff hmask x
  have hone : s.oneJog e j := hstate.elim (·.1) (·.elim (·.1) (·.1))
  obtain ⟨hm, _, _, _, _, hjax⟩ := id hone
  have hdeparts := fun u m g => exec_departs (u := u) (m := m) (g := g) k hp heff hmask hm hjax
  rcases hstate with h | h | h
  · obtain ⟨t, h1, h2, h3, h4, h5, h6, h7, h8, h9, h10⟩ := hdeparts _ _ _ (State.departed_waiting h)
    have hs : e.state = .waiting := h.2.1
    exact ⟨t, h1, h2, h3, h4, h5, h6, h7, fun _ => ⟨h8, h9, h10⟩, fun h => (by cases hs.symm.trans h),
      fun h => (by cases hs.symm.trans h), fun h => (by cases hs.symm.trans h)⟩
  · have hs : e.state = .driving := h.2.1
    by_cases hc : e.axis.counted = true
    · obtain ⟨t, h1, h2, h3, h4, h5, h6, h7, h8, h9, h10⟩ := hdeparts _ _ _ (State.departed_counted h hc)
      refine ⟨t, h1, h2, h3, h4, h5, h6, h7, fun h => (by cases hs.symm.trans h), fun _ hmir => ?_, fun _ _ => ⟨h8, h9, h10⟩,
        fun h => (by cases hs.symm.trans h)⟩
      rw [Axis.mirror_eq, hc] at hmir
      cases hmir
    · obtain ⟨t, h1, h2, h3, h4, h5, h6, h7, h8, h9, h10⟩ :=
        hdeparts _ _ _ (State.departed_mirror h hb (Bool.eq_false_iff.mpr hc))
      exact ⟨t, h1, h2, h3, h4, h5, h6, h7, fun h => (by cases hs.symm.trans h), fun _ _ => ⟨h8, h9, h10⟩,
        fun _ h => absurd h hc, fun h => (by cases hs.symm.trans h)⟩
  · obtain ⟨t, h1, h2, h3, h4, h5, h6, h7, h8, h9, h10⟩ := hdeparts _ _ _ (State.departed_settling h)
    have hs : e.state = .settling := h.2.1
    exact ⟨t, h1, h2, h3, h4, h5, h6, h7, fun h => (by cases hs.symm.trans h), fun h => (by cases hs.symm.trans h),
      fun h => (by cases hs.symm.trans h), fun _ => ⟨h8, h10, h9⟩⟩

end Sys2Proof
end

section
/-! PROOF. A fall of the budget to 0 under a driving jog (04, section 4.5). -/

namespace Sys2Proof.Machine

theorem demand_pos (a : Axis) : 0 < demand a := by
  revert a
  decide

/-- R66, R67: a walk over one WAITING entry that lacks budget. -/
theorem State.walkOnce_lacks {s : State} {e : MoveEntry} (he : s.moves.entries = [e]) (hs : e.state = .waiting)
    (hb : s.budget < demand e.axis) (ex : List Axis) : s.walkOnce ex = s := by
  have hf : s.entryOf e.axis = some e := by simp [State.entryOf, he]
  have hd : ¬demand e.axis ≤ s.freeBudget := by
    have hfree : s.freeBudget ≤ s.budget := Nat.sub_le _ _
    omega
  unfold State.walkOnce
  split
  · rw [he]
    simp only [List.map_cons, List.map_nil, List.foldl_cons, List.foldl_nil]
    unfold Walk.visit
    simp only [hf, hs, hd, ne_eq, not_true_eq_false, Bool.false_eq_true, ↓reduceIte]
    split <;> exact raisePass_nil _
  · rfl

/-- R65: however many walks are due, the one WAITING entry goes on waiting where it lacks budget. -/
theorem State.arbiter_lacks {s : State} {e : MoveEntry} (he : s.moves.entries = [e]) (hs : e.state = .waiting)
    (hb : s.budget < demand e.axis) (ex : List Axis) : s.arbiter ex = s.walked :=
  State.arbiter_still ex (fun k => State.walkOnce_lacks (s := s.withDue k) he hs hb ex)
    fun k => State.walkOnce_lacks (s := s.withDue k) he hs hb []

/-- R68: a fall of the budget to 0 revokes the one driving entry. -/
theorem State.revokeToFit_one {s : State} {e : MoveEntry} (he : s.moves.entries = [e]) (hs : e.state = .driving)
    (hb : s.budget = 0) : s.revokeToFit = ((s.revoke e).askWalk, [e.axis]) := by
  have hf : s.entryOf e.axis = some e := by simp [State.entryOf, he]
  have hdrawn : s.drawn = demand e.axis := by simp [State.drawn, he, hs]
  have hover : ¬s.drawn ≤ s.budget := by
    have := demand_pos e.axis
    rw [hdrawn, hb]
    omega
  have hwalk : revokeWalk (s.moves.entries.map (·.axis)).reverse s [] = (s.revoke e, [e.axis]) := by
    rw [he]
    show revokeWalk [e.axis] s [] = _
    rw [revokeWalk, if_neg hover, hf]
    exact (if_pos hs).trans rfl
  unfold State.revokeToFit
  rw [hwalk]
  rfl

/-- R68, R69: the unit and the entry of a driving axis that is revoked. -/
def MoveEntry.revoked (e : MoveEntry) : MoveEntry :=
  if e.axis.counted then e.settles .resume else { e with state := .waiting, timeLimit := none }

theorem State.revoke_one {s : State} {e : MoveEntry} {js : List JogRecord} {k : Nat}
    (hm : s.moves = { entries := [e], jogs := js, walksDue := k }) :
    (s.revoke e).askWalk = (s.setAxis e.axis ((s.axis e.axis).cut e.axis false)).withMoves
      { entries := [e.revoked], jogs := js, walksDue := k + 1 } := by
  have hcut : (s.cutMotor e.axis false).moves = { entries := [e], jogs := js, walksDue := k } := hm
  unfold State.revoke MoveEntry.revoked
  by_cases hc : e.axis.counted = true
  · rw [if_pos hc, if_pos hc]
    exact congrArg State.askWalk (State.setEntry_one (f := e.settles .resume) hcut rfl)
  · rw [if_neg hc, if_neg hc]
    exact congrArg State.askWalk (State.setEntry_one (f := { e with state := .waiting, timeLimit := none }) hcut rfl)

/-- R68, R86: what a fall of the budget to 0 makes of the one driving jog. -/
theorem handOnConclude_revokes {s t : State} {e : MoveEntry} {j : JogRecord} (h : t.oneDrive e j) (harm : t.engine.arm = none)
    (hret : t.engine.returnAllowed = false) (hb : t.budget = 0) (hs : 0 < s.budget) :
    (handOn s t).1.conclude (handOn s t).2 =
      (t.setAxis e.axis ((t.axis e.axis).cut e.axis false)).withMoves { entries := [e.revoked], jogs := [j] } := by
  obtain ⟨⟨hm, hact, hcl, hown, _, _⟩, hdr, _, _, _⟩ := h
  obtain ⟨k, -, hk⟩ := handOn_eq s t
  rw [handedOn_unarmed hact harm hret, if_pos (show t.budget < s.budget by omega)] at hk
  have hmk : (t.withDue k).moves = { entries := [e], jogs := [j], walksDue := k } := by
    show { t.moves with walksDue := k } = _
    rw [hm]
  rw [State.revokeToFit_one (s := t.withDue k) (by rw [hmk]) hdr hb, State.revoke_one hmk] at hk
  rw [hk]
  let r := (t.setAxis e.axis ((t.axis e.axis).cut e.axis false)).withMoves
    { entries := [e.revoked], jogs := [j], walksDue := k + 1 }
  have howner : e.revoked.owner = .jog j.id := by unfold MoveEntry.revoked; split <;> exact hown
  have howned : r.ownedBy e.revoked [j] :=
    ⟨fun _ hj _ => by rw [List.mem_singleton.mp hj]; exact howner, hcl, fun op hop => by cases hact.symm.trans hop⟩
  show r.conclude [e.axis] = r.withMoves { entries := [e.revoked], jogs := [j] }
  by_cases hw : e.revoked.state = .waiting
  · refine State.conclude_arbitrated (State.arbiter_lacks (s := r) (e := e.revoked) rfl hw ?_ _) rfl howned
    show t.budget < _
    rw [hb]
    exact demand_pos _
  · exact State.conclude_busy (s := r) (k := k + 1) rfl hw howned _

end Sys2Proof.Machine

namespace Sys2Proof

open Machine

/-- Settles O19: the budget falls to 0, and nothing is granted. -/
theorem crankRevokesTheDrive : Obligations.CrankRevokesTheDrive := by
  unfold Obligations.CrankRevokesTheDrive
  intro s e j speed gear door supply k hdrive harm hret hfresh hbud
  let r := (decReport speed gear 3 door supply).1
  let clamped := (decReport speed gear 3 door supply).2
  let v := s.written .vehicle (.vehicleState speed gear 3 door supply)
  obtain ⟨honly, hmon, hgains⟩ := State.reported_unarmed (s := v) harm r clamped
  let t0 := v.reported r clamped
  have hcrank : r.ignition = .crank := rfl
  have hbudget : t0.budget = 0 := by
    unfold State.budget
    rw [hmon]
    unfold budgetOf
    rw [hcrank]
    rfl
  have hengine : t0.engine = s.engine := honly .engine (by simp)
  have hmoves : t0.moves = s.moves := honly .moves (by simp)
  have haxis0 : ∀ a, t0.axis a = s.axis a := State.axis_congr (honly .axes (by simp))
  have hdrive0 : t0.oneDrive e j := by
    obtain ⟨⟨hm, hact, hcl, hown, hcause, hjax⟩, hdr, hj, hab, hd⟩ := hdrive
    exact ⟨⟨hmoves.trans hm, by rw [hengine]; exact hact, by rw [hengine]; exact hcl, hown, hcause, hjax⟩, hdr, hj, hab,
      by rw [haxis0]; exact hd⟩
  let w := (t0.setAxis e.axis ((t0.axis e.axis).cut e.axis false)).withMoves { entries := [e.revoked], jogs := [j] }
  have happly : v.applyReport r clamped = w :=
    handOnConclude_revokes (s := v) hdrive0 ((congrArg RecallEngine.arm hengine).trans harm)
      ((congrArg RecallEngine.returnAllowed hengine).trans hret) hbudget hbud
  have hw : t0.onlyIn w [.axes, .moves] :=
    ((State.onlyIn_setAxis _ _ _).mono (by simp)).trans ((State.onlyIn_withMoves _ _).mono (by simp))
  have hv := v.reqVehicleState_eq speed gear 3 door supply
  have hports : w.ports = t0.ports := hw .ports (by simp)
  obtain ⟨t, ht, hs, hvt, -⟩ := exec_changes (c := .vehicleState speed gear 3 door supply) rfl k rfl
    (Request.length_frame_le _ nofun) (hv.trans (congrArg (·, _) happly)) (ps := [.ports, .monitor, .axes, .moves])
    ((honly.mono (by simp)).trans (hw.mono (by simp))) (by simp) (hgains.trans (State.gains_of_ports hports))
  have haxis : ∀ a, t.axis a = w.axis a := State.axis_congr (hvt .axes (by simp))
  have hunit : t.axis e.axis = (s.axis e.axis).cut e.axis false := by
    rw [haxis]
    exact (State.axis_setAxis_same t0 _ _).trans (by rw [haxis0])
  have hlist : t.moves = { entries := [e.revoked], jogs := [j] } := hvt .moves (by simp)
  have hd : (s.axis e.axis).driving = true := hdrive.2.2.2.2
  refine ⟨t, ht, hs, fun a ha => ?_, fun hc => ⟨?_, ?_⟩, fun hc => ?_⟩
  · rw [haxis]
    exact (State.axis_setAxis_other t0 _ ha).trans (haxis0 a)
  · rw [hunit, AxisUnit.cut_counted hd hc]
  · rw [hlist, show e.revoked = e.settles .resume from if_pos hc]
  · rw [Axis.mirror_eq, Bool.not_eq_true'] at hc
    rw [hunit, AxisUnit.cut_mirror hd hc, hlist]
    refine ⟨rfl, ?_⟩
    rw [show e.revoked = { e with state := .waiting, timeLimit := none } from if_neg (by rw [hc]; decide)]

end Sys2Proof
end

section
/-! PROOF. A RECALL and an UNDO that start (07, sections 7.2, 7.3 and 7.8): the plan, and the phase of the one axis it
moves, or the close in the same action where it moves none. -/

namespace Sys2Proof.Machine

/-! ## The start of an operation -/

/-- R124, R105: an operation has started. -/
def State.opStarted (s : State) (op : Operation) : State :=
  { s with
    engine := { s.engine with active := some op }
    table := { s.table with counter := min (s.table.counter + 1) 4294967295 }
    model := { s.model with nextId := s.model.nextId + 1 } }

theorem State.startOp_eq (s : State) (k : OpKind) (p : Port) (st : Stage) (src : Source) (es : List OutcomeEntry)
    (conf : Confidence) : s.startOp k p st src es conf = s.opStarted
      { id := s.model.nextId, kind := k, tag := s.table.counter, requester := p, stage := st, source := src, outcomes := es
        startConfidence := conf } := rfl

theorem State.onlyIn_opStarted (s : State) (op : Operation) : s.onlyIn (s.opStarted op) [.engine, .table, .model] := by
  intro p hp
  cases p <;> first | rfl | exact absurd (by simp) hp

theorem State.planAxis_congr {s t : State} (hv : t.van = s.van) (hf : t.fitted = s.fitted) {a : Axis}
    (ha : t.axis a = s.axis a) (src : Source) : t.planAxis src a = s.planAxis src a := by
  unfold State.planAxis State.suspectNow
  rw [State.testAxis_congr hv hf ha, ha]

theorem State.planAxis_axis (s : State) (src : Source) (a : Axis) : (s.planAxis src a).axis = a := by
  unfold State.planAxis
  cases s.testAxis src a <;> rfl

theorem State.planAxis_error {s : State} {src : Source} {a : Axis} {o : AxisOutcome} (h : s.testAxis src a = .error o) :
    (s.planAxis src a).planned = false ∧ (s.planAxis src a).outcome = some o := by
  unfold State.planAxis
  rw [h]
  exact ⟨rfl, rfl⟩

theorem State.planAxis_ok {s : State} {src : Source} {a : Axis} {g : Int} {c : Bool} (h : s.testAxis src a = .ok (g, c)) :
    s.planAxis src a = { axis := a, planned := true, from_ := (s.axis a).position, target := some g, clamped := c } := by
  unfold State.planAxis
  rw [h]

/-! ## The one axis of a plan -/

/-- R128: of an operation's outcome list one axis's entry is planned, as it stands in the plan. -/
abbrev Operation.plansOne (op : Operation) (a : Axis) (x g : Int) (c : Bool) : Prop :=
  (∃ y ∈ op.outcomes, y.axis = a) ∧ ∀ y ∈ op.outcomes,
    (y.axis = a → y = { axis := a, planned := true, from_ := x, target := some g, clamped := c }) ∧
    (y.axis ≠ a → y.planned = false)

theorem OutcomeEntry.phase1Target_unplanned {y : OutcomeEntry} (h : y.planned = false) : y.phase1Target = none := by
  unfold OutcomeEntry.phase1Target
  rw [h]
  rfl

/-- R129: the PHASE_1 target of the axis of a plan. -/
theorem OutcomeEntry.phase1Target_planned (a : Axis) (x g : Int) (c : Bool) :
    ({ axis := a, planned := true, from_ := x, target := some g, clamped := c } : OutcomeEntry).phase1Target =
      if firstPhase a x g = .phase1 then some g else none := by
  unfold OutcomeEntry.phase1Target firstPhase
  dsimp only
  by_cases h1 : a.mirror = true
  · simp [h1]
  · by_cases h2 : a = .rake ∧ x < g
    · simp [h2]
    · by_cases h3 : a = .reach ∧ g < x
      · simp [h3]
      · simp only [h1, h2, h3, Bool.false_eq_true, ↓reduceIte, or_self]
        split <;> rfl

theorem mem_phase1Axes {a : Axis} {x g : Int} (h : firstPhase a x g = .phase1) :
    a ∈ ([.lmh, .lmv, .rmh, .rmv, .rake, .reach] : List Axis) := by
  unfold firstPhase at h
  split at h
  next h1 =>
    rcases h1 with h1 | h1 | h1
    · revert h1; revert a; decide
    · rw [h1.1]; decide
    · rw [h1.1]; decide
  next => split at h <;> cases h

/-- R130, R131: an axis that first moves in a later phase is a seat axis or a column axis. -/
theorem firstPhase_later {a : Axis} {x g : Int} (h : firstPhase a x g ≠ .phase1) :
    a.counted = true ∧ (a.val < 4 ∨ a = .rake ∨ a = .reach) ∧
      firstPhase a x g = if a.val < 4 then .phase2 else .phase3 := by
  unfold firstPhase at h ⊢
  split at h
  next => exact absurd rfl h
  next hno =>
    rw [if_neg hno]
    have hmir : ¬a.mirror = true := fun k => hno (.inl k)
    refine ⟨?_, ?_, rfl⟩
    · revert hmir; clear hno h; revert a; decide
    · revert hmir; clear hno h; revert a; decide

/-- R129 to R131: the state in which an operation that has just started drives its one axis. -/
def State.opDrives (s : State) (op : Operation) (a : Axis) (g : Int) : State :=
  ((s.setAxis a ((s.axis a).drivenTo a g false)).withMoves
    { entries := [(op.entry a (.target g)).granted (1000 + 2 * (g - (s.axis a).position).natAbs * s.msPerCount a)]
      }).withActive (some { op.told with stage := firstPhase a (s.axis a).position g })

section PlansOne

variable {s : State} {op : Operation} {a : Axis} {g : Int} {c : Bool} (hm : s.moves = {}) (ha : s.engine.active = some op)
  (hc : s.engine.closing = []) (hr : s.power.state = .run) (hst : op.stage = .phase1)
  (hone : op.plansOne a (s.axis a).position g c) (ht : s.testAxis op.source a = .ok (g, c))
  (hi : (s.axis a).motion = .idle) (hb : demand a ≤ s.budget)
  (hd : deadband a < ((s.axis a).position - g).natAbs)

include ha hone in
theorem State.phase1Target_eq (b : Axis) : (s.activeEntry b).bind OutcomeEntry.phase1Target =
    if b = a ∧ firstPhase a (s.axis a).position g = .phase1 then some g else none := by
  obtain ⟨⟨z, hz, hza⟩, hall⟩ := hone
  cases hy : s.activeEntry b with
  | none =>
    rw [if_neg]
    · rfl
    · rintro ⟨rfl, _⟩
      unfold State.activeEntry at hy
      rw [ha] at hy
      exact List.find?_eq_none.mp hy z hz (by simpa using hza)
  | some y =>
    obtain ⟨hmem, hax⟩ := State.activeEntry_mem ha hy
    by_cases hba : b = a
    · rw [Option.bind_some, (hall y hmem).1 (hax.trans hba), OutcomeEntry.phase1Target_planned]
      simp [hba]
    · rw [if_neg fun k => hba k.1]
      exact OutcomeEntry.phase1Target_unplanned ((hall y hmem).2 (by rw [hax]; exact hba))

include hm ha hc hr hst hone ht hi hb hd

/-- R129 to R131: the operation passes the phases with nothing to move and drives its one axis in its phase. -/
theorem State.plan_drives (hp : op.phased) : s.enterPhase1.conclude [] = s.opDrives op a g := by
  obtain ⟨_, _, _, hhot, hfault⟩ := State.testAxis_ok ht
  have htarget := State.phase1Target_eq ha hone
  by_cases h1 : firstPhase a (s.axis a).position g = .phase1
  · have hadmit := State.admitOp_target hm ha hc hr hi hhot hb hfault hd
    have hphase : s.enterPhase1 = s.admitOp a (.target g) := by
      refine State.admitPhase_one (mem_phase1Axes h1) (by decide) ((htarget a).trans (if_pos ⟨rfl, h1⟩))
        (fun b _ hba => (htarget b).trans (if_neg fun k => hba k.1)) fun b => ?_
      rw [hadmit]
      unfold State.activeEntry
      rw [ha]
      rfl
    have hstage : s.opDrives op a g = ((s.setAxis a ((s.axis a).drivenTo a g false)).withMoves
        { entries := [(op.entry a (.target g)).granted (1000 + 2 * (g - (s.axis a).position).natAbs * s.msPerCount a)]
          }).withActive (some op.told) := by
      unfold State.opDrives
      rw [h1, ← hst]
      rfl
    rw [hphase, hadmit, hstage]
    refine State.conclude_settled ?_ []
    exact State.settled_ofOp (op := op.told) (e := (op.entry a (.target g)).granted _) rfl rfl hc rfl
  · obtain ⟨hcount, hplace, hfirst⟩ := firstPhase_later h1
    have hphase : s.enterPhase1 = s := State.admitPhase_none fun b _ => (htarget b).trans (if_neg fun k => h1 k.2)
    have hretest : retested op.outcomes a g c = op.outcomes := by
      refine (List.map_congr_left fun y hy => ?_).trans (List.map_id _)
      split
      next hya => rw [(hone.2 y hy).1 hya]; rfl
      next => rfl
    have hbegin := State.conclude_begins (k := 0) hm ha hc hr hp (b := a) (g := g) (c := c)
      (fun y hy => ⟨fun hya => ⟨hp, ?_⟩, fun hya k => ?_⟩) hone.1 ht hi hb
      (by rw [deadband, if_pos hcount] at hd; exact hd) (.inl hst) []
    · rw [hphase, hbegin]
      unfold State.phaseBegun State.opDrives Operation.begun
      rw [hretest, hfirst]
      rfl
    · rw [(hone.2 y hy).1 hya]
      refine ⟨rfl, .inl rfl, ?_⟩
      rcases hplace with h | h
      · exact .inl ⟨hst, h⟩
      · exact .inr ⟨by rw [hst]; decide, h⟩
    · have := (hone.2 y hy).2 hya
      rw [k.2.1] at this
      cases this

end PlansOne

/-! ## RECALL -/

/-- R127: the operation of a RECALL. -/
abbrev State.recallOp (s : State) (p : Port) (src : Source) : Operation :=
  { id := s.model.nextId, kind := .recall, tag := s.table.counter, requester := p, stage := .phase1, source := src
    outcomes := allAxes.map (s.planAxis src) }

theorem State.startRecall_eq (s : State) (p : Port) (v : Vector (Option Int) 10) (slot : Option (SlotIx × Nat)) :
    s.startRecall p v slot = (s.opStarted (s.recallOp p (.positions v slot))).enterPhase1 := rfl

/-- R128: a plan that moves one axis. -/
theorem State.recallOp_plansOne {s : State} {p : Port} {src : Source} {a : Axis} {g : Int} {c : Bool}
    (h1 : s.testAxis src a = .ok (g, c)) (h2 : ∀ b, b ≠ a → ∃ o, s.testAxis src b = .error o) :
    (s.recallOp p src).plansOne a (s.axis a).position g c := by
  refine ⟨⟨s.planAxis src a, List.mem_map.mpr ⟨a, mem_allAxes a, rfl⟩, s.planAxis_axis src a⟩, fun y hy => ?_⟩
  obtain ⟨b, _, rfl⟩ := List.mem_map.mp hy
  rw [s.planAxis_axis]
  refine ⟨fun hba => ?_, fun hba => ?_⟩
  · rw [hba]
    exact State.planAxis_ok h1
  · obtain ⟨o, ho⟩ := h2 b hba
    exact (State.planAxis_error ho).1

/-- R127 to R131: a RECALL whose plan moves one axis drives it in its phase. -/
theorem State.recall_drives {s : State} {p : Port} {v : Vector (Option Int) 10} {slot : Option (SlotIx × Nat)} {a : Axis}
    {g : Int} (hm : s.moves = {}) (hc : s.engine.closing = []) (hr : s.power.state = .run)
    (h : s.oneMove (.positions v slot) a g) :
    (s.startRecall p v slot).conclude [] =
      (s.opStarted (s.recallOp p (.positions v slot))).opDrives (s.recallOp p (.positions v slot)) a g := by
  obtain ⟨⟨c, ht⟩, herr, hi, hb, hd⟩ := h
  rw [State.startRecall_eq]
  exact State.plan_drives (s := s.opStarted _) hm rfl hc hr rfl (State.recallOp_plansOne ht herr)
    ((State.testAxis_congr (s := s) rfl rfl rfl _).trans ht) hi hb hd (.inl rfl)

/-- What an operation that drives its one axis leaves of the parts. -/
theorem State.opDrives_effect (s : State) (op : Operation) (a : Axis) (g : Int) :
    s.onlyIn (s.opDrives op a g) [.axes, .moves, .engine] ∧
      (s.opDrives op a g).axis a = (s.axis a).drivenTo a g false ∧
      ∀ b, b ≠ a → (s.opDrives op a g).axis b = s.axis b := by
  obtain ⟨h1, h2⟩ := s.setAxis_frame a ((s.axis a).drivenTo a g false)
  refine ⟨?_, h1, h2⟩
  exact (((s.onlyIn_setAxis a _).mono (by simp)).trans ((State.onlyIn_withMoves _ _).mono (by simp))).trans
    ((State.onlyIn_engine _ _).mono (by simp))

/-- R127: a RECALL of the panel that passes its checks. -/
theorem State.reqRecall_starts {s : State} {i : SlotIx} (hr : s.power.state = .run) (hq : s.engine.active = none)
    (hcom : s.van.commissioned = true) (hdriver : s.table.driver = .known i) (hp : s.permitsCause .recall = true) :
    s.reqRecall = ((s.startRecall .panel (s.slot i).record.profile.positions (some (i, (s.slot i).record.driver))).conclude [],
      acceptedWith s.table.counter) := by
  rw [State.reqRecall_run hr, if_neg (by rw [hcom]; decide), if_neg (by rw [hdriver]; nofun), State.recallSource_known hdriver]
  dsimp only
  rw [hq, if_neg (by decide), if_neg (by rw [hp]; decide)]

/-! ## UNDO -/

/-- R141: the newest record that can be undone. -/
theorem find_undoable {newer older : List HistoryRecord} {r : HistoryRecord}
    (hnewer : ∀ q ∈ newer, q.cause ≠ .recall ∨ q.undone = true) (hcause : r.cause = .recall) (hundone : r.undone = false) :
    (newer ++ r :: older).find? (·.undoable) = some r ∧
      markUndone (newer ++ r :: older) = newer ++ { r with undone := true } :: older := by
  have hr : r.undoable = true := by
    unfold HistoryRecord.undoable
    rw [hcause, hundone]
    rfl
  induction newer with
  | nil => exact ⟨List.find?_cons_of_pos hr, if_pos hr⟩
  | cons q newer ih =>
    obtain ⟨h1, h2⟩ := ih fun x hx => hnewer x (List.mem_cons_of_mem _ hx)
    have hq : ¬q.undoable = true := by
      unfold HistoryRecord.undoable
      rcases hnewer q List.mem_cons_self with h | h
      · rw [beq_false_of_ne h, Bool.false_and]; decide
      · rw [h, Bool.not_true, Bool.and_false]; decide
    refine ⟨(List.find?_cons_of_neg hq).trans h1, ?_⟩
    exact (if_neg hq).trans (congrArg (List.cons q) h2)

/-- R141, R142: the operation of an UNDO. -/
abbrev State.undoOp (s : State) (r : HistoryRecord) (src : Source) : Operation :=
  { id := s.model.nextId, kind := .undo, tag := s.table.counter, requester := .panel, stage := .phase1, source := src
    outcomes := r.entries.map fun e => s.planAxis src e.axis }

theorem State.startUndo_eq (s : State) (r : HistoryRecord) :
    let op := s.undoOp r (.record r.tag (r.entries.map fun e => (e.axis, e.from_)))
    s.startUndo .panel r = State.enterPhase1
      { s.opStarted op with engine := { s.engine with active := some op, ring := markUndone s.engine.ring } } := rfl

/-- R142: the target of an UNDO of a mirror's move. -/
theorem State.testAxis_undo {s : State} {h : HistoryEntry} {tag : Nat} (hmir : h.axis.mirror = true)
    (heff : s.isEffective h.axis = true) (hhalt : (s.axis h.axis).halted = false) (hhot : (s.axis h.axis).hot = false)
    (hsens : (s.axis h.axis).sensorFault = false) :
    let g := clampInt (s.mirrorLimits h.axis).lo (s.mirrorLimits h.axis).hi h.from_
    s.testAxis (.record tag [(h.axis, h.from_)]) h.axis = .ok (g, decide (g ≠ h.from_)) := by
  intro g
  have hc : h.axis.counted = false := by
    rw [Axis.mirror_eq] at hmir
    simpa using hmir
  have haim : s.aim (.record tag [(h.axis, h.from_)]) h.axis = .target g (decide (g ≠ h.from_)) := by
    unfold State.aim
    dsimp only
    rw [List.lookup_cons_self]
    unfold State.fromTarget
    rw [hc]
    show Aim.target g (g != h.from_) = _
    congr 1
    by_cases hg : g = h.from_ <;> simp [hg]
  have hskip : s.skipTest h.axis = none := by
    unfold State.skipTest
    simp [heff, hc, hhalt, hhot, hsens]
  unfold State.testAxis
  rw [haim, hskip]

/-- R141: an UNDO of the panel that passes its checks. -/
theorem State.reqUndo_starts {s : State} {r : HistoryRecord} (hr : s.power.state = .run) (hq : s.engine.active = none)
    (hcom : s.van.commissioned = true) (hp : s.permitsCause .undo = true)
    (hfind : s.engine.ring.find? (·.undoable) = some r) :
    s.reqUndo = ((s.startUndo .panel r).conclude [], acceptedWith s.table.counter) := by
  rw [State.reqUndo_run hr, if_neg (by rw [hcom]; decide), hq, if_neg (by decide), hfind]
  dsimp only
  rw [if_neg (by rw [hp]; decide)]

/-- R141, R142: an UNDO of a record with one entry drives its axis back. -/
theorem State.undo_drives {s : State} {r : HistoryRecord} {h : HistoryEntry} {g : Int} {c : Bool} (hm : s.moves = {})
    (hc : s.engine.closing = []) (hr : s.power.state = .run) (hentries : r.entries = [h])
    (ht : s.testAxis (.record r.tag [(h.axis, h.from_)]) h.axis = .ok (g, c)) (hi : (s.axis h.axis).motion = .idle)
    (hb : demand h.axis ≤ s.budget) (hd : deadband h.axis < ((s.axis h.axis).position - g).natAbs) :
    let op := s.undoOp r (.record r.tag [(h.axis, h.from_)])
    let u := { s.opStarted op with engine := { s.engine with active := some op, ring := markUndone s.engine.ring } }
    (s.startUndo .panel r).conclude [] = u.opDrives op h.axis g := by
  intro op u
  have hsrc : (r.entries.map fun e => (e.axis, e.from_)) = [(h.axis, h.from_)] := by
    rw [hentries]
    rfl
  have hstart : s.startUndo .panel r = u.enterPhase1 := by
    rw [State.startUndo_eq, hsrc]
  have hplans : op.plansOne h.axis (u.axis h.axis).position g c := by
    have hout : op.outcomes = [s.planAxis (.record r.tag [(h.axis, h.from_)]) h.axis] := by
      show r.entries.map _ = _
      rw [hentries]
      rfl
    have hplan := State.planAxis_ok ht
    refine ⟨⟨_, by rw [hout]; exact List.mem_singleton_self _, s.planAxis_axis _ _⟩, fun y hy => ?_⟩
    rw [hout, List.mem_singleton] at hy
    rw [hy, hplan]
    exact ⟨fun _ => rfl, fun k => absurd rfl k⟩
  rw [hstart]
  exact State.plan_drives (s := u) hm rfl hc hr rfl hplans ((State.testAxis_congr (s := s) rfl rfl rfl _).trans ht) hi hb hd
    (.inr rfl)

/-! ## A RECALL that plans nothing -/

theorem State.recallOp_unplanned {s : State} {p : Port} {src : Source} (h : ∀ a, ∃ o, s.testAxis src a = .error o) :
    ∀ y ∈ (s.recallOp p src).outcomes, y.planned = false := fun y hy => by
  obtain ⟨a, _, rfl⟩ := List.mem_map.mp hy
  obtain ⟨o, ho⟩ := h a
  exact (State.planAxis_error ho).1

/-- R127, R132: a RECALL that plans nothing passes its phases and closes. -/
theorem State.recall_closes {s : State} {p : Port} {v : Vector (Option Int) 10} {slot : Option (SlotIx × Nat)}
    (hm : s.moves = {}) (hc : s.engine.closing = []) (hr : s.power.state = .run) (harm : s.engine.arm = none)
    (hret : s.engine.returnAllowed = false) (h : ∀ a, ∃ o, s.testAxis (.positions v slot) a = .error o) :
    (s.startRecall p v slot).conclude [] = ((s.opStarted (s.recallOp p (.positions v slot))).withActive none).opClosed
      (s.recallOp p (.positions v slot)) := by
  let op := s.recallOp p (.positions v slot)
  let u := s.opStarted op
  have hnone := State.recallOp_unplanned (p := p) h
  have hphase : u.enterPhase1 = u := State.admitPhase_none fun a _ => by
    cases hy : u.activeEntry a with
    | none => rfl
    | some y => exact OutcomeEntry.phase1Target_unplanned (hnone y (State.activeEntry_mem (op := op) rfl hy).1)
  rw [State.startRecall_eq]
  show u.enterPhase1.conclude [] = _
  rw [hphase]
  have hclose := State.conclude_closes (s := u) (op := op) (k := 0) hm rfl hc hr nofun
    (.inr ⟨harm, .inl ⟨hret, nofun⟩⟩) (.inl rfl) (fun y hy k => by cases (hnone y hy).symm.trans k.2.1) []
  rw [show u.withMoves {} = u from congrArg u.withMoves hm.symm] at hclose
  exact hclose

/-- R137: the result of a RECALL that plans nothing. -/
theorem State.opResult_unplanned {s : State} {src : Source} (h : ∀ a, ∃ o, s.testAxis src a = .error o) :
    opResult (allAxes.map (s.planAxis src)) none =
      if ∀ a, s.testAxis src a = .error .absent ∨ s.testAxis src a = .error .disabled then .complete else .partly := by
  have hiff : (∀ x ∈ allAxes.map (s.planAxis src), (x.planned = true ∧ x.outcome = some .reached) ∨
      (x.planned = false ∧ (x.outcome = some .absent ∨ x.outcome = some .disabled))) ↔
      ∀ a, s.testAxis src a = .error .absent ∨ s.testAxis src a = .error .disabled := by
    rw [List.forall_mem_map]
    constructor
    · intro hall a
      obtain ⟨o, ho⟩ := h a
      obtain ⟨hpl, hout⟩ := State.planAxis_error ho
      have := hall a (mem_allAxes a)
      rw [hpl, hout] at this
      rw [ho]
      simpa using this
    · intro hall a _
      obtain ⟨o, ho⟩ := h a
      obtain ⟨hpl, hout⟩ := State.planAxis_error ho
      have := hall a
      rw [ho] at this
      rw [hpl, hout]
      simpa using this
  unfold opResult
  rw [if_neg (by decide)]
  exact if_congr hiff rfl rfl

end Sys2Proof.Machine

namespace Sys2Proof

open Machine

/-- Settles O49: the phases with nothing to move passed, the one axis driven in its own. -/
theorem recallDrivesItsOneAxis : Obligations.RecallDrivesItsOneAxis := by
  unfold Obligations.RecallDrivesItsOneAxis
  intro s i a g k hq hcom hdriver hp src hone
  let v := s.written .panel .recall
  let op := v.recallOp .panel src
  let w := (v.opStarted op).opDrives op a g
  have hv : v.handle .panel .recall = (w, acceptedWith s.table.counter) := by
    refine (State.reqRecall_starts (s := v) k.2.1 hq.2.1 hcom hdriver hp).trans ?_
    have hone' : v.oneMove src a g := hone
    exact congrArg (·, acceptedWith s.table.counter) (State.recall_drives hq.1 hq.2.2 k.2.1 hone')
  have hstart := v.onlyIn_opStarted op
  obtain ⟨honly, hax, hother⟩ := (v.opStarted op).opDrives_effect op a g
  have hports : w.ports = v.ports := honly .ports (by simp)
  obtain ⟨t, ht, hst, hvt, hans⟩ := exec_changes (c := .recall) rfl k rfl (Request.length_frame_le _ nofun) hv
    (ps := [.ports, .axes, .moves, .engine, .table, .model]) ((hstart.mono (by simp)).trans (honly.mono (by simp))) (by simp)
    (State.gains_of_ports hports)
  have haxis : ∀ b, t.axis b = w.axis b := State.axis_congr (hvt .axes (by simp))
  refine ⟨t, ht, hst, hans, hvt .table (by simp), (haxis a).trans hax, fun b hb => (haxis b).trans (hother b hb), _,
    hvt .engine (by simp), rfl, rfl, rfl, rfl, rfl, rfl, rfl, rfl, hvt .moves (by simp)⟩

/-- Settles O51: the record marked, and its one mirror driven back to its "from". -/
theorem undoDrivesBack : Obligations.UndoDrivesBack := by
  unfold Obligations.UndoDrivesBack
  intro s r older newer h k hq hcom hp hring hnewer hcause hundone hentries hmir heff hhalt hhot hsens hi hb lim g hd
  let v := s.written .panel .undo
  let op := v.undoOp r (.record r.tag [(h.axis, h.from_)])
  let u : State := { v.opStarted op with engine := { v.engine with active := some op, ring := markUndone v.engine.ring } }
  let w := u.opDrives op h.axis g
  obtain ⟨hfind, hmark⟩ := find_undoable (older := older) hnewer hcause hundone
  have hc : h.axis.counted = false := by
    rw [Axis.mirror_eq] at hmir
    simpa using hmir
  have ht : v.testAxis (.record r.tag [(h.axis, h.from_)]) h.axis = .ok (g, decide (g ≠ h.from_)) :=
    State.testAxis_undo (s := v) hmir heff hhalt hhot hsens
  have hv : v.handle .panel .undo = (w, acceptedWith s.table.counter) := by
    refine (State.reqUndo_starts (s := v) k.2.1 hq.2.1 hcom hp
      ((congrArg (List.find? (·.undoable)) hring).trans hfind)).trans ?_
    exact congrArg (·, acceptedWith s.table.counter) (State.undo_drives (s := v) hq.1 hq.2.2 k.2.1 hentries ht hi hb
      (by rw [deadband, if_neg (by rw [hc]; decide)]; exact hd))
  have hstart : v.onlyIn u [.engine, .table, .model] := by
    intro p hp
    cases p <;> first | rfl | exact absurd (by simp) hp
  obtain ⟨honly, hax, hother⟩ := u.opDrives_effect op h.axis g
  have hports : w.ports = v.ports := honly .ports (by simp)
  obtain ⟨t, hexec, hst, hvt, hans⟩ := exec_changes (c := .undo) rfl k rfl (Request.length_frame_le _ nofun) hv
    (ps := [.ports, .axes, .moves, .engine, .table, .model]) ((hstart.mono (by simp)).trans (honly.mono (by simp))) (by simp)
    (State.gains_of_ports hports)
  have haxis : ∀ b, t.axis b = w.axis b := State.axis_congr (hvt .axes (by simp))
  have hfirst : firstPhase h.axis (s.axis h.axis).position g = .phase1 := if_pos (.inl hmir)
  refine ⟨t, hexec, hst, hans, hvt .table (by simp), (haxis _).trans hax, fun b hb => (haxis b).trans (hother b hb),
    { op.told with stage := firstPhase h.axis (s.axis h.axis).position g }, ?_, rfl, rfl, rfl, hfirst, rfl, rfl, rfl, ?_, ?_⟩
  · refine (hvt .engine (by simp)).trans ?_
    show ({ s.engine with active := _, ring := markUndone s.engine.ring } : RecallEngine) = _
    rw [hring, hmark]
    rfl
  · show r.entries.map _ = _
    rw [hentries]
    exact congrArg (fun y => [y]) (State.planAxis_ok ht)
  · refine (hvt .moves (by simp)).trans ?_
    show ({ entries := [(op.entry h.axis (.target g)).granted (1000 + 2 * (g - (s.axis h.axis).position).natAbs *
      u.msPerCount h.axis)] } : MoveList) = _
    rw [State.msPerCount_mirror u hc, show 1000 + 2 * (g - (s.axis h.axis).position).natAbs * 10 =
      1000 + 20 * (g - (s.axis h.axis).position).natAbs by omega]
    rfl

/-- Settles O50: the phases passed and the operation closed in the same action. -/
theorem recallOfNothingClosesAtOnce : Obligations.RecallOfNothingClosesAtOnce := by
  unfold Obligations.RecallOfNothingClosesAtOnce
  intro s i k hq hcom hdriver huse hp harm hret hplace src hnone
  let v := s.written .panel .recall
  let op := v.recallOp .panel src
  let u := (v.opStarted op).withActive none
  let w := u.opClosed op
  have hv : v.handle .panel .recall = (w, acceptedWith s.table.counter) :=
    (State.reqRecall_starts (s := v) k.2.1 hq.2.1 hcom hdriver hp).trans
      (congrArg (·, acceptedWith s.table.counter) (State.recall_closes hq.1 hq.2.2 k.2.1 harm hret hnone))
  have hpark : u.power.state ≠ .park := by rw [show u.power.state = .run from k.2.1]; decide
  obtain ⟨honly, hengine, hstamp, hgains⟩ := State.opClosed_effect hpark op
  have hnone' : ∀ a, ∃ o, v.testAxis src a = .error o := hnone
  have hunplanned : op.outcomes.any (·.planned) = false := by
    rw [List.any_eq_false]
    exact fun y hy => by rw [State.recallOp_unplanned hnone' y hy]; decide
  have hengine' : w.engine = s.engine := by
    rw [hengine, hunplanned]
    show ({ s.engine with active := none, ring := _, returnAllowed := s.engine.returnAllowed || _ } : RecallEngine) = _
    rw [if_neg (by decide), Bool.and_false, Bool.false_and, Bool.or_false, ← hq.2.1]
    rfl
  have hall : v.onlyIn w [.ports, .engine, .table, .store, .model] :=
    (((v.onlyIn_opStarted op).mono (by simp)).trans ((State.onlyIn_engine _ _).mono (by simp))).trans (honly.mono (by simp))
  have hvw : v.onlyIn w [.ports, .table, .store, .model] := fun q hq' => by
    by_cases he : q = .engine
    · subst he
      exact hengine'
    · exact hall q (by simp_all)
  have hresult : opResult op.outcomes op.abortCause =
      if ∀ a, s.testAxis src a = .error .absent ∨ s.testAxis src a = .error .disabled then .complete else .partly :=
    State.opResult_unplanned hnone'
  have hevent : eventAt (opDonePorts op.requester) (op.doneEvent op.outcomes op.abortCause) =
      eventAt [.panel] (.opDone .recall s.table.counter
        (if ∀ a, s.testAxis src a = .error .absent ∨ s.testAxis src a = .error .disabled then .complete else .partly)
        none (allAxes.map (s.planAxis src))) := by
    unfold Operation.doneEvent
    rw [hresult]
    rfl
  rw [hevent] at hgains
  obtain ⟨t, ht, hst, hvt, hans⟩ := exec_changes (c := .recall) rfl k rfl (Request.length_frame_le _ nofun) hv
    (ps := [.ports, .table, .store, .model]) hvw (by simp) hgains
  obtain ⟨hslot, hother, hdirty, hdrv, hdflt, hcounter, htook⟩ :=
    (hstamp.1 _ i (s.slot i).record.driver rfl).1 ⟨huse, rfl⟩ hplace
  have htable : t.table = w.table := hvt .table (by simp)
  have hslots : ∀ j, t.slot j = w.slot j := fun j => by unfold State.slot; rw [htable]
  have htook' : s.tookCommit w (slotBlock i) := htook
  exact ⟨t, ht, hst, (hslots i).trans hslot, fun j hj => (hslots j).trans (hother j hj), by rw [htable]; exact hcounter,
    by rw [htable]; exact hdirty, by rw [htable]; exact hdrv, by rw [htable]; exact hdflt, htook'.after_ports hvt, hans⟩

end Sys2Proof
end

section
/-! PROOF. An operation whose one entry waits is aborted (07, sections 7.4 to 7.7). -/

namespace Sys2Proof.Machine

/-! ## The abort -/

/-- R74: an operation without a backoff on the list has nothing to disown. -/
theorem State.disown_none {s : State} {op : Operation} (ha : s.engine.active = some op)
    (h : ∀ e ∈ s.moves.entries, e.isBackoffOf op = false) : s.disown op = s := by
  have hentries : s.moves.entries.map (·.disown op) = s.moves.entries :=
    (List.map_congr_left fun e he => if_neg (Bool.eq_false_iff.mp (h e he))).trans (List.map_id _)
  have hfinal : ∀ y, s.backoffFinal op y = y := fun y => if_neg (by
    rw [Bool.not_eq_true, List.any_eq_false]
    exact fun m hm => by rw [h m hm, Bool.and_false]; decide)
  have hout : op.outcomes.map (s.backoffFinal op) = op.outcomes :=
    (List.map_congr_left fun y _ => hfinal y).trans (List.map_id _)
  have hactive : (s.modActive fun o => { o with outcomes := o.outcomes.map (s.backoffFinal op) }) = s := by
    show s.withActive (s.engine.active.map _) = s
    rw [ha]
    show s.withActive (some { op with outcomes := op.outcomes.map (s.backoffFinal op) }) = s
    rw [hout, ← ha]
  unfold State.disown
  rw [hactive]
  show s.withMoves { s.moves with entries := s.moves.entries.map (·.disown op) } = s
  rw [hentries]

/-- R134: the outcome list of the aborted operation, its one entry having ended ABORTED. -/
theorem State.abortOutcome_listAfter {s t : State} {op : Operation} {e : MoveEntry}
    (hstage : op.stage = .phase1 ∨ op.stage = .phase2 ∨ op.stage = .phase3) (hc : e.cause ≠ .backoff)
    (ht : ∀ a, t.axis a = s.axis a) (hown : ∀ a, t.hasOwn op a = false) :
    (op.listAfter e (s.axis e.axis) .aborted (s.axis e.axis).position).map (t.abortOutcome op) =
      s.abortedList op e.axis := by
  unfold Operation.listAfter State.abortedList
  rw [List.map_map]
  refine List.map_congr_left fun x _ => ?_
  have hwaits : ∀ y : OutcomeEntry, y.awaitsPhase3 op = true ↔
      y.outcome = some .reached ∧ (y.axis = .rake ∨ y.axis = .reach) ∧ op.stage ≠ .phase3 := fun y => by
    unfold OutcomeEntry.awaitsPhase3
    rcases hstage with h | h | h <;> simp [h, and_comm]
  rw [Function.comp_apply]
  by_cases hx : x.axis = e.axis
  · rw [if_neg (not_not_intro hx), if_neg hc, if_pos (.inl hx), hx]
    unfold State.abortOutcome
    refine if_neg ?_
    rintro ⟨_, h | h, _⟩
    · cases h
    · cases ((hwaits _).mp h).1
  · rw [if_pos hx]
    unfold State.abortOutcome State.suspectNow
    rw [hown, ht]
    refine if_congr ?_ rfl rfl
    rw [hwaits x]
    simp [hx]

section Aborts

variable {s : State} {op : Operation} {e : MoveEntry} (h : s.oneWaiting op e)

include h in
/-- R134, R126: the abort of an operation whose one entry waits closes it. -/
theorem State.abortActive_waiting (c : AbortCause) : s.abortActive c =
    ((s.withMoves { walksDue := 1 }).withActive none).opClosed
      { op with abortCause := some c, progress := none, outcomes := s.abortedList op e.axis } := by
  obtain ⟨hone, hcause, hst⟩ := h
  obtain ⟨ha, hcl, hm, hkind, hstage, habort, hplan, hown⟩ := id hone
  have hnb : e.cause ≠ .backoff := by rw [hcause]; exact (OpKind.cause_plain hkind).2
  have hdisown : s.disown op = s := State.disown_none ha fun x hx => by
    rw [hm, List.mem_singleton] at hx
    rw [hx]
    unfold MoveEntry.isBackoffOf
    rw [beq_false_of_ne hnb, Bool.and_false]
  let v := s.axis e.axis
  let n : Operation := { op with
    outcomes := op.listAfter e v .aborted v.position, progress := op.progress.map fun _ => 5000 }
  let t := s.moveEnded op e v n.outcomes 1
  have hstop : s.stopEntries (fun x => x.owner == .operation op.id) byAbort = t := by
    rw [State.stopEntries_one (by rw [hm]) (by rw [hown]; exact beq_self_eq_true _), State.stopEntry_waiting hst]
    have hfin := State.finishEntry_opAt hone v 0 .aborted v.position nofun
    rw [AxisUnit.takeOutcome_same _ _ (by decide) (by decide), State.setAxis_axis, ← hm] at hfin
    exact hfin
  have htaxis : ∀ a, t.axis a = s.axis a := fun a => by
    have hsame := congrArg (State.axis · a) (s.setAxis_axis e.axis)
    exact hsame
  have hfree : ∀ a, t.hasOwn n a = false := fun a => rfl
  have hout : n.outcomes.map (t.abortOutcome n) = s.abortedList op e.axis :=
    State.abortOutcome_listAfter (s := s) (t := t) hstage hnb htaxis fun a => rfl
  let c' : Operation := { n with abortCause := some c, progress := none, outcomes := n.outcomes.map (t.abortOutcome n) }
  have habt : s.abortActive c = t.releaseActive.endOp c' := by
    unfold State.abortActive
    rw [ha]
    dsimp only
    rw [hdisown, hstop]
    rfl
  have hseek : c'.seeking = false := by
    unfold Operation.seeking
    show (op.stage == .leg1 || op.stage == .leg2) = false
    rcases hstage with k | k | k <;> rw [k] <;> rfl
  have hc' : c' = { op with abortCause := some c, progress := none, outcomes := s.abortedList op e.axis } := by
    show ({ op with abortCause := some c, progress := none, outcomes := n.outcomes.map (t.abortOutcome n) } : Operation) = _
    rw [hout]
  have hend : t.releaseActive.endOp c' = t.releaseActive.closeOp c' := by
    unfold State.endOp
    rw [hseek]
    rfl
  have hclose : t.releaseActive.closeOp c' = t.releaseActive.opClosed c' := by
    rw [State.closeOp_eq]
    exact if_pos (c'.result_aborted.mpr rfl)
  have hbase : t.releaseActive = (s.withMoves { walksDue := 1 }).withActive none := by
    have hsame := congrArg (fun x : State => (x.withMoves { walksDue := 1 }).withActive none) (s.setAxis_axis e.axis)
    exact hsame
  rw [habt, hend, hclose, hc', hbase]

include h in
/-- R134, R138, R139, R106: what the abort leaves. -/
theorem State.abortActive_effect (hp : s.power.state ≠ .park) (c : AbortCause) :
    let t := (s.abortActive c).withMoves {}
    let es := s.abortedList op e.axis
    s.onlyIn t [.ports, .moves, .engine, .table, .store] ∧ t.quiet ∧ s.opCloses t op es (some c) ∧
      s.gains t (eventAt (opDonePorts op.requester) (op.doneEvent es (some c))) ∧
      (s.abortActive c).moves = { walksDue := 1 } ∧
      ∀ ex, (s.abortActive c).conclude ex = t ∧ (s.abortActive c).arbiter ex = t := by
  intro t es
  let w := (s.withMoves { walksDue := 1 }).withActive none
  let n : Operation := { op with abortCause := some c, progress := none, outcomes := es }
  have habt : s.abortActive c = w.opClosed n := State.abortActive_waiting h c
  obtain ⟨⟨ha, hcl, hm, _, _, _, ⟨z, hz, _, hzpl⟩, _⟩, _, _⟩ := h
  obtain ⟨honly, hengine, hstamp, hgains⟩ := State.opClosed_effect (s := w) hp n
  have hplanned : n.outcomes.any (·.planned) = true := by
    refine List.any_eq_true.mpr ⟨_, List.mem_map.mpr ⟨z, hz, rfl⟩, ?_⟩
    split <;> exact hzpl
  have hmoves : (s.abortActive c).moves = { walksDue := 1 } := by rw [habt]; exact honly .moves (by simp)
  have heng : t.engine = { s.engine with
      active := none, ring := (op.recordOf es (some c) :: s.engine.ring).take 8
      returnAllowed := s.engine.returnAllowed || (op.kind == .exit && (some c).isNone) } := by
    show (s.abortActive c).engine = _
    rw [habt, hengine, hplanned, if_pos rfl, Bool.and_true]
    rfl
  have hact : (s.abortActive c).engine.active = none := congrArg RecallEngine.active heng
  have hclo : (s.abortActive c).engine.closing = [] := (congrArg RecallEngine.closing heng).trans hcl
  refine ⟨?_, ⟨rfl, hact, hclo⟩, ⟨heng, ?_⟩, ?_, hmoves,
    fun ex => ⟨State.conclude_empty (js := []) hmoves nofun hact hclo ex, ?_⟩⟩
  · have hw : s.onlyIn w [.moves, .engine] :=
      ((State.onlyIn_withMoves _ _).mono (by simp)).trans ((State.onlyIn_engine _ _).mono (by simp))
    have hall : s.onlyIn (s.abortActive c) [.ports, .moves, .engine, .table, .store] := by
      rw [habt]
      exact (hw.mono (by simp)).trans (honly.mono (by simp))
    exact hall.trans ((State.onlyIn_withMoves _ _).mono (by simp))
  · have hst : s.stampedBy (s.abortActive c) op s.table.driver := by
      rw [habt]
      exact hstamp.before rfl rfl
    exact hst
  · have hg : s.gains (s.abortActive c) (eventAt (opDonePorts op.requester) (op.doneEvent es (some c))) := by
      rw [habt]
      exact hgains
    exact hg
  · rw [State.arbiter_empty (by rw [hmoves])]
    show (s.abortActive c).withMoves { (s.abortActive c).moves with walksDue := 0 } = _
    rw [hmoves]

end Aborts

/-! ## What aborts it -/

theorem State.oneWaiting_congr {s t : State} {op : Operation} {e : MoveEntry} (h : s.oneWaiting op e)
    (hm : t.moves = s.moves) (he : t.engine = s.engine) : t.oneWaiting op e := by
  unfold State.oneWaiting State.oneEntry at h ⊢
  rw [hm, he]
  exact h

theorem State.abortedList_congr {s t : State} (ha : ∀ a, t.axis a = s.axis a) (op : Operation) (a : Axis) :
    t.abortedList op a = s.abortedList op a := by
  unfold State.abortedList
  simp only [ha]

theorem State.opCloses_before {s s' t : State} {op : Operation} {es : List OutcomeEntry} {c : Option AbortCause}
    (h : s'.opCloses t op es c) (he : s'.engine = s.engine) (ht : s'.table = s.table) (hs : s'.store = s.store) :
    s.opCloses t op es c := by
  obtain ⟨h1, h2⟩ := h
  rw [he] at h1
  rw [ht] at h2
  exact ⟨h1, h2.before ht hs⟩

/-- R106, R138: what comes after the close of an operation, and leaves the engine, the table but its counter, and the store
as they are. -/
theorem State.opCloses_after {s t t' : State} {op : Operation} {es : List OutcomeEntry} {c : Option AbortCause}
    (h : s.opCloses t op es c) (he : t'.engine = t.engine) (ht : t'.table = t.table) (hs : t'.store = t.store) :
    s.opCloses t' op es c := by
  obtain ⟨h1, h2⟩ := h
  refine ⟨he.trans h1, h2.after ?_ ?_ ?_ ?_ ?_ hs⟩
  all_goals rw [ht]
  exact id

/-- R133: the progress timer of an operation whose one entry waits counts. -/
theorem State.progressCounts_waiting {s : State} {op : Operation} {e : MoveEntry} (h : s.oneWaiting op e)
    (hp : op.progress.isSome = true) : s.progressCounts = true := by
  obtain ⟨⟨ha, _, hm, _, _, _, _, _⟩, _, hst⟩ := h
  unfold State.progressCounts
  rw [ha]
  dsimp only
  rw [hp, hm]
  simp [hst]

/-- R89: what a loss of its permission makes of an operation whose one entry waits, where no exit and no return can start. -/
theorem handOnConclude_aborts {s t : State} {op : Operation} {e : MoveEntry} (h : t.oneWaiting op e)
    (hp : t.power.state ≠ .park) (hs : s.permitsCause op.kind.cause = true) (ht : t.permitsCause op.kind.cause = false)
    (hexit : t.engine.arm = none ∨ t.permitsCause .exit = false)
    (hret : t.engine.returnAllowed = false ∨ t.permitsCause .ret = false) :
    (handOn s t).1.conclude (handOn s t).2 = (t.abortActive .vehicle).withMoves {} := by
  obtain ⟨-, ⟨-, hqa, hqc⟩, ⟨heng, -⟩, -, hqm, -⟩ := State.abortActive_effect h hp .vehicle
  let q := t.abortActive .vehicle
  have harm : q.engine.arm = t.engine.arm := (congrArg RecallEngine.arm heng).trans rfl
  have hallow : q.engine.returnAllowed = t.engine.returnAllowed :=
    (congrArg RecallEngine.returnAllowed heng).trans (by simp)
  have hnoexit : (if (!s.permitsCause .exit && t.permitsCause .exit) = true then q.offerExit else q) = q := by
    rcases hexit with hx | hx
    · have hoff : q.offerExit = q := by unfold State.offerExit; rw [harm, hx]
      rw [hoff, ite_self]
    · rw [hx, Bool.and_false]
      rfl
  have hnoreturn : (if (!s.permitsCause .ret && t.permitsCause .ret) = true then q.offerReturn else q) = q := by
    rcases hret with hx | hx
    · have hoff : q.offerReturn = q := by unfold State.offerReturn; simp [hallow, hx]
      rw [hoff, ite_self]
    · rw [hx, Bool.and_false]
      rfl
  have hhanded : handedOn s t = q := by
    unfold handedOn
    rw [h.1.1]
    dsimp only
    simp only [hs, ht, Bool.not_false, Bool.and_true, ↓reduceIte]
    rw [show t.abortActive .vehicle = q from rfl, hnoexit, hnoreturn]
  obtain ⟨k, -, hk⟩ := handOn_eq s t
  have hempty : (q.withDue k).moves.entries = [] := congrArg MoveList.entries hqm
  rw [hhanded, State.revokeToFit_empty hempty, ite_self] at hk
  rw [hk]
  refine (State.conclude_empty (s := q.withDue k) (js := []) (k := k) ?_ nofun hqa hqc []).trans rfl
  show { (t.abortActive .vehicle).moves with walksDue := k } = _
  rw [hqm]

theorem permits_fresh {f : Bool} {r : VehicleRecord} {k : OpKind} (h : permits f r k.cause = true) : f = true := by
  cases f with
  | true => rfl
  | false => cases k <;> cases h

/-- A state from which another differs in the ports, the move list, the engine, the table and the store alone. -/
theorem State.eq_of_onlyIn {s t : State} (h : s.onlyIn t [.ports, .moves, .engine, .table, .store]) :
    t = { s with ports := t.ports, moves := t.moves, engine := t.engine, table := t.table, store := t.store } := by
  have h1 : t.powered = s.powered := h .powered (by simp)
  have h2 : t.monitor = s.monitor := h .monitor (by simp)
  have h3 : t.axes = s.axes := h .axes (by simp)
  have h4 : t.fitted = s.fitted := h .fitted (by simp)
  have h5 : t.van = s.van := h .van (by simp)
  have h6 : t.power = s.power := h .power (by simp)
  have h7 : t.model = s.model := h .model (by simp)
  have h8 : t.pending = s.pending := h .pending (by simp)
  cases t
  cases s
  simp_all

/-- R186: STOP_ALL under an operation whose one entry waits. -/
theorem State.reqStopAll_operation {s : State} {op : Operation} {e : MoveEntry} (h : s.oneWaiting op e)
    (hp : s.power.state ≠ .park) :
    s.reqStopAll = ((s.abortActive .stop).withMoves {}, okWith ([1, 1] ++ encNat32 op.tag ++ [0])) := by
  obtain ⟨-, -, -, -, hqm, hconc⟩ := State.abortActive_effect h hp .stop
  obtain ⟨⟨ha, _, hm, _⟩, _, hst⟩ := h
  have hfields : enc8 (s.moves.entries.filter (!·.stopped)).length ++ encFlag s.engine.active.isSome
      ++ encNat32 ((s.engine.active.map (·.tag)).getD 0) ++ enc8 (s.moves.jogs.filter (·.stoppable)).length =
      [1, 1] ++ encNat32 op.tag ++ [0] := by
    have hfound : [e].filter (!·.stopped) = [e] := List.filter_cons_of_pos (by
      unfold MoveEntry.stopped
      rw [hst]
      rfl)
    rw [hm, ha, hfound]
    rfl
  unfold State.reqStopAll
  rw [hfields]
  dsimp only
  rw [State.modJogs_none (by rw [hqm]; exact fun _ h => absurd h List.not_mem_nil),
    State.stopEntries_none (by rw [hqm]; exact fun _ h => absurd h List.not_mem_nil), (hconc []).1]

/-- R77: a new jog under an operation whose one entry waits is a new jog on what the abort leaves. -/
theorem State.newJog_operation {s : State} {op : Operation} {e : MoveEntry} (h : s.oneWaiting op e)
    (hp : s.power.state ≠ .park) (a : Axis) (d : Dir) :
    s.newJog a d = ((s.abortActive .user).withMoves {}).newJog a d := by
  obtain ⟨-, ⟨-, hqa, -⟩, -, -, -, hconc⟩ := State.abortActive_effect h hp .user
  let q := (s.abortActive .user).withMoves {}
  have hq : (q.abortActive .user).arbiter [] = q := by
    have hnone : q.abortActive .user = q := by unfold State.abortActive; rw [show q.engine.active = none from hqa]
    rw [hnone]
    exact State.arbiter_idle rfl []
  unfold State.newJog
  rw [(hconc []).2, hq]

theorem State.jogFree_congr {s q : State} (h : s.onlyIn q [.ports, .moves, .engine, .table, .store]) {a : Axis} {d : Dir}
    (hf : s.jogFree a d) : q.jogFree a d := by
  rw [State.eq_of_onlyIn h]
  exact hf

theorem State.jogDrives_congr {s q t : State} (h : s.onlyIn q [.ports, .moves, .engine, .table, .store]) {a : Axis} {d : Dir}
    (hd : q.jogDrives t a d) : s.jogDrives t a d := by
  rw [State.eq_of_onlyIn h] at hd
  exact hd

/-- R89, R134: the abort after a report or the freshness timer's expiry has changed the monitor and raised its event. -/
theorem State.abort_after {s t : State} {op : Operation} {e : MoveEntry} (h : s.oneWaiting op e)
    (hst : s.onlyIn t [.ports, .monitor]) {f : Port → List Event} (hf : s.gains t f) (hp : s.power.state ≠ .park)
    (c : AbortCause) :
    let q := (t.abortActive c).withMoves {}
    let es := s.abortedList op e.axis
    t.oneWaiting op e ∧ t.power.state ≠ .park ∧ s.onlyIn q [.ports, .monitor, .moves, .engine, .table, .store] ∧
      q.monitor = t.monitor ∧ q.moves = {} ∧ s.opCloses q op es (some c) ∧
      s.gains q fun p => f p ++ eventAt (opDonePorts op.requester) (op.doneEvent es (some c)) p := by
  intro q es
  have hengine : t.engine = s.engine := hst .engine (by simp)
  have hpower : t.power = s.power := hst .power (by simp)
  have htp : t.power.state ≠ .park := by rw [hpower]; exact hp
  have ht : t.oneWaiting op e := State.oneWaiting_congr h (hst .moves (by simp)) hengine
  obtain ⟨honly, hquiet, hcloses, hgains, -, -⟩ := State.abortActive_effect ht htp c
  rw [State.abortedList_congr (s := s) (State.axis_congr (hst .axes (by simp))) op e.axis] at hcloses hgains
  exact ⟨ht, htp, (hst.mono (by simp)).trans (honly.mono (by simp)), honly .monitor (by simp), hquiet.1,
    State.opCloses_before hcloses hengine (hst .table (by simp)) (hst .store (by simp)), hf.trans hgains⟩

end Sys2Proof.Machine

namespace Sys2Proof

open Machine

/-- Settles O58: the abort and what the command then does. -/
theorem activeOperationIsAborted : Obligations.ActiveOperationIsAborted := by
  unfold Obligations.ActiveOperationIsAborted
  intro s hpow
  refine ⟨fun ha => ?_, fun op e h => ?_⟩
  · refine congrArg Host.Outcome.next ((if_pos hpow).trans (if_neg ?_))
    unfold State.progressCounts
    rw [ha]
    nofun
  intro es done
  have hlisted : ∀ t : State, (∀ a, t.axis a = s.axis a) → t.abortedList op e.axis = es := fun t ht =>
    State.abortedList_congr ht op e.axis
  refine ⟨fun hprog hr => ?_, fun speed gear ignition door supply k harm hret hperm => ?_, fun htimer hr hperm => ?_,
    fun p k => ?_, fun x y a d k hax hy hfree => ?_⟩
  · obtain ⟨honly, hquiet, hcloses, hgains, -, hconc⟩ := State.abortActive_effect h (by rw [hr]; decide) .noProgress
    refine ⟨_, ?_, honly, hquiet.1, hcloses, hgains⟩
    refine congrArg Host.Outcome.next ((if_pos hpow).trans ((if_pos (State.progressCounts_waiting h hprog)).trans ?_))
    exact (hconc []).1
  · intro r clamped hlost
    let v := s.written .vehicle (.vehicleState speed gear ignition door supply)
    let t0 := v.reported r clamped
    have hfresh : s.monitor.fresh = true := permits_fresh hperm
    obtain ⟨honly0, hmon0, hgains0⟩ := State.reported_unarmed (s := v) harm r clamped
    rw [show v.monitor.fresh = true from hfresh, if_pos rfl] at hgains0
    have hv : v.oneWaiting op e := h
    obtain ⟨ht0, htp, honly, hmon, hmoves, hcloses, hgains⟩ :=
      State.abort_after hv honly0 hgains0 (by show s.power.state ≠ .park; rw [k.2.1]; decide) .vehicle
    have hengine : t0.engine = s.engine := honly0 .engine (by simp)
    have hperm0 : t0.permitsCause op.kind.cause = false := by
      unfold State.permitsCause
      rw [show t0.monitor = _ from hmon0]
      exact hlost
    have happly : v.applyReport r clamped = (t0.abortActive .vehicle).withMoves {} :=
      handOnConclude_aborts (s := v) ht0 htp hperm hperm0 (.inl ((congrArg RecallEngine.arm hengine).trans harm))
        (.inl ((congrArg RecallEngine.returnAllowed hengine).trans hret))
    have hreq := v.reqVehicleState_eq speed gear ignition door supply
    obtain ⟨t, ht, hst, hvt, hans⟩ := exec_changes (c := .vehicleState speed gear ignition door supply) rfl k rfl
      (Request.length_frame_le _ nofun) (hreq.trans (congrArg (·, _) happly)) honly (by simp) hgains
    have hcloses' : s.opCloses _ op es (some .vehicle) := hcloses
    exact ⟨t, ht, hst, (hvt .monitor (by simp)).trans (hmon.trans hmon0), (hvt .moves (by simp)).trans hmoves,
      State.opCloses_after hcloses' (hvt .engine (by simp)) (hvt .table (by simp)) (hvt .store (by simp)), hans⟩
  · let u : State := { s with monitor := { s.monitor with fresh := false, record := {}, freshTimer := none } }
    let t0 := u.raiseAt [.vehicle, .panel] .vehicleStale
    have hu : s.onlyIn u [.monitor] := s.onlyIn_monitor _
    have hraise : u.onlyIn t0 [.ports] := u.raiseAt_only _ _
    have honly0 : s.onlyIn t0 [.ports, .monitor] := (hu.mono (by simp)).trans (hraise.mono (by simp))
    have hmon0 : t0.monitor = u.monitor := hraise .monitor (by simp)
    have hgains0 : s.gains t0 (eventAt [.vehicle, .panel] .vehicleStale) := u.gains_raiseAt (by decide) .vehicleStale
    obtain ⟨ht0, htp, honly, hmon, hmoves, hcloses, hgains⟩ :=
      State.abort_after h honly0 hgains0 (by rw [hr]; decide) .vehicle
    have hstale : ∀ kind : OpKind, t0.permitsCause kind.cause = false := fun kind => by
      unfold State.permitsCause
      rw [hmon0]
      cases kind <;> rfl
    have hexpire : s.freshnessExpiry = (t0.abortActive .vehicle).withMoves {} :=
      (if_pos htimer).trans (handOnConclude_aborts (s := s) ht0 htp hperm (hstale _) (.inr (hstale .exit)) (.inr (hstale .ret)))
    exact ⟨_, congrArg Host.Outcome.next ((if_pos hpow).trans hexpire), honly, hmon.trans hmon0, hmoves, hcloses, hgains⟩
  · have hp : (s.written p .stopAll).power.state ≠ .park := by show s.power.state ≠ .park; rw [k.2.1]; decide
    have hv : (s.written p .stopAll).oneWaiting op e := h
    obtain ⟨honly, hquiet, hcloses, hgains, -, -⟩ := State.abortActive_effect hv hp .stop
    obtain ⟨t, ht, hst, hvt, hans⟩ := exec_changes (c := .stopAll p) rfl k (by cases p <;> rfl)
      (Request.length_frame_le _ nofun) (State.reqStopAll_operation hv hp) honly (by simp) hgains
    have hcloses' : s.opCloses _ op es (some .stop) := hcloses
    exact ⟨t, ht, hst, (hvt .moves (by simp)).trans hquiet.1,
      State.opCloses_after hcloses' (hvt .engine (by simp)) (hvt .table (by simp)) (hvt .store (by simp)), hans⟩
  · let v := s.written .panel (.jog x y)
    have hp : v.power.state ≠ .park := by show s.power.state ≠ .park; rw [k.2.1]; decide
    have hv : v.oneWaiting op e := h
    obtain ⟨honly, hquiet, hcloses, hgains, -, -⟩ := State.abortActive_effect hv hp .user
    let q := (v.abortActive .user).withMoves {}
    have hvfree : v.jogFree a d := hfree
    have hqr : q.power.state = .run := (congrArg PowerControl.state (honly .power (by simp))).trans k.2.1
    obtain ⟨hqonly, hqd⟩ := State.newJog_drives hquiet hqr (State.jogFree_congr honly hvfree)
    have hhandle : v.handle .panel (.jog x y) = (q.newJog a d, okWith []) := by
      show v.reqJog x y = _
      have hopen : v.openJog a = none := by
        show s.moves.jogs.find? _ = none
        rw [h.1.2.2.1]
        rfl
      have heff : ¬v.isEffective a = false := fun h => by cases hfree.1.symm.trans h
      have hhot : ¬(v.axis a).hot = true := Bool.eq_false_iff.mp hfree.2.1
      rw [State.reqJog_axis (s := v) k.2.1 hax (by rw [hy]; exact decDir_byte d), hopen, if_neg heff, if_neg (by simp),
        if_neg hhot, State.newJog_operation hv hp]
    obtain ⟨t, ht, hst, hvt, hans⟩ := exec_changes (c := .jog x y) rfl k rfl (Request.length_frame_le _ nofun) hhandle
      (ps := [.ports, .axes, .moves, .engine, .table, .store, .model])
      ((honly.mono (by simp)).trans (hqonly.mono (by simp))) (by simp)
      ((hgains.trans (State.gains_of_ports (hqonly .ports (by simp)))).congr fun p => List.append_nil _)
    have hqt : q.onlyIn t [.ports, .axes, .moves, .model] := (hqonly.mono (by simp)).trans (hvt.mono (by simp))
    have hcloses' : s.opCloses q op es (some .user) := hcloses
    obtain ⟨⟨id, hm⟩, hu, hb⟩ := State.jogDrives_congr honly hqd
    have haxis := State.axis_congr (hvt .axes (by simp))
    refine ⟨t, ht, hst, State.opCloses_after hcloses' (hqt .engine (by simp)) (hqt .table (by simp)) (hqt .store (by simp)),
      ⟨⟨id, (hvt .moves (by simp)).trans hm⟩, (haxis a).trans hu, fun b hba => (haxis b).trans (hb b hba)⟩, hans⟩

end Sys2Proof
end

section
/-! PROOF. ASSIGN_DRIVER (06, section 6.7): the assignment, the operation it aborts, the recall it starts. -/

namespace Sys2Proof.Machine

/-! ## What the close of an operation leaves of the table -/

theorem State.driverFor_same {s t : State}
    (h : ∀ i, (t.slot i).record.inUse = (s.slot i).record.inUse ∧ (t.slot i).record.driver = (s.slot i).record.driver)
    (hd : t.table.dflt = s.table.dflt) (hv : t.van = s.van) (id : Nat) : t.driverFor id = s.driverFor id := by
  unfold State.driverFor State.findSlot
  simp only [fun i => (h i).1, fun i => (h i).2, hd, hv]

/-- R106: a stamp leaves every slot's occupancy and driver, and the default profile. -/
theorem State.handStamp_drivers (s : State) (op : Operation) :
    (∀ j, ((s.handStamp op).slot j).record.inUse = (s.slot j).record.inUse ∧
      ((s.handStamp op).slot j).record.driver = (s.slot j).record.driver) ∧
    (s.handStamp op).table.dflt = s.table.dflt ∧ (s.handStamp op).van = s.van := by
  unfold State.handStamp
  split
  next i id _ =>
    split
    · refine ⟨fun j => ?_, (State.commit_frame _ _).dflt, (State.commit_frame _ _).van⟩
      by_cases hj : j = i
      · subst hj
        rw [State.slot_commit_slotBlock_same, State.slot_modRecord_same]
        exact ⟨rfl, rfl⟩
      · rw [State.slot_commit_slotBlock_other _ hj, State.slot_modRecord_other _ _ hj]
        exact ⟨rfl, rfl⟩
    · exact ⟨fun _ => ⟨rfl, rfl⟩, rfl, rfl⟩
  next => exact ⟨fun _ => ⟨rfl, rfl⟩, rfl, rfl⟩

/-- R107: the close of an operation leaves what an ID is assigned to. -/
theorem State.opClosed_driverFor (s : State) (op : Operation) (id : Nat) : (s.opClosed op).driverFor id = s.driverFor id := by
  let told := s.raiseAt (opDonePorts op.requester) (.opDone op.kind op.tag op.result op.abortCause op.outcomes)
  let recorded := if op.outcomes.any (·.planned) then told.writeHistory op.history else told
  have hfirst : s.onlyIn recorded [.ports, .engine] := by
    refine State.onlyIn.trans (t := told) ((s.raiseAt_only _ _).mono (by simp)) ?_
    simp only [recorded]
    split
    · exact (told.onlyIn_engine _).mono (by simp)
    · exact .refl _ _
  have hlast : (recorded.handStamp op).onlyIn (s.opClosed op) [.engine] := by
    have heq : s.opClosed op = if op.kind = .exit ∧ op.outcomes.any (·.planned) ∧ op.result ≠ .aborted then
      (recorded.handStamp op).setAllowance true else recorded.handStamp op := rfl
    rw [heq]
    split
    · exact State.onlyIn_engine _ _
    · exact .refl _ _
  obtain ⟨hslots, hdflt, hvan⟩ := recorded.handStamp_drivers op
  calc (s.opClosed op).driverFor id
      _ = (recorded.handStamp op).driverFor id := State.driverFor_congr (hlast .table (by simp)) (hlast .van (by simp)) id
      _ = recorded.driverFor id := State.driverFor_same hslots hdflt hvan id
      _ = s.driverFor id := State.driverFor_congr (hfirst .table (by simp)) (hfirst .van (by simp)) id

/-! ## The abort that comes first -/

/-- R107: an assignment under an operation whose one entry waits is one on what the abort leaves. -/
theorem State.reqAssignDriver_operation {s : State} {op : Operation} {e : MoveEntry} (h : s.oneWaiting op e)
    (hp : s.power.state ≠ .park) {id : BitVec 32} (hid : validDriver id = true) (flags : Byte) :
    s.reqAssignDriver id flags = ((s.abortActive .driverChanged).withMoves {}).reqAssignDriver id flags := by
  obtain ⟨-, ⟨-, hqa, -⟩, -, -, -, hconc⟩ := State.abortActive_effect h hp .driverChanged
  let q := (s.abortActive .driverChanged).withMoves {}
  have hassign : s.assign id.toNat = q.assign id.toNat := by
    rw [State.assign_idle (s := q) hqa rfl]
    unfold State.assign
    rw [(hconc []).2]
    rfl
  unfold State.reqAssignDriver
  rw [if_pos hid, if_pos hid, hassign]

theorem State.abortActive_driverFor {s : State} {op : Operation} {e : MoveEntry} (h : s.oneWaiting op e) (c : AbortCause)
    (id : Nat) : ((s.abortActive c).withMoves {}).driverFor id = s.driverFor id := by
  rw [State.abortActive_waiting h]
  exact State.opClosed_driverFor _ _ id

/-! ## The recall that an assignment starts -/

theorem State.oneMove_congr {s q : State} (h : s.onlyIn q [.ports, .moves, .engine, .table, .store]) {src : Source} {a : Axis}
    {g : Int} (hm : s.oneMove src a g) : q.oneMove src a g := by
  rw [State.eq_of_onlyIn h]
  exact hm

/-- R108: where no automatic recall starts. -/
theorem State.noRecall {v : State} {id : Nat} {flags : Byte}
    (h : flags.getLsbD 0 = false ∨ v.van.commissioned = false ∨ v.permitsCause .recall = false ∨
      (v.van.doorOpenOnly = true ∧ v.monitor.record.door = .closed) ∨ v.driverFor id = .new id) :
    (flags.getLsbD 0 && (v.assigned id).autoRecallAllowed) = false ∨ (v.assigned id).recallSource = none := by
  obtain ⟨honly, htable, -, -⟩ := v.assigned_effect id
  have hvan : (v.assigned id).van = v.van := honly .van (by simp)
  have hmon : (v.assigned id).monitor = v.monitor := honly .monitor (by simp)
  have hauto : (v.assigned id).autoRecallAllowed = (v.van.commissioned && v.permitsCause .recall &&
      (!v.van.doorOpenOnly || v.monitor.record.door == .opened) && (v.assigned id).power.state == .run) := by
    unfold State.autoRecallAllowed State.permitsCause
    rw [hvan, hmon]
  rcases h with h | h | h | ⟨h1, h2⟩ | h
  · exact .inl (by rw [h, Bool.false_and])
  · exact .inl (by rw [hauto, h]; simp)
  · exact .inl (by rw [hauto, h]; simp)
  · exact .inl (by rw [hauto, h1, h2]; simp)
  · refine .inr ?_
    unfold State.recallSource
    rw [htable, h]

/-- R108: the automatic recall of a KNOWN driver, where all its conditions hold. -/
theorem State.reqAssignDriver_recalls {v : State} {id : BitVec 32} {flags : Byte} {i : SlotIx} (hid : validDriver id = true)
    (hq : v.quiet) (hr : v.power.state = .run) (hi : v.findSlot id.toNat = some i) (hflag : flags.getLsbD 0 = true)
    (hcom : v.van.commissioned = true) (hp : v.permitsCause .recall = true)
    (hdoor : v.van.doorOpenOnly = false ∨ v.monitor.record.door = .opened) {a : Axis} {g : Int} :
    let src := Source.positions (v.slot i).record.profile.positions (some (i, id.toNat))
    let t := v.assigned id.toNat
    v.oneMove src a g →
    v.reqAssignDriver id flags = (((t.opStarted (t.recallOp .fleet src)).opDrives (t.recallOp .fleet src) a g).raiseDriverChanged,
      { code := .accepted, fields := encNat32 v.table.counter ++ driverFields (.known i) id.toNat }) := by
  intro src t hone
  obtain ⟨honly, htable, hengine, -⟩ := v.assigned_effect id.toNat
  have hdriver : t.table.driver = .known i := by rw [htable]; exact State.driverFor_found hi
  have hslot : t.slot i = v.slot i := by unfold State.slot; rw [htable]
  have hdid : (v.slot i).record.driver = id.toNat := (findSlot_some hi).2
  have hauto : t.autoRecallAllowed = true := by
    unfold State.autoRecallAllowed State.permitsCause at *
    rw [show t.van = v.van from honly .van (by simp), show t.monitor = v.monitor from honly .monitor (by simp),
      show t.power = v.power from honly .power (by simp), hcom, hp, hr]
    rcases hdoor with h | h <;> simp [h]
  have hsource : (if flags.getLsbD 0 && t.autoRecallAllowed then t.recallSource else none) =
      some ((v.slot i).record.profile.positions, some (i, id.toNat)) := by
    rw [hflag, hauto, State.recallSource_known hdriver, hslot, hdid]
    rfl
  have hdriverId : t.driverId (.known i) = id.toNat := by
    show (t.slot i).record.driver = _
    rw [hslot, hdid]
  have hdrives := State.recall_drives (s := t) (p := .fleet) (v := (v.slot i).record.profile.positions)
    (slot := some (i, id.toNat)) ((honly .moves (by simp)).trans hq.1) (by rw [hengine]; exact hq.2.2)
    (by rw [show t.power = v.power from honly .power (by simp)]; exact hr)
    (State.oneMove_congr (honly.mono (by simp)) hone)
  unfold State.reqAssignDriver
  rw [if_pos hid, State.assign_idle hq.2.1 (by rw [hq.1])]
  dsimp only
  rw [show v.assigned id.toNat = t from rfl, hsource]
  dsimp only
  rw [hdrives, hdriver, hdriverId, show t.table.counter = v.table.counter by rw [htable]]

end Sys2Proof.Machine

namespace Sys2Proof

open Machine

/-- Settles O27: the assignment, after the abort of an operation, and with the recall that it starts. -/
theorem assignDriverSetsTheDriver : Obligations.AssignDriverSetsTheDriver := by
  unfold Obligations.AssignDriverSetsTheDriver
  intro s id flags k h0 hF c r d noRecall okReply disarmed
  let v := s.written .fleet r
  have hid := validDriver_of_ne h0 hF
  have hdriver : v.driverFor id.toNat = d := by
    simp only [d]
    split
    · exact State.driverFor_found (s := v) ‹_›
    · exact State.driverFor_missing (s := v) ‹_›
  refine ⟨fun hq hno => ?_, fun i a g hq hi hflag hcom hp hdoor => ?_, fun op e h hno => ?_⟩
  · have hsource := State.noRecall (v := v) (id := id.toNat) (flags := flags) (by rw [hdriver]; exact hno)
    have hreq := State.reqAssignDriver_plain (s := v) hid hq.2.1 (State.settled_of_quiet hq) hsource
    obtain ⟨-, htable, hengine, -⟩ := v.assigned_effect id.toNat
    obtain ⟨honly, hgains⟩ := v.assigned_raised id.toNat
    have hraise : (v.assigned id.toNat).onlyIn (v.assigned id.toNat).raiseDriverChanged [.ports] := State.raiseAt_only _ _ _
    rw [hdriver] at hreq htable hgains
    obtain ⟨t, ht, hst, hvt, hans⟩ := exec_changes (c := c) rfl k rfl (Request.length_frame_le _ nofun) hreq honly
      (by simp) hgains
    exact ⟨t, ht, hst, ((hvt .table (by simp)).trans (hraise .table (by simp))).trans htable,
      ((hvt .engine (by simp)).trans (hraise .engine (by simp))).trans hengine, hans⟩
  · intro src hone
    let t0 := v.assigned id.toNat
    let op := t0.recallOp .fleet src
    let u := t0.opStarted op
    let w := u.opDrives op a g
    obtain ⟨honly, htable, hengine, hgains⟩ := v.assigned_effect id.toNat
    have hvone : v.oneMove src a g := hone
    have hreq := State.reqAssignDriver_recalls (v := v) hid hq k.2.1 hi hflag hcom hp hdoor hvone
    have hknown : d = .known i := hdriver.symm.trans (State.driverFor_found (s := v) hi)
    rw [← hknown] at hreq
    rw [hdriver] at htable
    have hstart : t0.onlyIn u [.engine, .table, .model] := t0.onlyIn_opStarted op
    obtain ⟨hdrives, hax, hother⟩ := u.opDrives_effect op a g
    have haxis : ∀ b, u.axis b = s.axis b := State.axis_congr (honly .axes (by simp))
    have hsame : t0.onlyIn w [.axes, .moves, .engine, .table, .model] :=
      (hstart.mono (by simp)).trans (hdrives.mono (by simp))
    have hraise : w.onlyIn w.raiseDriverChanged [.ports] := State.raiseAt_only _ _ _
    have hwtable : w.table = { s.table with driver := d, counter := min (s.table.counter + 1) 4294967295 } := by
      refine (hdrives .table (by simp)).trans ?_
      show ({ t0.table with counter := min (t0.table.counter + 1) 4294967295 } : ProfileTable) = _
      rw [htable]
      rfl
    have hraised : v.gains w.raiseDriverChanged fun p => disarmed p ++ [.driverChanged d id.toNat] := by
      have hslots : w.table.slots = v.table.slots := by rw [hwtable]; rfl
      have hid' : w.driverId d = id.toNat := by
        rw [State.driverId_congr (s := v) hslots, ← hdriver]
        exact v.driverId_driverFor _
      have hw := w.gains_raiseDriverChanged
      rw [show w.table.driver = d by rw [hwtable], hid'] at hw
      exact (hgains.trans (State.gains_of_ports (hsame .ports (by simp)))).trans hw |>.congr fun p => by
        rw [noEvents, List.append_nil]
        rfl
    have hvw : v.onlyIn w.raiseDriverChanged [.ports, .axes, .moves, .engine, .table, .model] :=
      (honly.mono (by simp)).trans ((hsame.mono (by simp)).trans (hraise.mono (by simp)))
    obtain ⟨t, ht, hst, hvt, hans⟩ := exec_changes (c := c) rfl k rfl (Request.length_frame_le _ nofun) hreq hvw
      (by simp) hraised
    have hwt : w.onlyIn t [.ports] := hraise.trans hvt
    have hms : u.msPerCount a = s.msPerCount a := by
      show (v.assigned id.toNat).msPerCount a = v.msPerCount a
      rw [State.eq_of_onlyIn (honly.mono (by simp))]
      rfl
    have hcounter : t0.table.counter = s.table.counter := by rw [htable]; rfl
    refine ⟨t, { op.told with stage := firstPhase a (u.axis a).position g }, ht, hst, (hwt .table (by simp)).trans hwtable,
      (hwt .engine (by simp)).trans ?_, rfl, hcounter, rfl, rfl, by rw [haxis], ?_, (hwt .moves (by simp)).trans ?_,
      (State.axis_congr (hwt .axes (by simp)) a).trans (hax.trans (by rw [haxis])),
      fun b hb => (State.axis_congr (hwt .axes (by simp)) b).trans ((hother b hb).trans (haxis b)), hans⟩
    · show ({ t0.engine with active := _ } : RecallEngine) = _
      rw [hengine]
      rfl
    · exact List.map_congr_left fun b _ => State.planAxis_congr (honly .van (by simp)) (honly .fitted (by simp)) (haxis b) src
    · show ({ entries := [(op.entry a (.target g)).granted (1000 + 2 * (g - (u.axis a).position).natAbs * u.msPerCount a)] } :
        MoveList) = _
      rw [hms, haxis, ← hcounter]
      rfl
  · intro es
    have hpark : v.power.state ≠ .park := by rw [show v.power.state = .run from k.2.1]; decide
    have hv : v.oneWaiting op e := h
    obtain ⟨honly, hquiet, hcloses, hgains, -, -⟩ := State.abortActive_effect hv hpark .driverChanged
    let q := (v.abortActive .driverChanged).withMoves {}
    have hqdriver : q.driverFor id.toNat = d := (State.abortActive_driverFor hv .driverChanged _).trans hdriver
    have hsource := State.noRecall (v := q) (id := id.toNat) (flags := flags) (by
      unfold State.permitsCause
      rw [hqdriver, show q.van = s.van from honly .van (by simp), show q.monitor = s.monitor from honly .monitor (by simp)]
      exact hno)
    have hreq := (State.reqAssignDriver_operation hv hpark hid flags).trans
      (State.reqAssignDriver_plain (s := q) hid hquiet.2.1 (State.settled_of_quiet hquiet) hsource)
    obtain ⟨-, htable, hengine, -⟩ := q.assigned_effect id.toNat
    obtain ⟨hassigned, hraised⟩ := q.assigned_raised id.toNat
    have hraise : (q.assigned id.toNat).onlyIn (q.assigned id.toNat).raiseDriverChanged [.ports] := State.raiseAt_only _ _ _
    rw [hqdriver] at hreq htable hraised
    rw [show q.engine.arm = s.engine.arm from (congrArg RecallEngine.arm hcloses.1).trans rfl] at hraised
    obtain ⟨t, ht, hst, hvt, hans⟩ := exec_changes (c := c) rfl k rfl (Request.length_frame_le _ nofun) hreq
      (honly.trans (hassigned.mono (by simp))) (by simp) ((hgains.trans hraised).congr fun p => (List.append_assoc _ _ _).symm)
    have hassign : (q.assigned id.toNat).onlyIn t [.ports] := hraise.trans hvt
    have htt : t.table = { q.table with driver := d } := (hassign .table (by simp)).trans htable
    have hte : t.engine = { q.engine with arm := none, returnAllowed := false } := (hassign .engine (by simp)).trans hengine
    have hstore : t.store = q.store := (hvt .store (by simp)).trans (hassigned .store (by simp))
    have hstamp : s.stampedBy q op s.table.driver := hcloses.2
    refine ⟨t, ht, hst, ((hvt .moves (by simp)).trans (hassigned .moves (by simp))).trans hquiet.1,
      hstamp.after (by rw [htt]) (by rw [htt]) (by rw [htt]) (by rw [htt]) (fun _ => by rw [htt]) hstore, ?_, hans⟩
    rw [hte, hcloses.1]
    rfl

end Sys2Proof
end

section
/-! PROOF. RELEASE_DRIVER, the exit slide and the return (06, section 6.7; 07, section 7.9). -/

namespace Sys2Proof.Machine

/-! ## The target of SLIDE -/

/-- R128: the slide is effective, referenced, cold and not halted. -/
abbrev State.slideFree (s : State) : Prop :=
  s.isEffective .slide = true ∧ (s.axis .slide).confidence ≠ .lost ∧ (s.axis .slide).halted = false ∧
    (s.axis .slide).hot = false ∧ (s.axis .slide).motion = .idle

theorem clampTarget_eq (lo hi x : Int) : clampTarget lo hi x = (clampInt lo hi x, decide (clampInt lo hi x ≠ x)) := by
  unfold clampTarget
  by_cases h : clampInt lo hi x = x <;> simp [h]

theorem State.testAxis_slide {s : State} (h : s.slideFree) {src : Source} {g : Int} {c : Bool}
    (haim : s.aim src .slide = .target g c) : s.testAxis src .slide = .ok (g, c) := by
  obtain ⟨heff, hconf, hhalt, hhot, -⟩ := h
  have hskip : s.skipTest .slide = none := by
    unfold State.skipTest
    simp [heff, hconf, hhalt, hhot, show Axis.mirror Axis.slide = false from rfl]
  unfold State.testAxis
  rw [haim, hskip]

/-- R52: an exit distance moves SLIDE by one count at the least. -/
theorem exitOffset_eq (d k : Nat) :
    (if roundDiv (d * k : Nat) 256 = 0 then 1 else roundDiv (d * k : Nat) 256) = max 1 (roundDiv (d * k : Nat) 256) := by
  have hnonneg : 0 ≤ roundDiv (d * k : Nat) 256 := by
    unfold roundDiv
    rw [if_pos (Int.natCast_nonneg _)]
    omega
  split <;> omega

/-- R145, R52: what an exit distance makes of SLIDE. -/
theorem State.aim_distance {s : State} {c : CountedCal} {st : Stops} (hc : s.van.counted[0] = some c)
    (hs : s.van.stops[0] = some st) (hw : st.lo + c.m ≤ st.hi - c.m) (d : Nat) :
    let x := (s.axis .slide).position - (max 1 (roundDiv (d * c.k) 256) : Int)
    let g := clampInt (st.lo + c.m) (st.hi - c.m) x
    s.aim (.distance d) .slide = .target g (decide (g ≠ x)) := by
  intro x g
  have hcal : s.countedCal .slide = some c := hc
  have hstops : s.stopsOf .slide = some st := hs
  have hoff := exitOffset_eq d c.k
  push_cast at hoff
  unfold State.aim exitTarget
  rw [hcal, hstops]
  dsimp only
  rw [if_neg (by omega), hoff, clampTarget_eq]
  rfl

/-- R147, R53: what a place to return to makes of SLIDE. -/
theorem State.aim_place {s : State} {st : Stops} (hs : s.van.stops[0] = some st) (x : Int) :
    let g := clampInt st.lo st.hi x
    s.aim (.place x) .slide = .target g (decide (g ≠ x)) := by
  intro g
  have hstops : s.stopsOf .slide = some st := hs
  unfold State.aim State.fromTarget
  dsimp only
  rw [if_pos (show Axis.counted .slide = true from rfl), hstops]
  dsimp only
  rw [clampTarget_eq]
  rfl

/-! ## The drive of SLIDE -/

/-- R145, R147: the operation of an exit or a return. -/
abbrev State.slideOp (s : State) (k : OpKind) (src : Source) : Operation :=
  { id := s.model.nextId, kind := k, tag := s.table.counter, requester := .vehicle, stage := .phase1, source := src
    outcomes := [s.planAxis src .slide] }

/-- R145, R147: the state in which the exit or the return that has started drives SLIDE. -/
def State.slideDriven (s : State) (op : Operation) (g : Int) : State :=
  (((s.opStarted op).setAxis .slide ((s.axis .slide).drivenTo .slide g false)).withMoves
    { entries := [(op.entry .slide (.target g)).granted
        (1000 + 2 * (g - (s.axis .slide).position).natAbs * s.msPerCount .slide)] }).withActive (some op.told)

theorem State.slideDriven_effect (s : State) (op : Operation) (g : Int) :
    s.onlyIn (s.slideDriven op g) [.axes, .moves, .engine, .table, .model] ∧
      (s.slideDriven op g).axis .slide = (s.axis .slide).drivenTo .slide g false ∧
      ∀ b, b ≠ .slide → (s.slideDriven op g).axis b = s.axis b := by
  let u := s.opStarted op
  have hstart : s.onlyIn u [.engine, .table, .model] := s.onlyIn_opStarted op
  obtain ⟨h1, h2⟩ := u.setAxis_frame .slide ((s.axis .slide).drivenTo .slide g false)
  have hset := u.onlyIn_setAxis .slide ((s.axis .slide).drivenTo .slide g false)
  exact ⟨(((hstart.mono (by simp)).trans (hset.mono (by simp))).trans ((State.onlyIn_withMoves _ _).mono (by simp))).trans
    ((State.onlyIn_engine _ _).mono (by simp)), h1, h2⟩

section Slides

variable {s : State} {k : OpKind} {src : Source} {g : Int} {c : Bool} (hm : s.moves = {}) (hh : (s.axis .slide).hot = false)
  (ht : s.testAxis src .slide = .ok (g, c))

include hm hh ht in
/-- R145, R147: SLIDE's entry waits for the walk of the conclusion. -/
theorem State.startSlide_waits : s.startSlide k src = (s.opStarted (s.slideOp k src)).withMoves
    { entries := [(s.slideOp k src).entry .slide (.target g)], walksDue := 1 } := by
  let op := s.slideOp k src
  have hplace : (s.opStarted op).place (op.entry .slide (.target g)) = _ :=
    State.place_first (s := s.opStarted op) (js := []) hm hh
  have htarget : (s.planAxis src .slide).target = some g := by rw [State.planAxis_ok ht]
  unfold State.startSlide
  dsimp only
  rw [htarget]
  exact hplace

omit hm ht in
include hh in
/-- R66: the walk drives SLIDE. -/
theorem State.slide_concludes (hc : s.engine.closing = []) (hr : s.power.state = .run)
    (hi : (s.axis .slide).motion = .idle) (hb : demand .slide ≤ s.budget)
    (hd : 2 < ((s.axis .slide).position - g).natAbs) (op : Operation) (n : Nat) :
    ((s.opStarted op).withMoves { entries := [op.entry .slide (.target g)], walksDue := n + 1 }).conclude [] =
      s.slideDriven op g := by
  let e := op.entry .slide (.target g)
  let u := (s.opStarted op).withMoves { entries := [e], walksDue := n + 1 }
  have hwaits : u.OneWaits e [] [] := ⟨⟨n, rfl⟩, rfl, hr, hi, hh, List.not_mem_nil⟩
  have harb := hwaits.drivesTo (g := g) hb rfl (fun h => by cases h) hd
  have hreport := State.grantReport_op (s := (u.setAxis .slide ((s.axis .slide).drivenTo .slide g false)).withMoves
    { entries := [e.granted (1000 + 2 * (g - (s.axis .slide).position).natAbs * s.msPerCount .slide)] }) (e := e)
    (op := op) rfl hc rfl
  have hall : u.arbiter [] = s.slideDriven op g := harb.trans hreport
  refine State.conclude_arbitrated hall (f := e.granted _) (js := []) rfl ⟨nofun, hc, fun o ho => ?_⟩
  cases ho
  rfl

end Slides

/-! ## The release -/

/-- R109: a release of a driver whose slot has an exit distance. -/
theorem State.reqReleaseDriver_arms {s : State} (h : s.table.driver ≠ .nobody) {d : Nat} (hd : s.exitToArm = some d) :
    s.reqReleaseDriver =
      ((((s.armExit d).conclude []).setDriver .nobody).raiseDriverChanged, okWith (encFlag true)) := by
  unfold State.reqReleaseDriver
  rw [if_neg h, hd]
  rfl

theorem State.reqReleaseDriver_plain {s : State} (h : s.table.driver ≠ .nobody) (hd : s.exitToArm = none) :
    s.reqReleaseDriver = ((s.setDriver .nobody).raiseDriverChanged, okWith (encFlag false)) := by
  unfold State.reqReleaseDriver
  rw [if_neg h, hd]
  rfl

/-- R109, R121: the record becomes NONE, and DRIVER_CHANGED tells so. -/
theorem State.released_effect (t : State) :
    t.onlyIn (t.setDriver .nobody).raiseDriverChanged [.ports, .table] ∧
    (t.setDriver .nobody).raiseDriverChanged.table = { t.table with driver := .nobody } ∧
    t.gains (t.setDriver .nobody).raiseDriverChanged fun _ => [.driverChanged .nobody 0] := by
  have hraise : (t.setDriver .nobody).onlyIn (t.setDriver .nobody).raiseDriverChanged [.ports] := State.raiseAt_only _ _ _
  have hset : t.onlyIn (t.setDriver .nobody) [.table] := t.onlyIn_table _
  exact ⟨(hset.mono (by simp)).trans (hraise.mono (by simp)), hraise .table (by simp),
    (t.setDriver .nobody).gains_raiseDriverChanged⟩

theorem State.exitToArm_known {s : State} {i : SlotIx} (h : s.table.driver = .known i)
    (hd : 0 < (s.slot i).record.profile.exit) (ha : s.van.exitAllowed = true) :
    s.exitToArm = some (s.slot i).record.profile.exit := by
  unfold State.exitToArm
  rw [h]
  exact if_pos ⟨hd, ha⟩

theorem State.exitToArm_none {s : State}
    (h : ∀ i, s.table.driver = .known i → (s.slot i).record.profile.exit = 0 ∨ s.van.exitAllowed = false) :
    s.exitToArm = none := by
  unfold State.exitToArm
  cases hd : s.table.driver with
  | known i =>
    refine if_neg ?_
    rintro ⟨h1, h2⟩
    rcases h i hd with k | k
    · omega
    · rw [k] at h2; cases h2
  | nobody => rfl
  | new id => rfl
  | dflt id => rfl

/-- The start of nothing: what is settled stays so where the move list and the operations stay. -/
theorem State.settled_of_same {s t : State} (h : s.settled) (hm : t.moves = s.moves)
    (ha : t.engine.active = s.engine.active) (hc : t.engine.closing = s.engine.closing) : t.settled := by
  unfold State.settled State.jogCloses State.owns at h ⊢
  rw [hm, ha, hc]
  exact h

/-! ## The return -/

/-- R146: the newest record with a SLIDE entry is an EXIT that was not aborted. -/
theorem State.returnPlace_eq {s : State} {newer older : List HistoryRecord} {h : HistoryRecord} {y : HistoryEntry}
    (hring : s.engine.ring = newer ++ h :: older) (hnewer : ∀ q ∈ newer, ∀ z ∈ q.entries, z.axis ≠ .slide)
    (hcause : h.cause = .exit) (hres : h.result ≠ .aborted) (hentries : h.entries = [y]) (hy : y.axis = .slide) :
    s.returnPlace = some y.from_ := by
  have hslide : h.slideEntry = some y := by
    unfold HistoryRecord.slideEntry
    rw [hentries]
    exact List.find?_cons_of_pos (by rw [hy]; rfl)
  have hnone : newer.find? (·.slideEntry.isSome) = none := by
    refine List.find?_eq_none.mpr fun q hq hsome => ?_
    obtain ⟨z, hz⟩ := Option.isSome_iff_exists.mp hsome
    exact hnewer q hq z (List.mem_of_find?_eq_some hz) (by simpa using List.find?_some hz)
  have hnewest : newestSlide s.engine.ring = some h := by
    unfold newestSlide
    rw [hring, List.find?_append, hnone, Option.none_or]
    exact List.find?_cons_of_pos (by rw [hslide]; rfl)
  unfold State.returnPlace
  rw [hnewest]
  dsimp only
  rw [if_pos ⟨hcause, hres⟩, hslide]
  rfl

/-- R68: an entry that waits draws nothing. -/
theorem State.revokeToFit_waiting {s : State} {e : MoveEntry} (he : s.moves.entries = [e]) (hw : e.state = .waiting) :
    s.revokeToFit = (s, []) := by
  have hdrawn : s.drawn ≤ s.budget := by simp [State.drawn, he, hw]
  have hwalk : revokeWalk (s.moves.entries.map (·.axis)).reverse s [] = (s, []) := by
    rw [he]
    show revokeWalk [e.axis] s [] = _
    rw [revokeWalk, if_pos hdrawn]
  unfold State.revokeToFit
  rw [hwalk]
  rfl

end Sys2Proof.Machine

namespace Sys2Proof

open Machine

/-- Settles O28: the release, the exit it arms or starts, and the return that a report starts. -/
theorem releaseDriverAndTheExitSlide : Obligations.ReleaseDriverAndTheExitSlide := by
  unfold Obligations.ReleaseDriverAndTheExitSlide
  intro s slides slideFree raised
  have slides_of : ∀ {u w t : State} {k : OpKind} {src : Source} {x g : Int}, s.onlyIn u [.ports, .monitor, .engine] →
      u.slideDriven (u.slideOp k src) g = w → w.onlyIn t [.ports, .table] →
      u.testAxis src .slide = .ok (g, decide (g ≠ x)) → slides t (u.slideOp k src).told k src x g := by
    intro u w t k src x g hu hw hwt htest
    subst hw
    obtain ⟨-, hax, hother⟩ := u.slideDriven_effect (u.slideOp k src) g
    have haxis : ∀ a, u.axis a = s.axis a := State.axis_congr (hu .axes (by simp))
    have htax := State.axis_congr (hwt .axes (by simp))
    have htable : u.table = s.table := hu .table (by simp)
    have hvan : u.van = s.van := hu .van (by simp)
    have hms : u.msPerCount .slide = s.msPerCount .slide := by
      unfold State.msPerCount State.countedCal
      rw [hvan]
    refine ⟨rfl, congrArg ProfileTable.counter htable, rfl, rfl, ?_, (hwt .moves (by simp)).trans ?_,
      (htax .slide).trans (hax.trans (by rw [haxis])), fun b hb => (htax b).trans ((hother b hb).trans (haxis b))⟩
    · rw [← haxis]
      exact congrArg (fun y => [y]) (State.planAxis_ok htest)
    · rw [← haxis, ← hms, ← htable]
      rfl
  have released : ∀ {t : State} {b : Bool} {ps : List Part} {events : Port → List Event}, s.ready .fleet →
      (s.written .fleet .releaseDriver).reqReleaseDriver = ((t.setDriver .nobody).raiseDriverChanged, okWith (encFlag b)) →
      (s.written .fleet .releaseDriver).onlyIn t ps → [.ports, .table] ⊆ ps →
      (s.written .fleet .releaseDriver).gains t events →
      ∃ u, exec .releaseDriver s = .next u ∧ s.onlyIn u ps ∧ t.onlyIn u [.ports, .table] ∧
        u.table = { t.table with driver := .nobody } ∧
        s.answersWith u .fleet .releaseDriver (okWith (encFlag b)) fun p => events p ++ [.driverChanged .nobody 0] := by
    intro t b ps events k hreq honly hps hevents
    obtain ⟨hrel, htable, hgains⟩ := t.released_effect
    obtain ⟨u, hu, hsu, hvu, hans⟩ := exec_changes (c := .releaseDriver) rfl k rfl (Request.length_frame_le _ nofun) hreq
      (honly.trans (hrel.mono hps)) (fun p hp => hps (by simp_all)) (hevents.trans hgains)
    exact ⟨u, hu, hsu, hrel.trans (hvu.mono (by simp)), (hvu .table (by simp)).trans htable, hans⟩
  refine ⟨fun k hd => ?_, fun k hset hp i hd he ha => ?_, fun k hd hno => ?_, fun i c st k hq hd he ha hp hc hst hfree hw hb => ?_,
    fun speed gear ignition door supply st newer older h y k hq harm hallow hp => ?_⟩
  · exact exec_answered rfl k rfl (Request.length_frame_le _ nofun) fun u => if_pos hd
  · let v := s.written .fleet .releaseDriver
    let d := (s.slot i).record.profile.exit
    let t := (v.setArm (some d)).raiseExitState .armed d none 0
    have hraise : (v.setArm (some d)).onlyIn t [.ports] := State.raiseAt_only _ _ _
    have hvt : v.onlyIn t [.ports, .engine] := ((v.onlyIn_engine _).mono (by simp)).trans (hraise.mono (by simp))
    have hengine : t.engine = { v.engine with arm := some d } := hraise .engine (by simp)
    have harms : (v.armExit d).conclude [] = t := by
      have hmay : v.exitMayStart = false := by
        unfold State.exitMayStart
        rw [show v.permitsCause .exit = false from hp]
        rfl
      have harm : v.armExit d = t := by
        unfold State.armExit
        rw [hmay]
        rfl
      rw [harm]
      exact State.conclude_settled (State.settled_of_same (s := s) hset (hvt .moves (by simp)) (by rw [hengine]; rfl)
        (by rw [hengine]; rfl)) []
    have hto : v.exitToArm = some d := State.exitToArm_known hd he ha
    have hreq := State.reqReleaseDriver_arms (s := v) (by rw [show v.table.driver = _ from hd]; nofun) hto
    rw [harms] at hreq
    have hgains : v.gains t fun p => if p = .fleet then [] else [.exitState .armed d none 0] :=
      State.gains.congr (State.gains_raiseAt (v.setArm (some d)) (by decide) _) fun p => by cases p <;> rfl
    obtain ⟨u, hu, hsu, htu, htable, hans⟩ := released k hreq (ps := [.ports, .table, .engine]) (hvt.mono (by simp)) (by simp) hgains
    refine ⟨u, hu, hsu, htable.trans ?_, (htu .engine (by simp)).trans hengine, hans⟩
    rw [show t.table = s.table from hvt .table (by simp)]
  · let v := s.written .fleet .releaseDriver
    have hto := State.exitToArm_none (s := v) hno
    have hreq := State.reqReleaseDriver_plain (s := v) hd hto
    obtain ⟨u, hu, hsu, -, htable, hans⟩ := released k hreq (State.onlyIn.refl _ [.ports, .table]) (by simp)
      (State.gains_of_ports rfl)
    exact ⟨u, hu, hsu, htable, hans⟩
  · intro d x g hfar
    let v := s.written .fleet .releaseDriver
    let u := (v.setArm none).raiseExitState .started 0 none v.table.counter
    let op := u.slideOp .exit (.distance d)
    let w := u.slideDriven op g
    have hraise : (v.setArm none).onlyIn u [.ports] := State.raiseAt_only _ _ _
    have hvu : v.onlyIn u [.ports, .engine] := ((v.onlyIn_engine _).mono (by simp)).trans (hraise.mono (by simp))
    have hengine : u.engine = { v.engine with arm := none } := hraise .engine (by simp)
    have haxis : u.axis .slide = s.axis .slide := State.axis_congr (hvu .axes (by simp)) _
    have htest : u.testAxis (.distance d) .slide = .ok (g, decide (g ≠ x)) :=
      (State.testAxis_congr (s := v) (hvu .van (by simp)) (hvu .fitted (by simp)) haxis _).trans
        (State.testAxis_slide (s := v) hfree (State.aim_distance (s := v) hc hst hw d))
    have hmoves : u.moves = {} := (hvu .moves (by simp)).trans hq.1
    have hhot : (u.axis .slide).hot = false := by rw [haxis]; exact hfree.2.2.2.1
    have hstarts : (v.armExit d).conclude [] = w := by
      have hmay : v.exitMayStart = true := by
        unfold State.exitMayStart
        rw [show v.permitsCause .exit = true from hp, show v.engine.active = none from hq.2.1,
          show v.power.state = .run from k.2.1]
        rfl
      have harm : v.armExit d = u.startSlide .exit (.distance d) := by
        unfold State.armExit
        rw [hmay]
        rfl
      rw [harm, State.startSlide_waits hmoves hhot htest]
      refine State.slide_concludes hhot (by rw [hengine]; exact hq.2.2)
        ((congrArg PowerControl.state (hvu .power (by simp))).trans k.2.1) (by rw [haxis]; exact hfree.2.2.2.2) ?_
        (by rw [haxis]; exact hfar) op 0
      unfold State.budget
      rw [show u.monitor = s.monitor from hvu .monitor (by simp)]
      exact hb
    have hto : v.exitToArm = some d := State.exitToArm_known hd he ha
    have hreq := State.reqReleaseDriver_arms (s := v) (by rw [show v.table.driver = _ from hd]; nofun) hto
    rw [hstarts] at hreq
    obtain ⟨hdriven, -, -⟩ := u.slideDriven_effect op g
    have hgains : v.gains w fun p => if p = .fleet then [] else [.exitState .started 0 none s.table.counter] := by
      have hu : v.gains u fun p => if p = .fleet then [] else [.exitState .started 0 none s.table.counter] :=
        State.gains.congr (State.gains_raiseAt (v.setArm none) (by decide) _) fun p => by cases p <;> rfl
      exact (hu.trans (State.gains_of_ports (hdriven .ports (by simp)))).congr fun p => List.append_nil _
    obtain ⟨t, ht, hst, hwt, htable, hans⟩ := released k hreq (ps := [.ports, .axes, .moves, .engine, .table, .model])
      ((hvu.mono (by simp)).trans (hdriven.mono (by simp))) (by simp) hgains
    have hsu : s.onlyIn u [.ports, .monitor, .engine] := ((s.onlyIn_modPort _ _).mono (by simp)).trans (hvu.mono (by simp))
    refine ⟨t, op.told, ht, hst, htable.trans ?_, (hwt .engine (by simp)).trans ?_, slides_of hsu rfl hwt htest, hans⟩
    · show ({ u.table with driver := .nobody, counter := min (u.table.counter + 1) 4294967295 } : ProfileTable) = _
      rw [show u.table = s.table from hsu .table (by simp)]
    · show ({ u.engine with active := some op.told } : RecallEngine) = _
      rw [hengine]
      rfl
  · intro r clamped hperm hring hnewer hcause hres hentries hy hst hfree hb g hfar
    let v := s.written .vehicle (.vehicleState speed gear ignition door supply)
    let t0 := v.reported r clamped
    obtain ⟨honly, hmon, hgains⟩ := State.reported_unarmed (s := v) harm r clamped
    have hengine : t0.engine = s.engine := honly .engine (by simp)
    let u := t0.setAllowance false
    have hvu : v.onlyIn u [.ports, .monitor, .engine] := (honly.mono (by simp)).trans ((t0.onlyIn_engine _).mono (by simp))
    let op := u.slideOp .ret (.place y.from_)
    let w := u.slideDriven op g
    have haxis : u.axis .slide = s.axis .slide := State.axis_congr (hvu .axes (by simp)) _
    have htest : u.testAxis (.place y.from_) .slide = .ok (g, decide (g ≠ y.from_)) :=
      (State.testAxis_congr (s := v) (hvu .van (by simp)) (hvu .fitted (by simp)) haxis _).trans
        (State.testAxis_slide (s := v) hfree (State.aim_place (s := v) hst y.from_))
    have hmoves : u.moves = {} := (hvu .moves (by simp)).trans hq.1
    have hhot : (u.axis .slide).hot = false := by rw [haxis]; exact hfree.2.2.2.1
    have hperm0 : t0.permitsCause .ret = true := by
      unfold State.permitsCause
      rw [hmon]
      exact hperm
    have hstart : handedOn v t0 = u.startSlide .ret (.place y.from_) := by
      have hexit : t0.offerExit = t0 := by unfold State.offerExit; rw [hengine, harm]
      have hplace : t0.returnPlace = some y.from_ :=
        State.returnPlace_eq (by rw [hengine]; exact hring) hnewer hcause hres hentries hy
      have hret : t0.offerReturn = u.startSlide .ret (.place y.from_) := by
        unfold State.offerReturn
        rw [hperm0, hplace, hengine, hallow, hq.2.1, show t0.power.state = .run from
          (congrArg PowerControl.state (honly .power (by simp))).trans k.2.1]
        rfl
      unfold handedOn
      rw [hengine, hq.2.1]
      dsimp only
      rw [hexit, ite_self]
      refine (if_pos ?_).trans hret
      rw [show v.permitsCause .ret = false from hp, hperm0]
      rfl
    have hconc : (handOn v t0).1.conclude (handOn v t0).2 = w := by
      obtain ⟨n, hn, hk⟩ := handOn_eq v t0
      rw [hstart, State.startSlide_waits hmoves hhot htest] at hn hk
      obtain ⟨m, rfl⟩ : ∃ m, n = m + 1 := ⟨n - 1, by have : 1 ≤ n := hn; omega⟩
      rw [State.revokeToFit_waiting (e := op.entry .slide (.target g)) rfl rfl, ite_self] at hk
      rw [hk]
      refine State.slide_concludes (s := u) hhot (by show t0.engine.closing = []; rw [hengine]; exact hq.2.2)
        ((congrArg PowerControl.state (hvu .power (by simp))).trans k.2.1) (by rw [haxis]; exact hfree.2.2.2.2) ?_
        (by rw [haxis]; exact hfar) op m
      unfold State.budget
      rw [show u.monitor = _ from hmon]
      exact hb
    obtain ⟨hdriven, -, -⟩ := u.slideDriven_effect op g
    obtain ⟨t, ht, hst', hwt, hans⟩ := exec_changes (c := .vehicleState speed gear ignition door supply) rfl k rfl
      (Request.length_frame_le _ nofun)
      ((v.reqVehicleState_eq speed gear ignition door supply).trans (congrArg (·, _) hconc))
      (ps := [.ports, .monitor, .axes, .moves, .engine, .table, .model])
      ((hvu.mono (by simp)).trans (hdriven.mono (by simp))) (by simp)
      ((hgains.trans (State.gains_of_ports (hdriven .ports (by simp)))).congr fun p => List.append_nil _)
    have hsu : s.onlyIn u [.ports, .monitor, .engine] := ((s.onlyIn_modPort _ _).mono (by simp)).trans hvu
    refine ⟨t, op.told, ht, hst', (hwt .monitor (by simp)).trans ((hdriven .monitor (by simp)).trans hmon),
      (hwt .table (by simp)).trans ?_, (hwt .engine (by simp)).trans ?_, slides_of hsu rfl (hwt.mono (by simp)) htest, hans⟩
    · show ({ u.table with counter := min (u.table.counter + 1) 4294967295 } : ProfileTable) = _
      rw [show u.table = s.table from hsu .table (by simp)]
    · show ({ t0.engine with returnAllowed := false, active := some op.told } : RecallEngine) = _
      rw [hengine]

end Sys2Proof
end

section
/-! PROOF. The legs of a NORMALISE (02, section 2.7). -/

namespace Sys2Proof.Machine

/-! ## The end of a leg's move -/

/-- R38 to R42: the axis of a NORMALISE has come to rest, and its leg's move has ended. -/
def State.legOver (s : State) (a : Axis) (n : Operation) (k : Nat) : State :=
  ((s.setAxis a (s.axis a).rested).withMoves { walksDue := k }).withActive (some n)

/-- R39, R133: a seek leg has ended. -/
abbrev Operation.legReported (op : Operation) (o : AxisOutcome) (x : Int) : Operation :=
  { op with legEnd := some (o, x), progress := op.progress.map fun _ => 5000 }

/-- R132, R133: leg 3 has ended. -/
abbrev Operation.leg3Reported (op : Operation) (a : Axis) (o : AxisOutcome) (x : Int) (suspect : Bool) : Operation :=
  { op.modOutcome a fun y => { y with outcome := some o, final := some x, suspect := suspect } with
    progress := op.progress.map fun _ => 5000 }

section LegEnds

variable {s : State} {op : Operation} {e : MoveEntry} {a : Axis} {d : Disposition} (h : s.legSettles op e a d)

include h

/-- R71: the coast end of a leg's move. -/
theorem State.coastEnd_leg {o : AxisOutcome}
    (hres : ∀ t : State, t.axis a = (s.axis a).rested → t.resolve e = t.finishEntry e o (s.axis a).position)
    (htake : (s.axis a).rested.takeOutcome e o = (s.axis a).rested) (ho : o ≠ .obstructed) :
    s.coastEnd a = (s.legOver a (op.takeReport e o (s.axis a).position
      (a.counted && (s.axis a).confidence == .suspect)).restartProgress 2).conclude [] := by
  obtain ⟨-, -, hw, -, ha, hcl, -, -, -, hm, rfl, hown, -, hst, -, hmo, hct⟩ := h
  let t := (s.setAxis e.axis (s.axis e.axis).rested).withMoves { entries := [e], walksDue := 1 }
  have htv : t.axis e.axis = (s.axis e.axis).rested := State.axis_setAxis_same s e.axis _
  have hfin := State.finishEntry_op (s := t) (f := e) rfl rfl ha hcl hown o (s.axis e.axis).position fun k => ho k.1
  rw [htv, htake] at hfin
  rw [State.coastEnd_settling (js := []) hm hct hmo hw hst (State.resolve_power _ _), hres t htv, hfin]
  have hsame := congrArg (fun x : State => ((x.withMoves { walksDue := 2 }).withActive (some (op.takeReport e o
      (s.axis e.axis).position (e.axis.counted && (s.axis e.axis).confidence == .suspect)).restartProgress)).conclude [])
    (State.setAxis_setAxis s e.axis (s.axis e.axis).rested (s.axis e.axis).rested)
  exact hsame

/-- R39, R42: the decided end of a seek leg. -/
theorem State.coastEnd_seekLeg {o : AxisOutcome} (hd : d = .decided o) (hst : op.stage = .leg1 ∨ op.stage = .leg2)
    (ho : o ≠ .obstructed) (ht : o = .timeout → ∃ y, e.kind = .seek y) :
    s.coastEnd a = (s.legOver a (op.legReported o (s.axis a).position) 2).conclude [] := by
  obtain ⟨-, -, -, -, -, -, -, -, -, -, hax, -, hcause, -, hdisp, -, -⟩ := id h
  have hseek : o = .timeout → e.isSeekLeg = true := fun hot => by
    obtain ⟨y, hy⟩ := ht hot
    unfold MoveEntry.isSeekLeg
    rw [hcause, hy]
    rfl
  have hreport : ∀ b, (op.takeReport e o (s.axis a).position b).restartProgress =
      op.legReported o (s.axis a).position := fun b => by
    unfold Operation.takeReport
    rw [if_neg (by rw [hcause]; decide), if_pos hst]
    rfl
  have htake : (s.axis a).rested.takeOutcome e o = (s.axis a).rested := by
    unfold AxisUnit.takeOutcome
    rw [if_neg (fun k => (by rw [hseek k.1] at k; cases k.2.2.2)), if_neg ho]
  rw [State.coastEnd_leg h (fun t htv => ?_) htake ho, hreport]
  unfold State.resolve
  rw [hdisp, hd]
  dsimp only
  rw [hax, htv]
  rfl

/-- R41: leg 3 arrives. -/
theorem State.coastEnd_leg3 (hd : d = .judge) (hst : op.stage = .leg3) {g : Int} (hk : e.kind = .target g)
    (hg : ((s.axis a).position - g).natAbs ≤ 2) :
    s.coastEnd a = (s.legOver a (op.leg3Reported a .reached (s.axis a).position
      (a.counted && (s.axis a).confidence == .suspect)) 2).conclude [] := by
  obtain ⟨-, -, -, hc, -, -, -, -, -, -, rfl, -, hcause, -, hdisp, -, -⟩ := id h
  have hreport : ∀ b, (op.takeReport e .reached (s.axis e.axis).position b).restartProgress =
      op.leg3Reported e.axis .reached (s.axis e.axis).position b := fun b => by
    unfold Operation.takeReport
    rw [if_neg (by rw [hcause]; decide), if_neg (by rw [hst]; decide)]
    rfl
  rw [State.coastEnd_leg h (o := .reached) (fun t htv => ?_)
    (AxisUnit.takeOutcome_same _ _ (by decide) (by decide)) (by decide), hreport]
  have hjudge : t.resolve e = t.judge e := by unfold State.resolve; rw [hdisp, hd]
  have hx : (t.axis e.axis).position = (s.axis e.axis).position := by rw [htv]; rfl
  rw [hjudge, State.judge_reached hk (by rw [hx, deadband, if_pos hc]; exact hg), hx]

end LegEnds

/-! ## What follows a leg -/

theorem Operation.normaliseAxis_eq {n : Operation} {a : Axis} (h : n.source = .axis a) : n.normaliseAxis = a := by
  unfold Operation.normaliseAxis; rw [h]

/-- R126: the operation goes on from the end of a leg. -/
theorem State.legOver_conclude {s : State} {a : Axis} {n : Operation} {t : State} (hc : s.engine.closing = [])
    (hk : n.kind = .normalise) (hadv : (s.legOver a n 0).advanceLeg n = t) (ht : t.settled) :
    (s.legOver a n 2).conclude [] = t := by
  have hfuel : (s.legOver a n 2).conclude [] = State.concludeFor 16 [] (s.legOver a n 2) := by
    show State.concludeFor ([].length + s.engine.closing.length + 16) [] _ = _
    rw [hc]
    rfl
  have hadvance : (s.legOver a n 0).advance n = t := by
    unfold State.advance
    rw [hk]
    exact hadv
  rw [hfuel, State.concludeFor_advance (s := s.legOver a n 2) (op := n) (k := 2) rfl rfl hc]
  show State.concludeFor 15 [] ((s.legOver a n 0).advance n) = t
  rw [hadvance]
  exact State.conclude_settled_for 14 ht []

section Advance

variable {s : State} {n : Operation} {a : Axis} (hsrc : n.source = .axis a)

include hsrc

theorem State.advanceLeg_leg1 (hst : n.stage = .leg1) {x : Int} (hl : n.legEnd = some (.endStop, x)) :
    s.advanceLeg n = s.enterLeg2 a := by
  unfold State.advanceLeg
  rw [hst, hl, Operation.normaliseAxis_eq hsrc]

/-- R40: the stops are kept where they are 64 apart or more. -/
theorem State.advanceLeg_leg2 (hst : n.stage = .leg2) {x : Int} (hl : n.legEnd = some (.endStop, x))
    (hlow : n.newLow = some 10) :
    s.advanceLeg n = if 84 ≤ x then s.enterLeg3 a x n.d1 else s.failRange n a x := by
  unfold State.advanceLeg
  rw [hst, hl, hlow, Operation.normaliseAxis_eq hsrc]
  exact if_congr ⟨fun h => by simp at h; omega, fun h => by simp; omega⟩ rfl rfl

/-- R42: a seek leg that ends otherwise. -/
theorem State.advanceLeg_fails (hst : n.stage = .leg1 ∨ n.stage = .leg2) {o : AxisOutcome} {x : Int}
    (hl : n.legEnd = some (o, x)) (ho : o ≠ .endStop) :
    s.advanceLeg n = (s.releaseActive.modAxis a fun u => { u with confidence := n.startConfidence }).closeOp
      (n.modOutcome a fun y => { y with
        outcome := some o, final := some x, suspect := a.counted && n.startConfidence == .suspect }) := by
  have hend : s.advanceLeg n = s.releaseActive.endOp n := by
    unfold State.advanceLeg
    rw [hl]
    rcases hst with h | h <;> rw [h] <;> cases o <;> first | rfl | exact absurd rfl ho
  have hseek : n.seeking = true := by
    unfold Operation.seeking
    rcases hst with h | h <;> rw [h] <;> rfl
  let t := s.releaseActive.modAxis a fun u => { u with confidence := n.startConfidence }
  have hsus : t.suspectNow a = (a.counted && n.startConfidence == .suspect) := by
    unfold State.suspectNow
    rw [show t.axis a = _ from State.axis_setAxis_same _ _ _]
  have hfail : s.releaseActive.failSeek n = (t, n.modOutcome a fun y => { y with
      outcome := some o, final := some x, suspect := a.counted && n.startConfidence == .suspect }) := by
    unfold State.failSeek
    rw [hl, Operation.normaliseAxis_eq hsrc, ← hsus]
    cases o <;> first | rfl | exact absurd rfl ho
  rw [hend]
  unfold State.endOp
  rw [hseek, hfail]
  rfl

omit hsrc in
theorem State.advanceLeg_leg3 (hst : n.stage = .leg3) : s.advanceLeg n = s.releaseActive.closeOp n := by
  have hseek : n.seeking = false := by unfold Operation.seeking; rw [hst]; rfl
  unfold State.advanceLeg State.endOp
  rw [hst, hseek]
  rfl

end Advance

/-! ## The close of a NORMALISE -/

theorem opResult_one {y : OutcomeEntry} {r : AxisOutcome} (hp : y.planned = true) (hr : y.outcome = some r) :
    opResult [y] none = if r = .reached then .complete else .partly := by
  simp [opResult, hp, hr]

/-- R137 to R139: a NORMALISE closes with the one entry of its outcome list. -/
theorem State.normaliseCloses {w : State} {n : Operation} {a : Axis} {y : OutcomeEntry} {r : AxisOutcome} {x : Int}
    (hk : n.kind = .normalise) (hsrc : n.source = .axis a) (hab : n.abortCause = none) (hout : n.outcomes = [y])
    (hpl : y.planned = true) (hr : y.outcome = some r) (hx : y.final = some x) (hp : w.power.state ≠ .park)
    (harm : w.engine.arm = none) (hret : w.engine.returnAllowed = false) :
    let result : OpResult := if r = .reached then .complete else .partly
    w.onlyIn (w.closeOp n) [.ports, .engine] ∧
    (w.closeOp n).engine = { w.engine with ring := ({
      tag := n.tag, cause := .normalise, port := n.requester, result := result, abortCause := none
      entries := [⟨y.axis, y.from_, x, r⟩] } :: w.engine.ring).take 8 } ∧
    w.gains (w.closeOp n) (eventAt (opDonePorts n.requester) (.opDone .normalise n.tag result none [y])) := by
  intro result
  have hclose : w.closeOp n = w.opClosed n :=
    State.closeOp_closed hp (.inr ⟨harm, .inl ⟨hret, by rw [hk]; decide⟩⟩)
  obtain ⟨honly, hengine, hstamp, hgains⟩ := State.opClosed_effect hp n
  obtain ⟨htable, hstore⟩ := hstamp.2 (by rw [hsrc]; nofun)
  have hresult : opResult [y] none = result := opResult_one hpl hr
  have hplanned : n.outcomes.any (·.planned) = true := by rw [hout]; simp [hpl]
  have hrecord : n.recordOf n.outcomes n.abortCause = {
      tag := n.tag, cause := .normalise, port := n.requester, result := result, abortCause := none
      entries := [⟨y.axis, y.from_, x, r⟩] } := by
    unfold Operation.recordOf
    rw [hout, hab, hresult, hk]
    simp [hpl, hr, hx, OpKind.historyCause]
  rw [hclose]
  refine ⟨fun p hp => ?_, ?_, ?_⟩
  · by_cases h1 : p = .table
    · subst h1; exact htable
    · by_cases h2 : p = .store
      · subst h2; exact hstore
      · exact honly p (by simp_all)
  · rw [hengine, hplanned, if_pos rfl, hrecord, hk]
    show ({ w.engine with ring := _, returnAllowed := w.engine.returnAllowed || false } : RecallEngine) = _
    rw [Bool.or_false]
  · rw [hout, hab] at hgains
    unfold Operation.doneEvent at hgains
    rw [hresult, hk] at hgains
    exact hgains

end Sys2Proof.Machine
end

section
/-! PROOF. The legs of a NORMALISE (02, section 2.7): where each leg goes. -/

namespace Sys2Proof.Machine

/-! ## The learned stops -/

/-- R26: the learned stops of one axis are replaced. -/
theorem State.setStops_effect (s : State) {a : Axis} (hc : a.counted = true) (x : Option Stops) :
    s.onlyIn (s.setStops a x) [.van] ∧ (∃ v, (s.setStops a x).van = { s.van with stops := v }) ∧
      ∀ b, (s.setStops a x).stopsOf b = if b = a then x else s.stopsOf b := by
  have ha : a.val < 6 := by simpa [Axis.counted] using hc
  have hset : s.setStops a x = { s with van := { s.van with stops := s.van.stops.set a.val x } } := dif_pos ha
  rw [hset]
  refine ⟨s.onlyIn_van _, ⟨_, rfl⟩, fun b => ?_⟩
  unfold State.stopsOf
  by_cases hb : b.val < 6
  · rw [dif_pos hb, dif_pos hb]
    show (s.van.stops.set a.val x)[b.val] = _
    rw [Vector.getElem_set]
    exact if_congr ⟨fun h => Fin.ext h.symm, fun h => by rw [h]⟩ rfl rfl
  · rw [dif_neg hb, dif_neg hb, if_neg (fun h => hb (by rw [h]; exact ha))]

/-- R40: the stops of an axis are replaced with its unit, and the van record is committed. -/
def State.stopsCommitted (s : State) (a : Axis) (x : Option Stops) (v : AxisUnit) : State :=
  ((s.setStops a x).setAxis a v).commit vanBlock

theorem State.stopsCommitted_effect {s : State} {a : Axis} (hc : a.counted = true) (hp : s.power.state ≠ .park)
    (x : Option Stops) (v : AxisUnit) :
    let t := s.stopsCommitted a x v
    s.onlyIn t [.axes, .van, .store] ∧ t.axis a = v ∧ (∀ b, b ≠ a → t.axis b = s.axis b) ∧
      (∀ b, t.stopsOf b = if b = a then x else s.stopsOf b) ∧ (∃ w, t.van = { s.van with stops := w }) ∧
      t.store.vanState = .pending ∧ (s.commitPlace 49 = true → s.tookCommit t 49) := by
  intro t
  let u := (s.setStops a x).setAxis a v
  obtain ⟨hstops, ⟨w, hw⟩, hof⟩ := s.setStops_effect hc x
  obtain ⟨h1, h2⟩ := (s.setStops a x).setAxis_frame a v
  have hu : s.onlyIn u [.axes, .van] := (hstops.mono (by simp)).trans (((s.setStops a x).onlyIn_setAxis a v).mono (by simp))
  have hcommit : u.onlyIn t [.store] := State.commit_only_store rfl u
  have haxis : ∀ b, t.axis b = u.axis b := State.axis_congr (hcommit .axes (by simp))
  have hvan : t.van = (s.setStops a x).van := hcommit .van (by simp)
  refine ⟨(hu.mono (by simp)).trans (hcommit.mono (by simp)), (haxis a).trans h1, fun b hb => ?_, fun b => ?_, ⟨w, hvan.trans hw⟩,
    (u.commit_storage 49).2.1, fun hplace => ?_⟩
  · exact (haxis b).trans ((h2 b hb).trans (State.axis_congr (hstops .axes (by simp)) b))
  · rw [← hof b]
    unfold State.stopsOf
    rw [hvan]
  · exact State.tookCommit_commit (hu .store (by simp))
      (by rw [show u.power = s.power from hu .power (by simp)]; exact hp) hplace

/-- A commit of the van record sees the van record alone. -/
theorem State.tookCommit.after_van {s t u : State} (h : s.tookCommit t 49) (hs : u.store = t.store) (hv : u.van = t.van) :
    s.tookCommit u 49 := by
  have himage : u.imageOf 49 = t.imageOf 49 := congrArg Image.van hv
  unfold State.tookCommit at h ⊢
  rw [hs, himage, State.onSpare_congr (congrArg _ hs)]
  exact h

/-! ## The leg that follows -/

section Follows

variable {s : State} {a : Axis} {n : Operation} (hcount : a.counted = true) (hc : s.engine.closing = [])
  (hr : s.power.state = .run) (hh : (s.axis a).hot = false) (hb : demand a ≤ s.budget)

theorem State.legOver_effect (s : State) (a : Axis) (n : Operation) (k : Nat) :
    s.onlyIn (s.legOver a n k) [.axes, .moves, .engine] ∧ (s.legOver a n k).axis a = (s.axis a).rested ∧
      ∀ b, b ≠ a → (s.legOver a n k).axis b = s.axis b := by
  obtain ⟨h1, h2⟩ := s.setAxis_frame a (s.axis a).rested
  exact ⟨(((s.onlyIn_setAxis a _).mono (by simp)).trans ((State.onlyIn_withMoves _ _).mono (by simp))).trans
    ((State.onlyIn_engine _ _).mono (by simp)), h1, h2⟩

include hcount hc hr hh hb

/-- R39: leg 2 drives UP. -/
theorem State.enterLeg2_drives :
    let n2 : Operation := { n with stage := .leg2, newLow := some 10, legEnd := none }
    let v : AxisUnit := { (s.axis a).rested with position := 0 }
    (s.legOver a n 0).enterLeg2 a = ((s.setAxis a (v.drive a .up none)).withMoves
      { entries := [(n2.entry a (.seek .up)).granted (s.timeLimitOf a 0 (.seek .up))] }).withActive (some n2.told) := by
  intro n2 v
  let w := ((s.setAxis a v).withMoves {}).withActive (some n2)
  have hwv : w.axis a = v := State.axis_setAxis_same s a v
  have hmod := congrArg (fun x : State => (x.withActive (some n2)).admitOp a (.seek .up))
    (State.modAxis_setAxis_withMoves s a (s.axis a).rested {} fun u => { u with position := 0 })
  have henter : (s.legOver a n 0).enterLeg2 a = w.admitOp a (.seek .up) := hmod
  have hadmit := State.admitOp_seek (s := w) (op := n2) rfl rfl hc hr (by rw [hwv]; rfl) (by rw [hwv]; exact hh) hb .up hcount
  rw [hwv] at hadmit
  rw [henter, hadmit]
  have hsame := congrArg (fun x : State => (x.withMoves
      { entries := [(n2.entry a (.seek .up)).granted (s.timeLimitOf a 0 (.seek .up))] }).withActive (some n2.told))
    (State.setAxis_setAxis s a v (v.drive a .up none))
  exact hsame

/-- R40, R41: leg 3 drives back to where leg 1 began. -/
theorem State.enterLeg3_drives {x : Int} :
    let g := clampInt 10 (x - 10) n.d1
    let n3 : Operation := { n with
      stage := .leg3, legEnd := none
      outcomes := n.outcomes.map fun y => if y.axis = a then { y with target := some g, clamped := decide (g ≠ n.d1) } else y }
    let v : AxisUnit := { (s.axis a).rested with confidence := .normalised, halted := false }
    let c := (s.legOver a n 0).stopsCommitted a (some ⟨10, x - 10⟩) v
    2 < ((s.axis a).position - g).natAbs →
    (s.legOver a n 0).enterLeg3 a x n.d1 = ((c.setAxis a (v.drivenTo a g false)).withMoves
      { entries := [(n3.entry a (.target g)).granted (1000 + 2 * (g - (s.axis a).position).natAbs * s.msPerCount a)]
        }).withActive (some n3.told) := by
  intro g n3 v c hd
  let l := s.legOver a n 0
  obtain ⟨hl, hla, -⟩ := s.legOver_effect a n 0
  have hlr : l.power.state ≠ .park := by rw [show l.power.state = .run from hr]; decide
  obtain ⟨honly, hca, -, -, ⟨z, hz⟩, -, -⟩ := State.stopsCommitted_effect (s := l) hcount hlr (some ⟨10, x - 10⟩) v
  have hce : c.engine = l.engine := honly .engine (by simp)
  have hmod : (l.setStops a (some ⟨10, x - 10⟩)).modAxis a (fun u => { u with confidence := .normalised, halted := false }) =
      (l.setStops a (some ⟨10, x - 10⟩)).setAxis a v := by
    have hax : (l.setStops a (some ⟨10, x - 10⟩)).axis a = (s.axis a).rested :=
      (State.axis_congr ((l.setStops_effect hcount _).1 .axes (by simp)) a).trans hla
    unfold State.modAxis
    rw [hax]
  have hactive : (c.modActive fun op => { op.modOutcome a (fun y => { y with target := some g, clamped := g != n.d1 }) with
      stage := .leg3, legEnd := none }) = c.withActive (some n3) := by
    show c.withActive (c.engine.active.map _) = _
    rw [hce]
    have hflag : (g != (n.d1 : Int)) = decide (g ≠ n.d1) := by by_cases h : g = n.d1 <;> simp [h]
    rw [hflag]
    rfl
  have henter : l.enterLeg3 a x n.d1 = (c.withActive (some n3)).admitOp a (.target g) := by
    rw [← hactive]
    unfold State.enterLeg3
    rw [show clampTarget 10 (x - 10) n.d1 = (g, g != n.d1) from rfl]
    dsimp only
    rw [hmod]
    rfl
  have hbud : demand a ≤ (c.withActive (some n3)).budget := by
    show demand a ≤ budgetOf c.monitor.fresh c.monitor.record
    rw [show c.monitor = s.monitor from honly .monitor (by simp)]
    exact hb
  have hadmit := State.admitOp_target (s := c.withActive (some n3)) (op := n3) (a := a) (g := g) (honly .moves (by simp)) rfl
    ((congrArg RecallEngine.closing hce).trans hc) ((congrArg PowerControl.state (honly .power (by simp))).trans hr)
    ((congrArg AxisUnit.motion hca).trans rfl) ((congrArg AxisUnit.hot hca).trans hh) hbud
    (fun k => by rw [Axis.mirror_eq, hcount] at k; cases k)
    (by show deadband a < ((c.axis a).position - g).natAbs; rw [hca, deadband, if_pos hcount]; exact hd)
  have hms : (c.withActive (some n3)).msPerCount a = s.msPerCount a := by
    show c.msPerCount a = _
    unfold State.msPerCount State.countedCal
    rw [hz]
    rfl
  rw [hms, show (c.withActive (some n3)).axis a = v from hca] at hadmit
  exact henter.trans hadmit

end Follows

/-- R40: the stops found are too close. -/
theorem State.failRange_eq (s : State) {a : Axis} (hcount : a.counted = true) (n : Operation) (x : Int) :
    (s.legOver a n 0).failRange n a x =
      ((s.legOver a n 0).stopsCommitted a none { (s.axis a).rested with confidence := .lost }).releaseActive.closeOp
        (n.modOutcome a fun y => { y with outcome := some .range, final := some x, suspect := false }) := by
  let l := s.legOver a n 0
  have hax : (l.setStops a none).axis a = (s.axis a).rested :=
    (State.axis_congr ((l.setStops_effect hcount _).1 .axes (by simp)) a).trans (s.legOver_effect a n 0).2.1
  unfold State.failRange State.modAxis
  rw [hax]
  rfl

/-- R42: the axis after a seek leg that failed. -/
theorem State.legOver_confidence (s : State) (a : Axis) (n : Operation) (c : Confidence) :
    let w := (s.legOver a n 0).releaseActive.modAxis a fun u => { u with confidence := c }
    s.onlyIn w [.axes, .moves, .engine] ∧ w.axis a = { (s.axis a).rested with confidence := c } ∧
      ∀ b, b ≠ a → w.axis b = s.axis b := by
  intro w
  let l := (s.legOver a n 0).releaseActive
  obtain ⟨h1, h2, h3⟩ := s.legOver_effect a n 0
  obtain ⟨k1, k2⟩ := l.setAxis_frame a { l.axis a with confidence := c }
  have hrel : (s.legOver a n 0).onlyIn l [.engine] := State.onlyIn_engine _ _
  refine ⟨(h1.trans (hrel.mono (by simp))).trans ((l.onlyIn_setAxis a _).mono (by simp)), k1.trans ?_,
    fun b hb => (k2 b hb).trans (h3 b hb)⟩
  rw [show l.axis a = (s.axis a).rested from h2]

/-- R137 to R139: what the close of a NORMALISE leaves, its leg's move having ended. -/
theorem State.leg_closes {s w : State} {op n : Operation} {e : MoveEntry} {a : Axis} {d : Disposition} {y : OutcomeEntry}
    {r : AxisOutcome} {x : Int} (h : s.legSettles op e a d)
    (hn : n.kind = op.kind ∧ n.source = op.source ∧ n.abortCause = op.abortCause ∧ n.tag = op.tag ∧
      n.requester = op.requester) (hout : n.outcomes = [y]) (hax : y.axis = a) (hpl : y.planned = true)
    (hr : y.outcome = some r) (hx : y.final = some x) (harm : s.engine.arm = none)
    (hret : s.engine.returnAllowed = false) (hw : s.onlyIn w [.axes, .moves, .engine, .van, .store]) (hm : w.moves = {})
    (he : w.engine = { s.engine with active := none }) (hother : ∀ b, b ≠ a → w.axis b = s.axis b) :
    let t := w.closeOp n
    let result : OpResult := if r = .reached then .complete else .partly
    (t.settled ∧ w.onlyIn t [.ports, .engine]) ∧ t.moves = {} ∧ (∀ b, b ≠ a → t.axis b = s.axis b) ∧
      t.engine = { s.engine with active := none, ring := ({
        tag := op.tag, cause := .normalise, port := op.requester, result := result, abortCause := none
        entries := [⟨a, y.from_, x, r⟩] } :: s.engine.ring).take 8 } ∧
      s.gains t (eventAt (opDonePorts op.requester) (.opDone .normalise op.tag result none [y])) := by
  intro t result
  obtain ⟨-, hrun, -, -, -, hcl, hkind, hsrc, hab, -⟩ := h
  obtain ⟨hn1, hn2, hn3, hn4, hn5⟩ := hn
  have hpark : w.power.state ≠ .park := by
    rw [show w.power = s.power from hw .power (by simp), hrun]
    decide
  obtain ⟨honly, hengine, hgains⟩ := State.normaliseCloses (hn1.trans hkind) (hn2.trans hsrc) (hn3.trans hab) hout hpl hr hx
    hpark (by rw [he]; exact harm) (by rw [he]; exact hret)
  rw [hn4, hn5] at hengine hgains
  have hmoves : t.moves = {} := (honly .moves (by simp)).trans hm
  refine ⟨⟨State.settled_of_quiet ⟨hmoves, ?_, ?_⟩, honly⟩, hmoves, fun b hb => ?_, ?_, ?_⟩
  · rw [hengine, he]
  · rw [hengine, he]
    exact hcl
  · exact (State.axis_congr (honly .axes (by simp)) b).trans (hother b hb)
  · rw [hengine, he, hax]
  · exact ((State.gains_of_ports (hw .ports (by simp))).trans hgains).congr fun p => List.nil_append _

end Sys2Proof.Machine

namespace Sys2Proof

open Machine

/-- Settles O46: the start of leg 1, the leg that follows each leg, and the close. -/
theorem normaliseRunsItsLegs : Obligations.NormaliseRunsItsLegs := by
  unfold Obligations.NormaliseRunsItsLegs
  intro s a u seekLimit
  refine ⟨fun p x k hp hq hax hcount heff hcold hidle hperm hb => ?_, fun op e d h hcold hb hd => ?_,
    fun op e d o h hout hoa hopl harm hret => ?_⟩
  · let v := s.written p (.normalise x)
    let op : Operation := { id := v.model.nextId, kind := .normalise, tag := v.table.counter, requester := p, stage := .leg1
                            source := .axis a, outcomes := [{ axis := a, planned := true, from_ := u.position }]
                            startConfidence := u.confidence }
    let l := v.opStarted op
    have hstart : v.onlyIn l [.engine, .table, .model] := v.onlyIn_opStarted op
    have hadmit := State.admitOp_seek (s := l) (op := op) (a := a) hq.1 rfl hq.2.2 k.2.1 hidle hcold hb .down hcount
    let w := ((l.setAxis a ((l.axis a).drive a .down none)).withMoves
      { entries := [(op.entry a (.seek .down)).granted (l.timeLimitOf a (l.axis a).position (.seek .down))] }).withActive
        (some op.told)
    have hsettled : w.settled := State.settled_ofOp (op := op.told) rfl rfl hq.2.2 rfl
    have hstarts : (v.startNormalise p a).conclude [] = w := by
      rw [show v.startNormalise p a = w from hadmit]
      exact State.conclude_settled hsettled []
    have hreq : v.reqNormalise p x = (w, acceptedWith s.table.counter) := by
      have heff' : ¬v.isEffective a = false := fun h => by cases heff.symm.trans h
      have hfree : ¬(v.engine.active.isSome = true ∨ (v.entryOf a).isSome = true) := by
        rw [show v.engine.active = none from hq.2.1]
        unfold State.entryOf
        rw [show v.moves = {} from hq.1]
        rintro (h | h) <;> cases h
      have hperm' : ¬v.permitsCause .normalise = false := fun h => by cases hperm.symm.trans h
      rw [State.reqNormalise_counted (s := v) k.2.1 p hax hcount, if_neg heff', if_neg hfree,
        if_neg (show ¬(v.axis a).hot = true from Bool.eq_false_iff.mp hcold), if_neg hperm', hstarts]
      rfl
    obtain ⟨hset, hother⟩ := l.setAxis_frame a ((l.axis a).drive a .down none)
    have hlw : l.onlyIn w [.axes, .moves, .engine] :=
      (((l.onlyIn_setAxis a _).mono (by simp)).trans ((State.onlyIn_withMoves _ _).mono (by simp))).trans
        ((State.onlyIn_engine _ _).mono (by simp))
    obtain ⟨t, ht, hst, hwt, hans⟩ := exec_changes (c := .normalise p x) rfl k
      (by cases p <;> first | rfl | exact absurd rfl hp) (Request.length_frame_le _ nofun) hreq
      (ps := [.ports, .axes, .moves, .engine, .table, .model]) ((hstart.mono (by simp)).trans (hlw.mono (by simp))) (by simp)
      (State.gains_of_ports rfl)
    have haxis := State.axis_congr (hwt .axes (by simp))
    refine ⟨t, ht, hst, hans, hwt .table (by simp), (haxis a).trans (hset.trans (AxisUnit.drive_seek hcount _ _)),
      fun b hb => (haxis b).trans (hother b hb), op.id, (hwt .moves (by simp)).trans rfl, (hwt .engine (by simp)).trans rfl⟩
  · intro granted driving
    obtain ⟨hs, hrun, -, hcount, hact, hcl, hkind, hsrc, -⟩ := id h
    let n := op.legReported .endStop u.position
    have hends : ∀ {t : State}, op.stage = .leg1 ∨ op.stage = .leg2 → (s.legOver a n 0).advanceLeg n = t → t.settled →
        exec (.coastEnd a) s = .next t := fun hst hadv ht => by
      rw [exec_coastEnd hs a, State.coastEnd_seekLeg h hd hst (by decide) nofun]
      exact congrArg _ (State.legOver_conclude hcl hkind hadv ht)
    have htwice : (op.progress.map fun _ => 5000).map (fun _ => 5000) = op.progress.map fun _ => (5000 : Nat) := by
      rw [Option.map_map]
      rfl
    refine ⟨fun hst => ?_, fun hst hlow hfar hplace => ?_⟩
    · let v : AxisUnit := { u.rested with position := 0 }
      have hdrives := State.enterLeg2_drives (n := n) hcount hcl hrun hcold hb
      obtain ⟨hset, hother⟩ := s.setAxis_frame a (v.drive a .up none)
      refine ⟨_, hends (.inl hst) ((State.advanceLeg_leg1 (n := n) hsrc hst rfl).trans hdrives)
        (State.settled_ofOp rfl rfl hcl rfl), ?_, hset.trans (AxisUnit.drive_seek hcount _ _), hother, ?_, ?_⟩
      · exact (((s.onlyIn_setAxis a _).mono (by simp)).trans ((State.onlyIn_withMoves _ _).mono (by simp))).trans
          ((State.onlyIn_engine _ _).mono (by simp))
      · show ({ s.engine with active := some { granted with
          stage := .leg2, newLow := some 10, progress := (op.progress.map fun _ => 5000).map fun _ => 5000 } } :
            RecallEngine) = _
        rw [htwice]
      · show ({ entries := [({ n with stage := .leg2, newLow := some 10, legEnd := none }.entry a (.seek .up)).granted _] } :
          MoveList) = _
        unfold Operation.entry
        rw [hkind]
        rfl
    · intro hi g hdist
      let v : AxisUnit := { u.rested with confidence := .normalised, halted := false }
      let l := s.legOver a n 0
      let c := l.stopsCommitted a (some ⟨10, hi⟩) v
      obtain ⟨hsl, -, hlother⟩ := s.legOver_effect a n 0
      have hdrives := State.enterLeg3_drives (n := n) hcount hcl hrun hcold hb hdist
      have hadv := (State.advanceLeg_leg2 (s := l) (n := n) hsrc hst rfl hlow).trans ((if_pos hfar).trans hdrives)
      have hpark : l.power.state ≠ .park := by rw [show l.power.state = .run from hrun]; decide
      obtain ⟨hlc, hcv, hcother, hstops, ⟨z, hz⟩, hvs, htook⟩ :=
        State.stopsCommitted_effect (s := l) hcount hpark (some ⟨10, hi⟩) v
      obtain ⟨hset, hother⟩ := c.setAxis_frame a (v.drivenTo a g false)
      have hengine : c.engine = { s.engine with active := some n } := hlc .engine (by simp)
      have htook' : s.tookCommit c 49 := htook hplace
      refine ⟨_, hends (.inr hst) hadv (State.settled_ofOp rfl rfl ((congrArg RecallEngine.closing hengine).trans hcl) rfl), ?_,
        hset, fun b hb' => (hother b hb').trans ((hcother b hb').trans (hlother b hb')), fun b => hstops b, ⟨z, hz⟩, hvs,
        htook'.after_van rfl rfl, ?_, ?_⟩
      · exact ((hsl.mono (by simp)).trans (hlc.mono (by simp))).trans ((((c.onlyIn_setAxis a _).mono (by simp)).trans
          ((State.onlyIn_withMoves _ _).mono (by simp))).trans ((State.onlyIn_engine _ _).mono (by simp)))
      · show ({ c.engine with active := some { granted with
          stage := .leg3, progress := (op.progress.map fun _ => 5000).map fun _ => 5000, outcomes := _ } } : RecallEngine) = _
        rw [hengine, htwice]
        rfl
      · show ({ entries := [Operation.entry { n with stage := .leg3, legEnd := none, outcomes := _ } a _ |>.granted _] } :
          MoveList) = _
        unfold Operation.entry
        rw [hkind]
        rfl
  · intro closed
    obtain ⟨hs, hrun, -, hcount, hact, hcl, hkind, hsrc, -⟩ := id h
    have hmod : ∀ f : OutcomeEntry → OutcomeEntry, op.outcomes.map (fun y => if y.axis = a then f y else y) = [f o] := fun f => by
      rw [hout]
      exact congrArg (fun y => [y]) (if_pos hoa)
    refine ⟨fun hst hlow hd hnear hplace => ?_, fun hst hk hd => ?_, fun hst hd hk => ?_⟩
    · let n := op.legReported .endStop u.position
      let l := s.legOver a n 0
      let v : AxisUnit := { u.rested with confidence := .lost }
      let c := l.stopsCommitted a none v
      obtain ⟨hsl, -, hlother⟩ := s.legOver_effect a n 0
      have hpark : l.power.state ≠ .park := by rw [show l.power.state = .run from hrun]; decide
      obtain ⟨hlc, hcv, hcother, hstops, ⟨z, hz⟩, hvs, htook⟩ := State.stopsCommitted_effect (s := l) hcount hpark none v
      have hengine : c.engine = { s.engine with active := some n } := hlc .engine (by simp)
      have htook' : s.tookCommit c 49 := htook hplace
      have hsw : s.onlyIn c.releaseActive [.axes, .moves, .engine, .van, .store] :=
        ((hsl.mono (by simp)).trans (hlc.mono (by simp))).trans ((State.onlyIn_engine _ _).mono (by simp))
      obtain ⟨⟨hset, honly⟩, hclosed⟩ := State.leg_closes (w := c.releaseActive)
        (n := n.modOutcome a fun y => { y with outcome := some .range, final := some u.position, suspect := false }) h
        ⟨rfl, rfl, rfl, rfl, rfl⟩ (hmod _) hoa hopl rfl rfl harm hret hsw (hlc .moves (by simp))
        (by show { c.engine with active := none } = _; rw [hengine])
        fun b hb => (hcother b hb).trans (hlother b hb)
      have hadv := (State.advanceLeg_leg2 (s := l) (n := n) hsrc hst rfl hlow).trans
        ((if_neg (by omega)).trans (s.failRange_eq hcount n u.position))
      refine ⟨_, ?_, (hsw.mono (by simp)).trans (honly.mono (by simp)), hclosed, ?_, fun b => ?_,
        ⟨z, (honly .van (by simp)).trans hz⟩, ?_, htook'.after_van (honly .store (by simp)) (honly .van (by simp))⟩
      · rw [exec_coastEnd hs a, State.coastEnd_seekLeg h hd (.inr hst) (by decide) nofun]
        exact congrArg _ (State.legOver_conclude hcl hkind hadv hset)
      · exact (State.axis_congr (honly .axes (by simp)) a).trans hcv
      · refine Eq.trans ?_ (hstops b)
        unfold State.stopsOf
        rw [honly .van (by simp)]
        rfl
      · exact (congrArg ProfileStore.vanState (honly .store (by simp))).trans hvs
    · let n := op.legReported .timeout u.position
      obtain ⟨hsw, hwa, hwother⟩ := s.legOver_confidence a n op.startConfidence
      obtain ⟨⟨hset, honly⟩, hclosed⟩ := State.leg_closes (n := n.modOutcome a fun y => { y with
          outcome := some .timeout, final := some u.position, suspect := a.counted && n.startConfidence == .suspect }) h
        ⟨rfl, rfl, rfl, rfl, rfl⟩ (hmod _) hoa hopl rfl rfl harm hret (hsw.mono (by simp)) rfl rfl hwother
      have hadv := State.advanceLeg_fails (s := s.legOver a n 0) (n := n) hsrc hst rfl (by decide)
      have hsus : (a.counted && op.startConfidence == .suspect) = decide (op.startConfidence = .suspect) := by
        rw [hcount, Bool.true_and]
        exact beq_eq_decide _ _
      refine ⟨_, ?_, (hsw.mono (by simp)).trans (honly.mono (by simp)), ?_,
        (State.axis_congr (honly .axes (by simp)) a).trans hwa⟩
      · rw [exec_coastEnd hs a, State.coastEnd_seekLeg h hd hst (by decide) fun _ => hk]
        exact congrArg _ (State.legOver_conclude hcl hkind hadv hset)
      · rw [← hsus]
        exact hclosed
    · obtain ⟨g, hg, hnear⟩ := hk
      let n := op.leg3Reported a .reached u.position (a.counted && u.confidence == .suspect)
      obtain ⟨hsl, hla, hlother⟩ := s.legOver_effect a n 0
      have hsw : s.onlyIn (s.legOver a n 0).releaseActive [.axes, .moves, .engine] :=
        hsl.trans ((State.onlyIn_engine _ _).mono (by simp))
      obtain ⟨⟨hset, honly⟩, hclosed⟩ := State.leg_closes (n := n) h ⟨rfl, rfl, rfl, rfl, rfl⟩ (hmod _) hoa hopl rfl rfl harm hret
        (hsw.mono (by simp)) rfl rfl hlother
      have hadv := State.advanceLeg_leg3 (s := s.legOver a n 0) (n := n) hst
      have hsus : (a.counted && u.confidence == .suspect) = decide (u.confidence = .suspect) := by
        rw [hcount, Bool.true_and]
        exact beq_eq_decide _ _
      refine ⟨_, ?_, (hsw.mono (by simp)).trans (honly.mono (by simp)), ?_,
        (State.axis_congr (honly .axes (by simp)) a).trans hla⟩
      · rw [exec_coastEnd hs a, State.coastEnd_leg3 h hd hst hg hnear]
        exact congrArg _ (State.legOver_conclude hcl hkind hadv hset)
      · rw [← hsus]
        exact hclosed

end Sys2Proof
end
